-- ==== Sys2Proof/Word.lean ====
section
/-! DEFINITION. The word types of the Chaligo 740: bytes of the runout link and the 32-bit words that wrap. -/

namespace Sys2Proof

/-- A byte of the runout link (R165, type *code*). -/
abbrev Byte := BitVec 8

/-- A 32-bit word that wraps: a puller count (R42) or the notice sequence number (R163). Quantities that hold at their
maximum or are only compared (counters, generations, lengths, indices) are natural numbers. -/
abbrev Word32 := BitVec 32

end Sys2Proof
end

