-- ==== Sys2Proof/Syntax.lean ====
section
/-! DEFINITION. The commands of the part: one constructor per row of spec/opcode_table.json, with the row's operands.
Events name the port, head or strand at which they happen. Requests carry the fields that R168 lays out for their kind, as
received: a number may lie outside its range, and the meaning judges it (R155, R156). -/

namespace Sys2Proof

/-- The two ports of the part (chapter 1). -/
inductive Port where
  | head
  | line
deriving DecidableEq, Repr

/-- The symbols other than a data byte, and the loss of the line signal (R1, R3). -/
inductive LineBreak where
  | frameStart
  | idle
  | signalLoss
deriving DecidableEq, Repr

/-- The GEOMETRY fields of a gauge entry (R81, R87). -/
structure Geometry where
  slot : Nat := 0
  first : Nat := 0
  last : Nat := 0
  repeats : Nat := 0
  stride : Nat := 1
  nominal : Int := 0
  floor : Int := 0
  ceiling : Int := 0
  minValid : Nat := 1
  surfaceWidth : Nat := 1
  label : Nat := 0
deriving DecidableEq, Repr

/-- The TOLERANCE fields of a gauge entry (R81, R87): Lt, Ut, k and w. -/
structure Tolerance where
  lower : Int := 0
  upper : Int := 0
  smoothing : Nat := 1
  warn : Nat := 0
deriving DecidableEq, Repr

/-- The header of a template bank (R80). -/
structure BankHeader where
  entryCount : Nat := 0
  widths : Vector Nat 6 := Vector.replicate 6 512
  voidAllowance : Nat := 0
  settleCount : Nat := 3
  driftAllowance : Nat := 0
  unseenAllowance : Nat := 0
  surfaceAllowance : Nat := 0
  adviceMargin : Nat := 50000
deriving DecidableEq, Repr

/-- The numeric part of a strand's configuration (R51). -/
structure StrandParams where
  pitch : Nat := 5000
  planeOffset : Nat := 0
  weldLength : Nat := 0
  stopMarkLength : Nat := 0
  triggerGuard : Nat := 250
  scanWait : Nat := 5000
  missLimit : Nat := 16
deriving DecidableEq, Repr

/-- The Travel Unit's configuration (R40, R41). -/
structure TravelConfig where
  num : Nat := 10000
  den : Nat := 1000
  maxStep : Nat := 4096
  stallTime : Nat := 500
deriving DecidableEq, Repr

/-- The commands: one constructor for each row of spec/opcode_table.json. -/
inductive Instr where
  /-- POWER_ON_RESET (R6): the straps as they stand when the reset is released. -/
  | powerOnReset (straps : Fin 8)
  /-- HEADER_RECEIVED (R2): the data bytes up to and with the sixth header byte. -/
  | headerReceived (port : Port) (bytes : List Byte)
  /-- TRUNCATED (R3): a symbol other than a data byte, or the loss of the line signal. -/
  | truncated (port : Port) (cause : LineBreak)
  /-- FRAME_COMPLETE (R7): the data bytes up to and with the last check byte. -/
  | frameComplete (port : Port) (bytes : List Byte)
  /-- FRAME_TRANSMITTED (R17): the transmission at a port has ended. -/
  | frameTransmitted (port : Port)
  /-- RELEASE_DELAY_EXPIRY (R25). -/
  | releaseDelayExpiry (head : Fin 16)
  /-- ANNOUNCE_TIMEOUT_EXPIRY (R26). -/
  | announceTimeoutExpiry (head : Fin 16)
  /-- STALL_TIME_EXPIRY (R46). -/
  | stallTimeExpiry
  /-- SCAN_WAIT_EXPIRY (R72): of the strand's oldest OPEN set. -/
  | scanWaitExpiry (strand : Fin 4)
  /-- EVALUATION_COMPLETE (R101). -/
  | evaluationComplete (strand : Fin 4)
  /-- HEAD_READ (R157). -/
  | headRead (head : Nat)
  /-- STRAND_READ (R157). -/
  | strandRead (strand : Nat)
  /-- ENTRY_READ (R90). -/
  | entryRead (strand bank entry : Nat)
  /-- BANK_READ (R90). -/
  | bankRead (strand bank : Nat)
  /-- MAP_READ (R134, R158). -/
  | mapRead (strand firstRun : Nat)
  /-- COUNTERS_READ (R159). -/
  | countersRead (group : Nat)
  /-- ROUTE_READ (R157). -/
  | routeRead
  /-- ENTRY_WRITE of the GEOMETRY group (R87). `group` is the code received: any code but 1, and out of range unless 0. -/
  | entryWriteGeometry (strand bank entry group generation : Nat) (fields : Geometry)
  /-- ENTRY_WRITE of the TOLERANCE group (R87). -/
  | entryWriteTolerance (strand bank entry generation : Nat) (fields : Tolerance)
  /-- BANK_PARAM_WRITE (R88). -/
  | bankParamWrite (strand bank generation : Nat) (header : BankHeader)
  /-- BANK_COPY (R89). -/
  | bankCopy (strand generation : Nat)
  /-- BANK_SWITCH (R92). `option` is the code received: any code but 1 (CANCEL), and out of range unless 0 (SWITCH). -/
  | bankSwitch (strand option : Nat)
  /-- BANK_SWITCH with the option CANCEL (R94). -/
  | bankSwitchCancel (strand : Nat)
  /-- STRAND_CONFIG_WRITE (R51): six slot bytes, 255 for an empty slot. -/
  | strandConfigWrite (strand : Nat) (slots : Vector Nat 6) (params : StrandParams)
  /-- TRAVEL_CONFIG_WRITE (R41). -/
  | travelConfigWrite (config : TravelConfig)
  /-- HEAD_CAL_WRITE (R22). -/
  | headCalWrite (head : Nat) (offset : Int) (releaseDelay announceTimeout : Nat)
  /-- ROUTE_WRITE (R161). -/
  | routeWrite (station action sourceClass : Nat)
  /-- NOTICE_TARGET_WRITE (R161). -/
  | noticeTargetWrite (station : Nat)
  /-- HEAD_HOLD (R23). -/
  | headHold (head : Nat)
  /-- HEAD_RELEASE (R24). -/
  | headRelease (head : Nat)
  /-- STRAND_START (R52). -/
  | strandStart (strand : Nat)
  /-- STRAND_STOP (R54). -/
  | strandStop (strand : Nat)
  /-- STRAND_RESET (R56). -/
  | strandReset (strand : Nat)
  /-- COUNTERS_CLEAR (R160). -/
  | countersClear
  /-- RESTART (R162). -/
  | restart
  /-- UNKNOWN_REQUEST (R155): a request of an unknown kind, or of a length that does not fit its kind. -/
  | unknownRequest (kind : Nat)
  /-- RESTART_TAKES_EFFECT (R18). -/
  | restartTakesEffect
  /-- FRAME_START (R1). -/
  | frameStart (port : Port)
deriving DecidableEq, Repr

end Sys2Proof
end

