-- ==== Sys2Proof/Config.lean ====
section
/-! DEFINITION. What stands outside the spec's words: the strap value at the reset state. The spec leaves the value of no
result undefined, so no free value is declared here (NOTES.md, entry 24 of the assumption log). -/

namespace Sys2Proof

/-- The value of the station straps STN0 to STN2 that `Machine.State.reset` has latched (R6).
DESIGN CHOICE, unsafe: the straps are an input and the spec gives them no value (entry 5). POWER_ON_RESET carries its own. -/
def Config.resetStraps : Fin 8 := 0

end Sys2Proof
end

