-- ==== Sys2Proof/Machine/State.lean ====
section
/-! DEFINITION. The state of the Chaligo 740: every register, table, queue, buffer, counter and mode the spec gives the part,
its values after a power-on reset, and the outcomes of a command. Lengths are in micrometres, times in microseconds of the
part's clock. Counters are natural numbers that hold at 4,294,967,295 (00_scope.md, Counters). -/

namespace Sys2Proof.Machine

/-! ## Outcomes -/

/-- Why the part stops with a fault: never. The spec gives every event an effect on the state (INVENTORY.md, Faults), so no
meaning raises one, and the type has no constructor. -/
inductive Fault where
deriving DecidableEq, Repr

/-- Why a command has no outcome. -/
inductive Refusal where
  /-- The dispatcher has no meaning for the command yet. Raised by `exec` only; safe (the model stops). No arm raises it. -/
  | notModelled (mnemonic : String)
deriving DecidableEq, Repr

/-! ## Codes shared by several blocks (R170) -/

/-- The condition classes, in order of severity. -/
inductive ConditionClass where
  | sound | drift | unseen | surface | dimension | stopMark | weldZone
deriving DecidableEq, Repr

/-- The kinds of a press mark (R127). -/
inductive MarkKind where
  | stopMark | weldZone
deriving DecidableEq, Repr

/-- The cause of a class, when it is present: a label or a mark kind (R116). -/
inductive Cause where
  | label (n : Nat)
  | mark (k : MarkKind)
deriving DecidableEq, Repr

/-- The piece verdicts (R146). -/
inductive PieceVerdict where
  | prime | hold | scrap
deriving DecidableEq, Repr

/-- The states of a head (R20). -/
inductive HeadState where
  | offline | held | releasing | awaiting | online | silent | faulted
deriving DecidableEq, Repr

/-- The fault causes of a head (R20). -/
inductive FaultCause where
  | mute | badMarker | badAnnounce | checkErrors
deriving DecidableEq, Repr

/-- The states of a strand (R50). -/
inductive StrandState where
  | idle | armed | running | stalled | draining | closed
deriving DecidableEq, Repr

/-- The order of a head's samples (R20). -/
inductive SampleOrder where
  | forward | reversed
deriving DecidableEq, Repr

/-- The height sign of a head (R20). -/
inductive HeightSign where
  | up | down
deriving DecidableEq, Repr

/-- The check a head puts on its scans (R20), and the payload check of a frame (R4). -/
inductive CheckMode where
  | crc16 | lrc8
deriving DecidableEq, Repr

/-- The two banks of a strand (R79). -/
inductive BankId where
  | a | b
deriving DecidableEq, Repr

/-- The two pullers (R40). -/
inductive Puller where
  | a | b
deriving DecidableEq, Repr

/-- The class of a source station (R9, R10). -/
inductive SourceClass where
  | none | operator | engineering
deriving DecidableEq, Repr

/-- The action of a route table entry (R9). -/
inductive RouteAction where
  | pass | stop
deriving DecidableEq, Repr

/-- The status of a reply (R155). -/
inductive Status where
  | accepted | acceptedClamped | busy | notPermitted | stale | activeBank | pending | invalid | outOfRange | wrongState
  | unknownRequest
deriving DecidableEq, Repr

/-- The reason of an INVALID reply (R51, R91). -/
inductive InvalidReason where
  | empty | slot | window | band | minValid | instances | headTaken
deriving DecidableEq, Repr

/-- The role of a bank (R79, R90). -/
inductive BankRole where
  | active | standby | pending
deriving DecidableEq, Repr

/-- The kind of an advice record (R148). -/
inductive AdviceKind where
  | run | weld | stop
deriving DecidableEq, Repr

/-! ## Frames -/

/-- A frame of the link, as it stands on the wire after its header has passed (R166): the header check is the
exclusive-or of the other header bytes and is not stored. -/
structure Frame where
  dest : Nat
  source : Nat
  kind : Byte
  payload : List Byte
  check : List Byte
deriving DecidableEq, Repr

/-- The fields of an accepted header (R2). -/
structure Header where
  dest : Nat
  source : Nat
  kind : Byte
  length : Nat
deriving DecidableEq, Repr

/-- The receive parser of a port (R1). -/
inductive Parser where
  | hunt
  | header (held : List Byte)
  | payload (h : Header) (mode : CheckMode) (held : List Byte)
  | check (h : Header) (mode : CheckMode) (body : List Byte) (held : List Byte)
deriving DecidableEq, Repr

/-- A frame of the Head Port own-origin queue (R14). -/
inductive HeadFrame where
  | trigger (strand : Fin 4) (slice : Nat) (mask : BitVec 16)
  | hold (head : Fin 16)
  | release (head : Fin 16)
deriving DecidableEq, Repr

/-! ## Head Table (chapter 2) -/

/-- What a valid announce writes (R28). -/
structure Announced where
  width : Nat
  order : SampleOrder
  sign : HeightSign
  scaleCode : Nat
  checkMode : CheckMode
  serialTag : Nat
deriving DecidableEq, Repr

/-- The counters of a head (R38). -/
structure HeadCounters where
  scansAccepted : Nat := 0
  scansDiscarded : Nat := 0
  checkErrors : Nat := 0
  misses : Nat := 0
  silences : Nat := 0
  faults : Nat := 0
  announces : Nat := 0
  announcesIgnored : Nat := 0
deriving DecidableEq, Repr

/-- A head record (R20), with its power-on values. -/
structure HeadRecord where
  state : HeadState := .offline
  cause : Option FaultCause := none
  assignment : Option (Fin 4 × Fin 6) := none
  announced : Option Announced := none
  offset : Int := 0
  releaseDelay : Nat := 20
  announceTimeout : Nat := 200
  checkErrors : Nat := 0
  misses : Nat := 0
  mismatch : Bool := false
  deadline : Option Nat := none
  counters : HeadCounters := {}
deriving DecidableEq, Repr

/-! ## Travel Unit (chapter 3) -/

/-- The counters of the Travel Unit (R49). -/
structure TravelCounters where
  recordsA : Nat := 0
  recordsB : Nat := 0
  jumps : Nat := 0
  handovers : Nat := 0
  handoverInvalid : Nat := 0
deriving DecidableEq, Repr

/-- The Travel Unit (R40), with its power-on values. `length` is the runout length L. -/
structure Travel where
  driving : Puller := .a
  refA : Option Word32 := none
  refB : Option Word32 := none
  residue : Nat := 0
  debt : Nat := 0
  length : Nat := 0
  moving : Bool := false
  lastAdvance : Option Nat := none
  limitReached : Bool := false
  config : TravelConfig := {}
  counters : TravelCounters := {}
deriving DecidableEq, Repr

/-! ## Slice Assembler (chapter 4) -/

/-- A scan buffer in use (R64). -/
structure Buffer where
  head : Fin 16
  slot : Fin 6
  samples : List (BitVec 16)
  order : SampleOrder
  sign : HeightSign
  scaleCode : Nat
deriving DecidableEq, Repr

/-- A slice set (R63). A slot is received exactly when it has a scan. -/
structure SliceSet where
  slice : Nat
  openTime : Nat
  deadline : Nat
  expected : BitVec 6
  scans : Vector (Option Buffer) 6 := Vector.replicate 6 none
  ready : Bool := false
deriving DecidableEq, Repr

/-- The counters of the Slice Assembler kept for each strand (R77). -/
structure AssemblyCounters where
  setsOpened : Nat := 0
  setsCompleted : Nat := 0
  setsTimedOut : Nat := 0
  forcedClose : Nat := 0
  setRefused : Nat := 0
  slicesReleased : Nat := 0
  slicesSkipped : Nat := 0
deriving DecidableEq, Repr

/-- The part-wide counters of the Slice Assembler (R77). -/
structure ScanCounters where
  stray : Nat := 0
  malformed : Nat := 0
  late : Nat := 0
  duplicate : Nat := 0
  noBuffer : Nat := 0
deriving DecidableEq, Repr

/-! ## Template Store (chapter 5) -/

/-- A gauge entry (R81): its GEOMETRY and its TOLERANCE group. -/
structure GaugeEntry where
  geo : Geometry := {}
  tol : Tolerance := {}
deriving DecidableEq, Repr

/-- A template bank (R79). -/
structure Bank where
  generation : Nat := 0
  header : BankHeader := {}
  entries : Vector GaugeEntry 64 := Vector.replicate 64 {}
deriving DecidableEq, Repr

/-- A pending switch (R92, R95). -/
structure PendingSwitch where
  target : BankId
  switchLength : Option Nat := none
deriving DecidableEq, Repr

/-- The counters of the Template Store (R98). -/
structure TemplateCounters where
  bankWrites : Nat := 0
  bankWritesRefused : Nat := 0
  bankSwitches : Nat := 0
deriving DecidableEq, Repr

/-! ## Gauge Evaluator (chapter 6) -/

/-- An evaluation in flight, with its context (R99, R100). `began` is the model's own (entry 2). -/
structure Evaluation where
  set : SliceSet
  bank : BankId
  mismatch : BitVec 6
  offsets : Vector Int 6
  began : Nat
deriving DecidableEq, Repr

/-- The gauge verdicts of an instance that is not VOID (R111). -/
inductive GaugeVerdict where
  | sound | drift | surface | dimension
deriving DecidableEq, Repr

/-- The cause instance of a last result record (R117). -/
structure CauseInstance where
  number : Nat
  n : Nat
  mean : Int
  outOfBand : Nat
  longestRun : Nat
  peak : Int
  trend : Int
deriving DecidableEq, Repr

/-- The last result record of an engine (R117). -/
structure SliceResult where
  slice : Nat
  bank : BankId
  generation : Nat
  cls : ConditionClass
  cause : Option Cause
  area : Int
  instanceCount : Nat
  voidCount : Nat
  soundCount : Nat
  driftCount : Nat
  surfaceCount : Nat
  dimensionCount : Nat
  causeInstance : Option CauseInstance
deriving DecidableEq, Repr

/-- The counters of an engine (R118). -/
structure EngineCounters where
  slicesEvaluated : Nat := 0
  evaluationsDiscarded : Nat := 0
  instancesVoid : Nat := 0
  samplesClipped : Nat := 0
deriving DecidableEq, Repr

/-! ## Length Map (chapter 7) -/

/-- What a run holds as long as it is open, and once it is closed (R120): an open run has A and O and no end, a closed run
has an end, a reported area and a saturated flag. -/
inductive RunBody where
  | running (acc folds : Int)
  | closed (stop : Nat) (area : Int) (saturated : Bool)
deriving DecidableEq, Repr

/-- A run record (R120). -/
structure Run where
  start : Nat
  body : RunBody
  cls : ConditionClass
  cause : Option Cause
  sliceCount : Nat
  merged : Bool := false
  split : Bool := false
  tail : Bool := false
deriving DecidableEq, Repr

/-- A press mark (R127). -/
structure Mark where
  kind : MarkKind
  start : Nat
  stop : Nat
deriving DecidableEq, Repr

/-- The counters of a Length Map (R135). -/
structure MapCounters where
  runsOpened : Nat := 0
  runsClosed : Nat := 0
  slicesAbsorbed : Nat := 0
  mapMerged : Nat := 0
  marksMade : Nat := 0
  markMerged : Nat := 0
  marksAppliedBack : Nat := 0
  markBehind : Nat := 0
deriving DecidableEq, Repr

/-! ## Piece Unit (chapter 8) -/

/-- An entry of the pending cut list (R137). -/
structure Cut where
  position : Nat
  merged : Bool
deriving DecidableEq, Repr

/-- A piece record (R143). -/
structure Piece where
  strand : Fin 4
  number : Nat
  start : Nat
  stop : Nat
  verdict : PieceVerdict
  worst : ConditionClass
  cause : Option Cause
  lengths : Vector Nat 7
  area : Int
  saturated : Bool
  mergedCut : Bool
  unseenTail : Bool
  mapMerged : Bool
  bank : BankId
  generation : Nat
deriving DecidableEq, Repr

/-- An advice record (R148). -/
structure Advice where
  strand : Fin 4
  kind : AdviceKind
  cls : ConditionClass
  lo : Nat
  hi : Nat
deriving DecidableEq, Repr

/-- The counters of a Piece Unit (R151). -/
structure PieceCounters where
  cutsAccepted : Nat := 0
  cutIgnored : Nat := 0
  backward : Nat := 0
  cutOverrun : Nat := 0
  piecesClosed : Nat := 0
  piecesPrime : Nat := 0
  piecesHold : Nat := 0
  piecesScrap : Nat := 0
  runsRetired : Nat := 0
  tailsAdded : Nat := 0
  adviceIssued : Nat := 0
  adviceLost : Nat := 0
deriving DecidableEq, Repr

/-! ## Strands -/

/-- The counters of Strand Control (R62). -/
structure StrandCounters where
  triggersIssued : Nat := 0
  triggerWithheld : Nat := 0
  pressStopTaken : Nat := 0
  billetChangeTaken : Nat := 0
  pressRunTaken : Nat := 0
  runEndTaken : Nat := 0
deriving DecidableEq, Repr

/-- Everything the part keeps for one strand: the strand record (R50, R51), its slice sets (R63), its banks (R79), its
engine (R99), its Length Map (R119) and its Piece Unit (R137), with their power-on values. -/
structure Strand where
  state : StrandState := .idle
  origin : Option Nat := none
  sliceIndex : Nat := 0
  lastTriggered : Option Nat := none
  lastTriggerTime : Option Nat := none
  lastReleased : Option Nat := none
  front : Nat := 0
  retired : Nat := 0
  active : BankId := .a
  pendingSwitch : Option PendingSwitch := none
  slots : Vector (Option (Fin 16)) 6 := Vector.replicate 6 none
  params : StrandParams := {}
  counters : StrandCounters := {}
  sets : List SliceSet := []
  asmCounters : AssemblyCounters := {}
  bankA : Bank := {}
  bankB : Bank := {}
  tplCounters : TemplateCounters := {}
  eval : Option Evaluation := none
  filters : Vector (Option Int) 256 := Vector.replicate 256 none
  unseed : BitVec 6 := 0
  last : Option SliceResult := none
  engCounters : EngineCounters := {}
  runs : List Run := []
  marks : List Mark := []
  settle : Nat := 0
  mapCounters : MapCounters := {}
  cuts : List Cut := []
  overrun : Bool := false
  closed : List Piece := []
  held : List Advice := []
  pieceCounter : Nat := 0
  pieceCounters : PieceCounters := {}
deriving DecidableEq, Repr

/-! ## Records of the Line Port and the Request Handler (chapter 9) -/

/-- A notice, with the fields of its kind (R163). -/
inductive Notice where
  | headState (head : Fin 16) (old new : HeadState) (cause : Option FaultCause)
  | headReannounced (head : Fin 16) (old new : Announced)
  | strandState (strand : Fin 4) (old new : StrandState)
  | travelJump (puller : Puller) (count : Word32) (delta : Int)
  | lengthLimit (length : Nat)
  | bankTaken (strand : Fin 4) (bank : BankId) (generation : Nat) (switchLength slice : Option Nat)
  | mapMerged (strand : Fin 4) (start : Nat) (cls : ConditionClass)
  | cutOverrun (strand : Fin 4) (position : Nat)
deriving DecidableEq, Repr

/-- A reply (R155): its destination, the tag and kind it echoes, its status, and the bytes after the status (R168). -/
structure Reply where
  dest : Nat
  tag : Nat
  kind : Nat
  status : Status
  body : List Byte
deriving DecidableEq, Repr

/-- A record of the Line Port own-origin queue (R15). A notice carries the destination and the sequence number it took when
it was raised (R161, R163). -/
inductive Record where
  | reply (r : Reply)
  | piece (p : Piece)
  | advice (a : Advice)
  | notice (dest : Nat) (seq : Word32) (n : Notice)
deriving DecidableEq, Repr

/-- A request in the request queue (R152): its source, the class recorded at consumption, its tag, and its kind and fields
as the command that will carry it out. -/
structure Request where
  source : Nat
  sourceClass : SourceClass
  tag : Nat
  op : Instr
deriving DecidableEq, Repr

/-- Where a RESTART stands (R162, R18): none, carried out (its reply not yet sent whole), or due (its reply's transmission
has ended). -/
inductive RestartPhase where
  | idle | carried | due
deriving DecidableEq, Repr

/-- The counters of the Request Handler (R164). -/
structure HandlerCounters where
  requestsDone : Nat := 0
  requestsRefused : Nat := 0
  requestsBusy : Nat := 0
  busyUnsent : Nat := 0
  noticesRaised : Nat := 0
deriving DecidableEq, Repr

/-- The Request Handler (R152 to R154, R161 to R164), with its power-on values. -/
structure Handler where
  requests : List Request := []
  waiting : Option Reply := none
  restart : RestartPhase := .idle
  noticeTarget : Nat := 3
  noticeSeq : Word32 := 0
  counters : HandlerCounters := {}
deriving DecidableEq, Repr

/-! ## Ports (chapter 1) -/

/-- The counters that both ports keep (R19). -/
structure PortCounters where
  framesReceived : Nat := 0
  framesSent : Nat := 0
  headerError : Nat := 0
  payloadError : Nat := 0
  truncated : Nat := 0
  looped : Nat := 0
  formatError : Nat := 0
  unclaimed : Nat := 0
  forwardDrop : Nat := 0
deriving DecidableEq, Repr

/-- A frame in transmission at the Head Port (R12, R17): one of the part's own, or a forwarded one. -/
inductive HeadSending where
  | own (f : HeadFrame)
  | forwarded (f : Frame)
deriving DecidableEq, Repr

/-- A frame in transmission at the Line Port (R12, R17). -/
inductive LineSending where
  | own (r : Record)
  | forwarded (f : Frame)
deriving DecidableEq, Repr

/-- The queue the Line Port's transmitter prefers (R17). -/
inductive Preference where
  | own | forward
deriving DecidableEq, Repr

/-- The Head Port (R1, R13, R14, R17, R19). -/
structure HeadPort where
  parser : Parser := .hunt
  forward : List Frame := []
  own : List HeadFrame := []
  tx : Option HeadSending := none
  counters : PortCounters := {}
  headPortRequest : Nat := 0
  triggerDrop : Nat := 0
  controlDrop : Nat := 0
deriving DecidableEq, Repr

/-- The Line Port (R1, R13, R15 to R17, R19). -/
structure LinePort where
  parser : Parser := .hunt
  forward : List Frame := []
  own : List Record := []
  tx : Option LineSending := none
  prefer : Preference := .own
  adviceTurn : Fin 4 := 0
  pieceTurn : Fin 4 := 0
  counters : PortCounters := {}
  noticeDrop : Nat := 0
deriving DecidableEq, Repr

/-- A route table entry (R9). -/
structure Route where
  action : RouteAction
  sourceClass : SourceClass
deriving DecidableEq, Repr

/-- The power-on class of a station (R10). -/
def powerOnClass (station : Nat) : SourceClass :=
  if station = 1 then .engineering
  else if 8 ≤ station ∧ station ≤ 31 then .none
  else .operator

/-- The power-on route table (R10). -/
def powerOnRoutes : Vector Route 64 :=
  ⟨⟨(List.range 64).map fun n => { action := .pass, sourceClass := powerOnClass n }⟩, by simp⟩

/-! ## The state of the part -/

/-- The whole state. `pending` is the queue of commands that are waiting, first in, first out, and `now` is the time in
microseconds since the last power-on reset (entry 1). Every other field is the spec's. -/
structure State where
  pending : List Instr := []
  now : Nat := 0
  ownStation : Nat
  routes : Vector Route 64 := powerOnRoutes
  headPort : HeadPort := {}
  linePort : LinePort := {}
  heads : Vector HeadRecord 16 := Vector.replicate 16 {}
  travel : Travel := {}
  strands : Vector Strand 4 := Vector.replicate 4 {}
  scans : ScanCounters := {}
  pressUnknown : Nat := 0
  cutInvalid : Nat := 0
  handler : Handler := {}
deriving DecidableEq, Repr

/-- The part after a power-on reset at which the straps read `straps` (R6; the power-on column of every chapter). -/
def State.powerOn (straps : Fin 8) : State := { ownStation := 48 + straps.val }

/-- The part after reset. The strap value is `Config.resetStraps` (entry 5). -/
def State.reset : State := State.powerOn Config.resetStraps

end Sys2Proof.Machine
end

