-- ==== Sys2Proof/Machine/Ops.lean ====
section
/-! DEFINITION. The named operations over the state that every block shares: counters, the tables' entries, the queues of the
two ports, notices, advice and the state changes of a strand. -/

namespace Sys2Proof.Machine

/-! ## Counters (00_scope.md, Counters) -/

/-- The value at which a counter holds. -/
def counterMax : Nat := 4294967295

/-- A counter increased by `n`. It holds at its maximum. -/
def satAdd (c n : Nat) : Nat := min (c + n) counterMax

/-- A counter increased by 1. -/
def inc (c : Nat) : Nat := satAdd c 1

/-- A value brought into a range: the nearer end where it lies outside (R86). -/
def clampNat (lo hi n : Nat) : Nat := max lo (min hi n)

/-- A signed value brought into a range. -/
def clampInt (lo hi z : Int) : Int := max lo (min hi z)

/-! ## Tables -/

/-- A vector with the entries of a list of the same length. A list of another length changes nothing. -/
def retable {α : Type} {n : Nat} (v : Vector α n) (l : List α) : Vector α n :=
  if h : l.length = n then ⟨⟨l⟩, by simpa using h⟩ else v

/-- Every entry of a vector changed by `f`. -/
def mapTable {α β : Type} {n : Nat} (f : α → β) (v : Vector α n) : Vector β n := ⟨⟨v.toList.map f⟩, by simp⟩

/-- The strands in increasing strand number (R46, R60). -/
def allStrands : List (Fin 4) := [0, 1, 2, 3]

/-- The heads in increasing head number. -/
def allHeads : List (Fin 16) := [0, 1, 2, 3, 4, 5, 6, 7, 8, 9, 10, 11, 12, 13, 14, 15]

/-- The slots in increasing slot number. -/
def allSlots : List (Fin 6) := [0, 1, 2, 3, 4, 5]

/-- The strand that a number names. -/
def strandOfNat (n : Nat) : Option (Fin 4) := if h : n < 4 then some ⟨n, h⟩ else none

/-- The head that a number names. -/
def headOfNat (n : Nat) : Option (Fin 16) := if h : n < 16 then some ⟨n, h⟩ else none

/-- The slot that a number names. -/
def slotOfNat (n : Nat) : Option (Fin 6) := if h : n < 6 then some ⟨n, h⟩ else none

/-- The gauge entry that a number names. -/
def entryOfNat (n : Nat) : Option (Fin 64) := if h : n < 64 then some ⟨n, h⟩ else none

/-- Slot `t` is in the slot set (R165, slot set). -/
def hasSlot (set : BitVec 6) (t : Fin 6) : Bool := set.getLsbD t.val

/-- The slot set with only slot `t`. -/
def oneSlot (t : Fin 6) : BitVec 6 := 1#6 <<< t.val

/-- The slot set of the slots that `p` holds for. -/
def slotSet (p : Fin 6 → Bool) : BitVec 6 :=
  allSlots.foldl (fun acc t => if p t then acc ||| oneSlot t else acc) 0#6

/-- A head's record. -/
def State.head (s : State) (h : Fin 16) : HeadRecord := s.heads[h]

/-- A strand. -/
def State.strand (s : State) (i : Fin 4) : Strand := s.strands[i]

/-- The state with one head's record replaced. -/
def State.setHead (s : State) (h : Fin 16) (r : HeadRecord) : State := { s with heads := s.heads.set h r }

/-- The state with one strand replaced. -/
def State.setStrand (s : State) (i : Fin 4) (st : Strand) : State := { s with strands := s.strands.set i st }

/-- The state with one head's record changed by `f`. -/
def State.modHead (s : State) (h : Fin 16) (f : HeadRecord → HeadRecord) : State := s.setHead h (f (s.head h))

/-- The state with one strand changed by `f`. -/
def State.modStrand (s : State) (i : Fin 4) (f : Strand → Strand) : State := s.setStrand i (f (s.strand i))

/-- A station's route table entry. A number above 63 names none, and is read as entry 63: no rule reads one. -/
def State.route (s : State) (station : Nat) : Route :=
  if h : station < 64 then s.routes[station] else s.routes[63]

/-- The strand length (R50): L less the origin, and 0 where the origin is absent. -/
def State.ell (s : State) (i : Fin 4) : Nat :=
  match (s.strand i).origin with
  | none => 0
  | some o => s.travel.length - o

/-- The other bank of a strand. -/
def BankId.other : BankId → BankId
  | .a => .b
  | .b => .a

/-- A bank of a strand (R79). -/
def Strand.bank (st : Strand) : BankId → Bank
  | .a => st.bankA
  | .b => st.bankB

/-- A strand with one bank replaced. -/
def Strand.setBank (st : Strand) (id : BankId) (v : Bank) : Strand :=
  match id with
  | .a => { st with bankA := v }
  | .b => { st with bankB := v }

/-- The strand's active bank (R79). -/
def Strand.activeBank (st : Strand) : Bank := st.bank st.active

/-- The role of a bank at this moment (R79, R84). -/
def Strand.role (st : Strand) (id : BankId) : BankRole :=
  if id = st.active then .active
  else if st.pendingSwitch.isSome then .pending
  else .standby

/-! ## Condition classes (00_scope.md, Condition classes) -/

/-- The severity of a condition class. -/
def ConditionClass.severity : ConditionClass → Nat
  | .sound => 0
  | .drift => 1
  | .unseen => 2
  | .surface => 3
  | .dimension => 4
  | .stopMark => 5
  | .weldZone => 6

/-- The worse of two classes. -/
def worse (a b : ConditionClass) : ConditionClass := if a.severity < b.severity then b else a

/-- The condition class of a mark kind's name. -/
def MarkKind.cls : MarkKind → ConditionClass
  | .stopMark => .stopMark
  | .weldZone => .weldZone

/-- The worse of two mark kinds. -/
def worseKind : MarkKind → MarkKind → MarkKind
  | .stopMark, .stopMark => .stopMark
  | _, _ => .weldZone

/-- SURFACE or worse: the classes whose runs give advice (R133). -/
def ConditionClass.advised (c : ConditionClass) : Bool := 3 ≤ c.severity

/-! ## The Head Port's queues (R12 to R14, R17) -/

/-- Capacity of each forward queue (R13). -/
def forwardCapacity : Nat := 16
/-- Capacity of the Head Port own-origin queue (R14). -/
def headOwnCapacity : Nat := 8
/-- Capacity of the Line Port own-origin queue (R15). -/
def lineOwnCapacity : Nat := 32
/-- Entries of the Line Port own-origin queue that notices never take: a notice needs one entry more to be free (R15). -/
def noticeReserve : Nat := 3
/-- Capacity of the request queue (R152). -/
def requestCapacity : Nat := 4

/-- The Head Port's transmitter takes its next frame: own-origin first, else a forwarded one (R17). -/
def HeadPort.select (p : HeadPort) : HeadPort :=
  match p.own, p.forward with
  | f :: rest, _ => { p with own := rest, tx := some (.own f) }
  | [], f :: rest => { p with forward := rest, tx := some (.forwarded f) }
  | [], [] => p

/-- A transmitter that sends idle symbols takes a frame at once (R17). -/
def HeadPort.kick (p : HeadPort) : HeadPort := if p.tx.isNone then p.select else p

/-- A frame joins the tail of the own-origin queue (R12). -/
def HeadPort.join (p : HeadPort) (f : HeadFrame) : HeadPort := ({ p with own := p.own ++ [f] } : HeadPort).kick

/-- A frame of the Head Port own-origin queue that is a TRIGGER. -/
def HeadFrame.isTrigger : HeadFrame → Bool
  | .trigger _ _ _ => true
  | .hold _ => false
  | .release _ => false

/-- The queue without the TRIGGER nearest its tail (R14). -/
def dropLastTrigger (q : List HeadFrame) : List HeadFrame := (q.reverse.eraseP HeadFrame.isTrigger).reverse

/-- Entry of a TRIGGER (R14). -/
def HeadPort.enqueueTrigger (p : HeadPort) (f : HeadFrame) : HeadPort :=
  if p.own.length < headOwnCapacity then p.join f else { p with triggerDrop := inc p.triggerDrop }

/-- Entry of a HEAD_HOLD or HEAD_RELEASE (R14). -/
def HeadPort.enqueueControl (p : HeadPort) (f : HeadFrame) : HeadPort :=
  if p.own.length < headOwnCapacity then p.join f
  else if p.own.any HeadFrame.isTrigger then
    ({ p with triggerDrop := inc p.triggerDrop, own := dropLastTrigger p.own } : HeadPort).join f
  else { p with controlDrop := inc p.controlDrop }

/-- A TRIGGER is offered to the Head Port (R14). -/
def State.enqueueTrigger (s : State) (f : HeadFrame) : State := { s with headPort := s.headPort.enqueueTrigger f }

/-- A HEAD_HOLD or HEAD_RELEASE is offered to the Head Port (R14). -/
def State.enqueueControl (s : State) (f : HeadFrame) : State := { s with headPort := s.headPort.enqueueControl f }

/-! ## The Line Port's queues (R12, R13, R15, R17) -/

/-- The Line Port's transmitter takes its next frame by alternation (R17). -/
def LinePort.select (p : LinePort) : LinePort :=
  match p.own, p.forward with
  | [], [] => p
  | r :: rest, [] => { p with own := rest, tx := some (.own r), prefer := .forward }
  | [], f :: rest => { p with forward := rest, tx := some (.forwarded f), prefer := .own }
  | r :: ownRest, f :: fwdRest =>
    match p.prefer with
    | .own => { p with own := ownRest, tx := some (.own r), prefer := .forward }
    | .forward => { p with forward := fwdRest, tx := some (.forwarded f), prefer := .own }

/-- A Line Port transmitter that sends idle symbols takes a frame at once (R17), but makes no selection between the end of
the RESTART reply and the RESTART's effect (R18). -/
def State.kickLine (s : State) : State :=
  if s.linePort.tx.isNone ∧ s.handler.restart ≠ .due then { s with linePort := s.linePort.select } else s

/-- The Line Port own-origin queue has a free entry (R15). -/
def State.lineHasRoom (s : State) : Bool := s.linePort.own.length < lineOwnCapacity

/-- A record takes a free entry of the Line Port own-origin queue (R15). -/
def State.enqueueRecord (s : State) (r : Record) : State :=
  State.kickLine { s with linePort := { s.linePort with own := s.linePort.own ++ [r] } }

/-- A frame is offered to the forward queue of a port (R13). -/
def State.offerForward (s : State) (port : Port) (f : Frame) : State :=
  match port with
  | .head =>
    if s.headPort.forward.length < forwardCapacity then
      { s with headPort := ({ s.headPort with forward := s.headPort.forward ++ [f] } : HeadPort).kick }
    else { s with headPort.counters.forwardDrop := inc s.headPort.counters.forwardDrop }
  | .line =>
    if s.linePort.forward.length < forwardCapacity then
      State.kickLine { s with linePort := { s.linePort with forward := s.linePort.forward ++ [f] } }
    else { s with linePort.counters.forwardDrop := inc s.linePort.counters.forwardDrop }

/-! ## Notices (R15, R163) -/

/-- A notice takes the present sequence number, is counted, and the number increases by 1, wrapping (R163, R164). -/
def State.takeNoticeNumber (s : State) : State :=
  { s with handler.noticeSeq := s.handler.noticeSeq + 1,
           handler.counters.noticesRaised := inc s.handler.counters.noticesRaised }

/-- A notice is raised: it takes its number, and enters the queue if at least 4 entries are free, else it is dropped. -/
def State.raise (s : State) (n : Notice) : State :=
  let t := s.takeNoticeNumber
  if t.linePort.own.length + noticeReserve < lineOwnCapacity then
    t.enqueueRecord (.notice s.handler.noticeTarget s.handler.noticeSeq n)
  else { t with linePort.noticeDrop := inc t.linePort.noticeDrop }

/-! ## Advice (R148, R149) -/

/-- The advice record for the stretch [start, stop) of a strand (R148). -/
def Strand.adviceFor (st : Strand) (i : Fin 4) (kind : AdviceKind) (cls : ConditionClass) (start stop : Nat) : Advice :=
  let margin := st.activeBank.header.adviceMargin
  let lo := max (start - margin) st.retired
  { strand := i, kind := kind, cls := cls, lo := lo, hi := if lo < stop + margin then stop + margin else lo }

/-- An advice record joins the holding slots; a third pushes the oldest out (R149). -/
def Strand.holdAdvice (st : Strand) (a : Advice) : Strand :=
  if st.held.length < 2 then { st with held := st.held ++ [a] }
  else { st with held := st.held.drop 1 ++ [a], pieceCounters.adviceLost := inc st.pieceCounters.adviceLost }

/-- Advice is issued: counted, and queued or held (R148, R149). -/
def State.issueAdvice (s : State) (i : Fin 4) (kind : AdviceKind) (cls : ConditionClass) (start stop : Nat) : State :=
  let a := (s.strand i).adviceFor i kind cls start stop
  let t := s.modStrand i fun st => { st with pieceCounters.adviceIssued := inc st.pieceCounters.adviceIssued }
  if t.lineHasRoom then t.enqueueRecord (.advice a) else t.modStrand i fun st => st.holdAdvice a

/-! ## State changes of a strand (R50, R57) -/

/-- A strand's state changes, and the change is noticed (R57). -/
def State.changeStrand (s : State) (i : Fin 4) (new : StrandState) : State :=
  let old := (s.strand i).state
  if old = new then s
  else (s.modStrand i fun st => { st with state := new }).raise (.strandState i old new)

/-- What entry to IDLE by any path clears (R50, R119): the runtime fields of the strand record, and the Length Map. -/
def Strand.clearRuntime (st : Strand) : Strand :=
  { st with
    origin := none, sliceIndex := 0, lastTriggered := none, lastTriggerTime := none, lastReleased := none,
    front := 0, retired := 0, pendingSwitch := none, runs := [], marks := [], settle := 0 }

/-- A strand enters IDLE: its runtime fields are cleared and the change is noticed. -/
def State.enterIdle (s : State) (i : Fin 4) : State := (s.modStrand i Strand.clearRuntime).changeStrand i .idle

/-- The strand takes increases of L and press notices (R46, R60). -/
def StrandState.live : StrandState → Bool
  | .armed | .running | .stalled => true
  | .idle | .draining | .closed => false

/-- A CLOSED strand with an empty map and no pending cut becomes IDLE (R55). -/
def State.idleCheck (s : State) (i : Fin 4) : State :=
  let st := s.strand i
  if st.state = .closed ∧ st.runs = [] ∧ st.cuts = [] then s.enterIdle i else s

end Sys2Proof.Machine
end

