-- ==== Sys2Proof/Machine/Operands.lean ====
section
/-! DEFINITION. How the values that an accepted request carries are brought into their ranges before they are stored
(R22, R41, R51, R86). Each function gives the stored value; a value was clamped exactly when the stored value differs. -/

namespace Sys2Proof.Machine

/-- The GEOMETRY fields as stored (R81, R86). The slot is an index and is not clamped. -/
def clampGeometry (g : Geometry) : Geometry :=
  { slot := g.slot, first := clampNat 0 511 g.first, last := clampNat 0 511 g.last, repeats := clampNat 0 31 g.repeats,
    stride := clampNat 1 511 g.stride, nominal := clampInt (-1000000) 1000000 g.nominal,
    floor := clampInt (-100000) 0 g.floor, ceiling := clampInt 0 100000 g.ceiling, minValid := clampNat 1 512 g.minValid,
    surfaceWidth := clampNat 1 64 g.surfaceWidth, label := clampNat 0 65535 g.label }

/-- The TOLERANCE fields brought into the fields' own ranges (R81, R86). -/
def clampTolerance (t : Tolerance) : Tolerance :=
  { lower := clampInt (-100000) 0 t.lower, upper := clampInt 0 100000 t.upper, smoothing := clampNat 1 8 t.smoothing,
    warn := clampNat 0 16 t.warn }

/-- The TOLERANCE fields as stored for a source class: an operator's band is clamped into the entry's floor and ceiling as
well (R86). -/
def clampToleranceFor (c : SourceClass) (g : Geometry) (t : Tolerance) : Tolerance :=
  let own := clampTolerance t
  match c with
  | .operator => { own with lower := clampInt g.floor 0 own.lower, upper := clampInt 0 g.ceiling own.upper }
  | .none => own
  | .engineering => own

/-- The bank header as stored (R80, R86). -/
def clampHeader (h : BankHeader) : BankHeader :=
  { entryCount := clampNat 0 64 h.entryCount, widths := mapTable (clampNat 64 512) h.widths,
    voidAllowance := clampNat 0 255 h.voidAllowance, settleCount := clampNat 1 255 h.settleCount,
    driftAllowance := clampNat 0 100000000 h.driftAllowance, unseenAllowance := clampNat 0 100000000 h.unseenAllowance,
    surfaceAllowance := clampNat 0 100000000 h.surfaceAllowance, adviceMargin := clampNat 0 2000000 h.adviceMargin }

/-- The numeric part of a strand configuration as stored (R51). -/
def clampParams (p : StrandParams) : StrandParams :=
  { pitch := clampNat 1000 50000 p.pitch, planeOffset := clampNat 0 20000000 p.planeOffset,
    weldLength := clampNat 0 5000000 p.weldLength, stopMarkLength := clampNat 0 500000 p.stopMarkLength,
    triggerGuard := clampNat 100 10000 p.triggerGuard, scanWait := clampNat 100 50000 p.scanWait,
    missLimit := clampNat 1 255 p.missLimit }

/-- The Travel Unit's configuration as stored (R40, R41). -/
def clampTravel (c : TravelConfig) : TravelConfig :=
  { num := clampNat 1 65535 c.num, den := clampNat 1 65535 c.den, maxStep := clampNat 1 65535 c.maxStep,
    stallTime := clampNat 1 10000 c.stallTime }

/-- The calibration offset as stored (R20, R22). -/
def clampOffset (z : Int) : Int := clampInt (-1000000) 1000000 z

/-- The release delay as stored (R20, R22). -/
def clampDelay (n : Nat) : Nat := clampNat 0 255 n

/-- The announce timeout as stored (R20, R22). -/
def clampTimeout (n : Nat) : Nat := clampNat 1 1000 n

end Sys2Proof.Machine
end

