-- ==== Sys2Proof/WellFormed.lean ====
section
/-! DEFINITION. Which commands are well formed: the operands fit the fields that the link gives them (R165, R168), and a
run of data bytes has the length its event needs (R1, R2, R4). A well-formed operand may still lie outside its range: then
the command's meaning clamps or refuses it. -/

namespace Sys2Proof.WellFormed

/-- The value fits one byte (R165, *code*). -/
def code (n : Nat) : Bool := n < 256

/-- The value fits two bytes (R165, *short*). -/
def short (n : Nat) : Bool := n < 65536

/-- The value fits four bytes (R165, *word*). -/
def word (n : Nat) : Bool := n < 4294967296

/-- The value fits four bytes in two's complement (R165, signed *word*). -/
def signed (z : Int) : Bool := -2147483648 ≤ z && z < 2147483648

/-- The GEOMETRY fields fit the layout of R168. -/
def geometry (g : Geometry) : Bool :=
  code g.slot && short g.first && short g.last && code g.repeats && short g.stride && signed g.nominal
    && signed g.floor && signed g.ceiling && short g.minValid && code g.surfaceWidth && short g.label

/-- The TOLERANCE fields fit the layout of R168. -/
def tolerance (t : Tolerance) : Bool :=
  signed t.lower && signed t.upper && code t.smoothing && code t.warn

/-- The bank header fits the layout of R168. -/
def header (h : BankHeader) : Bool :=
  code h.entryCount && h.widths.toList.all short && code h.voidAllowance && code h.settleCount && word h.driftAllowance
    && word h.unseenAllowance && word h.surfaceAllowance && word h.adviceMargin

/-- The strand configuration fits the layout of R168. -/
def strandParams (p : StrandParams) : Bool :=
  word p.pitch && word p.planeOffset && word p.weldLength && word p.stopMarkLength && short p.triggerGuard
    && short p.scanWait && code p.missLimit

/-- The Travel Unit's configuration fits the layout of R168. -/
def travelConfig (c : TravelConfig) : Bool := short c.num && short c.den && short c.maxStep && short c.stallTime

/-- A request kind that the table of R168 gives. -/
def knownKind (k : Nat) : Bool := 1 ≤ k && k ≤ 23

end Sys2Proof.WellFormed

namespace Sys2Proof

open WellFormed in
/-- A command is well formed: see the head of this file. -/
def Instr.wellFormed : Instr → Bool
  | .powerOnReset _ => true
  | .headerReceived _ bytes => bytes.length == 6
  | .truncated _ _ => true
  | .frameComplete _ bytes => 1 ≤ bytes.length && bytes.length ≤ 1042
  | .frameTransmitted _ => true
  | .releaseDelayExpiry _ => true
  | .announceTimeoutExpiry _ => true
  | .stallTimeExpiry => true
  | .scanWaitExpiry _ => true
  | .evaluationComplete _ => true
  | .headRead h => code h
  | .strandRead s => code s
  | .entryRead s b e => code s && code b && code e
  | .bankRead s b => code s && code b
  | .mapRead s r => code s && code r
  | .countersRead g => code g
  | .routeRead => true
  | .entryWriteGeometry s b e g n f => code s && code b && code e && code g && g != 1 && word n && geometry f
  | .entryWriteTolerance s b e n f => code s && code b && code e && word n && tolerance f
  | .bankParamWrite s b n h => code s && code b && word n && header h
  | .bankCopy s n => code s && word n
  | .bankSwitch s o => code s && code o && o != 1
  | .bankSwitchCancel s => code s
  | .strandConfigWrite s slots p => code s && slots.toList.all code && strandParams p
  | .travelConfigWrite c => travelConfig c
  | .headCalWrite h o d t => code h && signed o && short d && short t
  | .routeWrite s a c => code s && code a && code c
  | .noticeTargetWrite s => code s
  | .headHold h => code h
  | .headRelease h => code h
  | .strandStart s => code s
  | .strandStop s => code s
  | .strandReset s => code s
  | .countersClear => true
  | .restart => true
  | .unknownRequest k => code k
  | .restartTakesEffect => true
  | .frameStart _ => true

/-- The commands that carry out a management request (09, 9.3). -/
def Instr.isRequest : Instr → Bool
  | .powerOnReset _ | .headerReceived _ _ | .truncated _ _ | .frameComplete _ _ | .frameTransmitted _
  | .releaseDelayExpiry _ | .announceTimeoutExpiry _ | .stallTimeExpiry | .scanWaitExpiry _ | .evaluationComplete _
  | .restartTakesEffect | .frameStart _ => false
  | .headRead _ | .strandRead _ | .entryRead _ _ _ | .bankRead _ _ | .mapRead _ _ | .countersRead _ | .routeRead
  | .entryWriteGeometry _ _ _ _ _ _ | .entryWriteTolerance _ _ _ _ _ | .bankParamWrite _ _ _ _ | .bankCopy _ _
  | .bankSwitch _ _ | .bankSwitchCancel _ | .strandConfigWrite _ _ _ | .travelConfigWrite _ | .headCalWrite _ _ _ _
  | .routeWrite _ _ _ | .noticeTargetWrite _ | .headHold _ | .headRelease _ | .strandStart _ | .strandStop _
  | .strandReset _ | .countersClear | .restart | .unknownRequest _ => true

end Sys2Proof
end

