-- ==== Sys2Proof/Machine/Formats.lean ====
section
/-! DEFINITION. Frame and record formats (chapter 10, R165 to R170), the payload checks of R4, and the decoding of a
REQUEST payload into the command that carries it out, with its encoder. -/

namespace Sys2Proof.Machine

/-! ## Field types (R165) -/

/-- A code: one byte. -/
def encCode (n : Nat) : List Byte := [BitVec.ofNat 8 n]

/-- A short: two bytes, most significant first. -/
def encShort (n : Nat) : List Byte := [BitVec.ofNat 8 (n / 256), BitVec.ofNat 8 n]

/-- A word: four bytes. -/
def encWord (n : Nat) : List Byte := encShort (n / 65536) ++ encShort n

/-- A signed word, in two's complement. -/
def encSigned (z : Int) : List Byte := encWord (z % 4294967296).toNat

/-- A signed code, in two's complement. -/
def encSignedCode (z : Int) : List Byte := encCode (z % 256).toNat

/-- A position: six bytes. -/
def encPosition (n : Nat) : List Byte := encShort (n / 4294967296) ++ encWord n

/-- A flag as a code, 0 clear and 1 set. -/
def encFlag (b : Bool) : List Byte := encCode b.toNat

/-- A time: microseconds as a word that holds at its maximum. -/
def encTime (n : Nat) : List Byte := encWord (min n counterMax)

/-- A slot set: one byte, bit s for slot s. -/
def encSlots (set : BitVec 6) : List Byte := encCode set.toNat

/-- A field that may be absent: a presence byte, then the field's `size` bytes, 0 when absent. -/
def encOption (size : Nat) : Option (List Byte) → List Byte
  | none => encCode 0 ++ List.replicate size 0
  | some bytes => encCode 1 ++ bytes

/-- The unsigned value of bytes, most significant first. -/
def beNat (bytes : List Byte) : Nat := bytes.foldl (fun acc x => acc * 256 + x.toNat) 0

/-- The signed value of four bytes. -/
def beSigned (bytes : List Byte) : Int :=
  let n := beNat bytes
  if n < 2147483648 then n else (n : Int) - 4294967296

/-- `n` bytes of a payload from an offset. -/
def field (payload : List Byte) (offset n : Nat) : List Byte := (payload.drop offset).take n

/-- The unsigned value of a field. -/
def fieldNat (payload : List Byte) (offset n : Nat) : Nat := beNat (field payload offset n)

/-- The signed value of a four-byte field. -/
def fieldSigned (payload : List Byte) (offset : Nat) : Int := beSigned (field payload offset 4)

/-! ## Codes (R170) -/

/-- The code of a mark kind: its class code. -/
def MarkKind.code (k : MarkKind) : Nat := k.cls.severity

/-- Piece verdict codes. -/
def PieceVerdict.code : PieceVerdict → Nat
  | .prime => 0
  | .hold => 1
  | .scrap => 2

/-- Head state codes. -/
def HeadState.code : HeadState → Nat
  | .offline => 0
  | .held => 1
  | .releasing => 2
  | .awaiting => 3
  | .online => 4
  | .silent => 5
  | .faulted => 6

/-- Fault cause codes. -/
def FaultCause.code : FaultCause → Nat
  | .mute => 0
  | .badMarker => 1
  | .badAnnounce => 2
  | .checkErrors => 3

/-- Strand state codes. -/
def StrandState.code : StrandState → Nat
  | .idle => 0
  | .armed => 1
  | .running => 2
  | .stalled => 3
  | .draining => 4
  | .closed => 5

/-- Order codes. -/
def SampleOrder.code : SampleOrder → Nat
  | .forward => 0
  | .reversed => 1

/-- Sign codes. -/
def HeightSign.code : HeightSign → Nat
  | .up => 0
  | .down => 1

/-- Check mode codes (R167). -/
def CheckMode.code : CheckMode → Nat
  | .crc16 => 0
  | .lrc8 => 1

/-- Bank codes. -/
def BankId.code : BankId → Nat
  | .a => 0
  | .b => 1

/-- Bank role codes. -/
def BankRole.code : BankRole → Nat
  | .active => 0
  | .standby => 1
  | .pending => 2

/-- Puller codes (R167). -/
def Puller.code : Puller → Nat
  | .a => 0
  | .b => 1

/-- Source class codes. -/
def SourceClass.code : SourceClass → Nat
  | .none => 0
  | .operator => 1
  | .engineering => 2

/-- Route action codes (R168). -/
def RouteAction.code : RouteAction → Nat
  | .pass => 0
  | .stop => 1

/-- Status codes. -/
def Status.code : Status → Nat
  | .accepted => 0
  | .acceptedClamped => 1
  | .busy => 2
  | .notPermitted => 3
  | .stale => 4
  | .activeBank => 5
  | .pending => 6
  | .invalid => 7
  | .outOfRange => 8
  | .wrongState => 9
  | .unknownRequest => 10

/-- INVALID reason codes. -/
def InvalidReason.code : InvalidReason → Nat
  | .empty => 0
  | .slot => 1
  | .window => 2
  | .band => 3
  | .minValid => 4
  | .instances => 5
  | .headTaken => 6

/-- Advice kind codes (R169). -/
def AdviceKind.code : AdviceKind → Nat
  | .run => 0
  | .weld => 1
  | .stop => 2

/-- The bank that a code names. -/
def bankOfCode : Nat → Option BankId
  | 0 => some .a
  | 1 => some .b
  | _ => none

/-- The route action that a code names. -/
def actionOfCode : Nat → Option RouteAction
  | 0 => some .pass
  | 1 => some .stop
  | _ => none

/-- The source class that a code names. -/
def classOfCode : Nat → Option SourceClass
  | 0 => some .none
  | 1 => some .operator
  | 2 => some .engineering
  | _ => none

/-- The head whose station is `n` (1.3): head h is station 16 + h. -/
def headOfStation (n : Nat) : Option (Fin 16) := if 16 ≤ n then headOfNat (n - 16) else none

/-! ## Frame kinds (R166) -/

def kindScan : Byte := 0x01
def kindAnnounce : Byte := 0x02
def kindTravel : Byte := 0x03
def kindHandover : Byte := 0x04
def kindPressNotice : Byte := 0x05
def kindCutNotice : Byte := 0x06
def kindTrigger : Byte := 0x10
def kindHeadHold : Byte := 0x11
def kindHeadRelease : Byte := 0x12
def kindRequest : Byte := 0x20
def kindReply : Byte := 0x21
def kindPiece : Byte := 0x22
def kindAdvice : Byte := 0x23
def kindNotice : Byte := 0x24

/-! ## Payload checks (R4) -/

/-- One bit of the CRC-16: the register shifts toward its most significant end. -/
def crcShift (r : BitVec 16) : BitVec 16 := if r.msb then (r <<< 1) ^^^ 0x8005#16 else r <<< 1

/-- One byte of the CRC-16, most significant bit first. -/
def crcByte (r : BitVec 16) (x : Byte) : BitVec 16 :=
  crcShift (crcShift (crcShift (crcShift (crcShift (crcShift (crcShift (crcShift (r ^^^ (x.setWidth 16 <<< 8)))))))))

/-- The CRC-16 register after bytes, from 0xFFFF. -/
def crc16 (bytes : List Byte) : BitVec 16 := bytes.foldl crcByte 0xFFFF#16

/-- The LRC-8 of a payload: the exclusive-or of its bytes. -/
def lrc8 (bytes : List Byte) : Byte := bytes.foldl (· ^^^ ·) 0#8

/-- The two check bytes that a sender appends. -/
def crcBytes (payload : List Byte) : List Byte :=
  [(crc16 payload).extractLsb' 8 8, (crc16 payload).extractLsb' 0 8]

/-- The check length (R4). -/
def CheckMode.length : CheckMode → Nat
  | .crc16 => 2
  | .lrc8 => 1

/-- The payload check passes (R4). -/
def checkPasses (mode : CheckMode) (payload check : List Byte) : Bool :=
  match mode with
  | .crc16 => crc16 (payload ++ check) == 0#16
  | .lrc8 => check == [lrc8 payload]

/-! ## Headers and frames (R166, R18) -/

/-- The five header bytes before the header check. -/
def headerFields (dest source : Nat) (kind : Byte) (length : Nat) : List Byte :=
  encCode dest ++ encCode source ++ [kind] ++ encShort length

/-- The header bytes with their check. -/
def headerBytes (dest source : Nat) (kind : Byte) (length : Nat) : List Byte :=
  headerFields dest source kind length ++ [lrc8 (headerFields dest source kind length)]

/-- The bytes of a frame after its frame-start symbol, in the order of transmission. -/
def Frame.bytes (f : Frame) : List Byte := headerBytes f.dest f.source f.kind f.payload.length ++ f.payload ++ f.check

/-- A frame that the part sends (R18): its own station as source, and a CRC-16. -/
def ownFrame (station dest : Nat) (kind : Byte) (payload : List Byte) : Frame :=
  { dest := dest, source := station, kind := kind, payload := payload, check := crcBytes payload }

/-- The frame of an entry of the Head Port own-origin queue (R18, R167). -/
def HeadFrame.frame (station : Nat) : HeadFrame → Frame
  | .trigger strand slice mask =>
    ownFrame station 63 kindTrigger (encCode strand.val ++ encWord slice ++ encShort mask.toNat)
  | .hold h => ownFrame station (16 + h.val) kindHeadHold (encCode h.val)
  | .release h => ownFrame station (16 + h.val) kindHeadRelease (encCode h.val)

/-! ## Records (R168, R169) -/

/-- A cause: one code byte, then a short. -/
def encCause : Option Cause → List Byte
  | none => encCode 0 ++ encShort 0
  | some (.label n) => encCode 1 ++ encShort n
  | some (.mark k) => encCode 2 ++ encShort k.code

/-- The GEOMETRY fields (25 bytes). -/
def encGeometry (g : Geometry) : List Byte :=
  encCode g.slot ++ encShort g.first ++ encShort g.last ++ encCode g.repeats ++ encShort g.stride ++ encSigned g.nominal
    ++ encSigned g.floor ++ encSigned g.ceiling ++ encShort g.minValid ++ encCode g.surfaceWidth ++ encShort g.label

/-- The TOLERANCE fields (10 bytes). -/
def encTolerance (t : Tolerance) : List Byte :=
  encSigned t.lower ++ encSigned t.upper ++ encCode t.smoothing ++ encCode t.warn

/-- A gauge entry (35 bytes). -/
def encEntry (e : GaugeEntry) : List Byte := encGeometry e.geo ++ encTolerance e.tol

/-- A bank header (31 bytes). -/
def encHeader (h : BankHeader) : List Byte :=
  encCode h.entryCount ++ h.widths.toList.flatMap encShort ++ encCode h.voidAllowance ++ encCode h.settleCount
    ++ encWord h.driftAllowance ++ encWord h.unseenAllowance ++ encWord h.surfaceAllowance ++ encWord h.adviceMargin

/-- The numeric part of a strand configuration, in the order of STRAND_CONFIG_WRITE. -/
def encParams (p : StrandParams) : List Byte :=
  encWord p.pitch ++ encWord p.planeOffset ++ encWord p.weldLength ++ encWord p.stopMarkLength
    ++ encShort p.triggerGuard ++ encShort p.scanWait ++ encCode p.missLimit

/-- The Travel Unit's configuration, in the order of TRAVEL_CONFIG_WRITE. -/
def encTravelConfig (c : TravelConfig) : List Byte :=
  encShort c.num ++ encShort c.den ++ encShort c.maxStep ++ encShort c.stallTime

/-- The end of a run, absent while it is open. -/
def Run.stop? (r : Run) : Option Nat :=
  match r.body with
  | .running _ _ => none
  | .closed stop _ _ => some stop

/-- The run is open. -/
def Run.isOpen (r : Run) : Bool := r.stop?.isNone

/-- A flag byte from its bits, bit 0 first. -/
def flagByte (bits : List Bool) : Nat := bits.foldr (fun x acc => x.toNat + 2 * acc) 0

/-- A run record (27 bytes). -/
def encRun (r : Run) : List Byte :=
  encPosition r.start ++ encOption 6 (r.stop?.map encPosition) ++ encCode r.cls.severity ++ encCause r.cause
    ++ encWord r.sliceCount
    ++ (match r.body with
        | .running acc folds => encSigned acc ++ encSignedCode folds
        | .closed _ area _ => encSigned area ++ encSignedCode 0)
    ++ encCode (flagByte [(match r.body with | .running _ _ => false | .closed _ _ sat => sat), r.merged, r.split, r.tail,
        r.isOpen])

/-- A mark of a MAP_READ reply. -/
def encMark (m : Mark) : List Byte := encCode m.kind.code ++ encPosition m.start ++ encPosition m.stop

/-- A PIECE payload (74 bytes). -/
def encPiece (p : Piece) : List Byte :=
  encCode p.strand.val ++ encWord p.number ++ encPosition p.start ++ encPosition p.stop ++ encCode p.verdict.code
    ++ encCode p.worst.severity ++ encCause p.cause ++ p.lengths.toList.flatMap encPosition ++ encSigned p.area
    ++ encCode (flagByte [p.saturated, p.mergedCut, p.unseenTail, p.mapMerged]) ++ encCode p.bank.code
    ++ encWord p.generation

/-- An ADVICE payload (15 bytes). -/
def encAdvice (a : Advice) : List Byte :=
  encCode a.strand.val ++ encCode a.kind.code ++ encCode a.cls.severity ++ encPosition a.lo ++ encPosition a.hi

/-- The width, order, sign and scale code of a HEAD_REANNOUNCED notice. -/
def encConvention (a : Announced) : List Byte :=
  encShort a.width ++ encCode a.order.code ++ encCode a.sign.code ++ encCode a.scaleCode

/-- The code of a notice's kind. -/
def Notice.code : Notice → Nat
  | .headState _ _ _ _ => 0
  | .headReannounced _ _ _ => 1
  | .strandState _ _ _ => 2
  | .travelJump _ _ _ => 3
  | .lengthLimit _ => 4
  | .bankTaken _ _ _ _ _ => 5
  | .mapMerged _ _ _ => 6
  | .cutOverrun _ _ => 7

/-- The fields of a notice. -/
def Notice.fields : Notice → List Byte
  | .headState h old new cause =>
    encCode h.val ++ encCode old.code ++ encCode new.code ++ encOption 1 (cause.map fun c => encCode c.code)
  | .headReannounced h old new => encCode h.val ++ encConvention old ++ encConvention new
  | .strandState i old new => encCode i.val ++ encCode old.code ++ encCode new.code
  | .travelJump p count delta => encCode p.code ++ encWord count.toNat ++ encSigned delta
  | .lengthLimit l => encPosition l
  | .bankTaken i bank gen len slice =>
    encCode i.val ++ encCode bank.code ++ encWord gen ++ encOption 6 (len.map encPosition)
      ++ encOption 4 (slice.map encWord)
  | .mapMerged i start cls => encCode i.val ++ encPosition start ++ encCode cls.severity
  | .cutOverrun i x => encCode i.val ++ encPosition x

/-- The frame of a record of the Line Port own-origin queue (R18, R168, R169). -/
def Record.frame (station : Nat) : Record → Frame
  | .reply r => ownFrame station r.dest kindReply (encShort r.tag ++ encCode r.kind ++ encCode r.status.code ++ r.body)
  | .piece p => ownFrame station 63 kindPiece (encPiece p)
  | .advice a => ownFrame station 2 kindAdvice (encAdvice a)
  | .notice dest seq n => ownFrame station dest kindNotice (encCode n.code ++ encWord seq.toNat ++ n.fields)

/-- The frame in transmission at the Head Port. -/
def State.headTransmitting (s : State) : Option Frame :=
  s.headPort.tx.map fun
    | .own f => f.frame s.ownStation
    | .forwarded f => f

/-- The frame in transmission at the Line Port. -/
def State.lineTransmitting (s : State) : Option Frame :=
  s.linePort.tx.map fun
    | .own r => r.frame s.ownStation
    | .forwarded f => f

/-! ## Requests (R168) -/

/-- The payload length of each request kind. -/
def requestLength : Nat → Option Nat
  | 1 => some 4
  | 2 => some 4
  | 3 => some 6
  | 4 => some 5
  | 5 => some 5
  | 6 => some 4
  | 7 => some 3
  | 8 => some 46
  | 9 => some 40
  | 10 => some 8
  | 11 => some 5
  | 12 => some 31
  | 13 => some 11
  | 14 => some 12
  | 15 => some 6
  | 16 => some 4
  | 17 => some 4
  | 18 => some 4
  | 19 => some 4
  | 20 => some 4
  | 21 => some 4
  | 22 => some 3
  | 23 => some 3
  | _ => none

/-- The GEOMETRY fields from an offset. -/
def decGeometry (p : List Byte) (o : Nat) : Geometry :=
  { slot := fieldNat p o 1, first := fieldNat p (o + 1) 2, last := fieldNat p (o + 3) 2, repeats := fieldNat p (o + 5) 1,
    stride := fieldNat p (o + 6) 2, nominal := fieldSigned p (o + 8), floor := fieldSigned p (o + 12),
    ceiling := fieldSigned p (o + 16), minValid := fieldNat p (o + 20) 2, surfaceWidth := fieldNat p (o + 22) 1,
    label := fieldNat p (o + 23) 2 }

/-- The TOLERANCE fields from an offset. -/
def decTolerance (p : List Byte) (o : Nat) : Tolerance :=
  { lower := fieldSigned p o, upper := fieldSigned p (o + 4), smoothing := fieldNat p (o + 8) 1,
    warn := fieldNat p (o + 9) 1 }

/-- A bank header from an offset. -/
def decHeader (p : List Byte) (o : Nat) : BankHeader :=
  { entryCount := fieldNat p o 1,
    widths := #v[fieldNat p (o + 1) 2, fieldNat p (o + 3) 2, fieldNat p (o + 5) 2, fieldNat p (o + 7) 2,
      fieldNat p (o + 9) 2, fieldNat p (o + 11) 2],
    voidAllowance := fieldNat p (o + 13) 1, settleCount := fieldNat p (o + 14) 1,
    driftAllowance := fieldNat p (o + 15) 4, unseenAllowance := fieldNat p (o + 19) 4,
    surfaceAllowance := fieldNat p (o + 23) 4, adviceMargin := fieldNat p (o + 27) 4 }

/-- The numeric part of a strand configuration from an offset. -/
def decParams (p : List Byte) (o : Nat) : StrandParams :=
  { pitch := fieldNat p o 4, planeOffset := fieldNat p (o + 4) 4, weldLength := fieldNat p (o + 8) 4,
    stopMarkLength := fieldNat p (o + 12) 4, triggerGuard := fieldNat p (o + 16) 2, scanWait := fieldNat p (o + 18) 2,
    missLimit := fieldNat p (o + 20) 1 }

/-- The command of a REQUEST payload whose length fits its kind. An ENTRY_WRITE is of the TOLERANCE group where its group
code is 1, and a BANK_SWITCH a CANCEL where its option is 1; every other code goes to the sibling command, which judges it
(entry 7). -/
def decodeKnown (kind : Nat) (p : List Byte) : Instr :=
  match kind with
  | 1 => .headRead (fieldNat p 3 1)
  | 2 => .strandRead (fieldNat p 3 1)
  | 3 => .entryRead (fieldNat p 3 1) (fieldNat p 4 1) (fieldNat p 5 1)
  | 4 => .bankRead (fieldNat p 3 1) (fieldNat p 4 1)
  | 5 => .mapRead (fieldNat p 3 1) (fieldNat p 4 1)
  | 6 => .countersRead (fieldNat p 3 1)
  | 7 => .routeRead
  | 8 =>
    if fieldNat p 6 1 = 1 then
      .entryWriteTolerance (fieldNat p 3 1) (fieldNat p 4 1) (fieldNat p 5 1) (fieldNat p 7 4) (decTolerance p 36)
    else
      .entryWriteGeometry (fieldNat p 3 1) (fieldNat p 4 1) (fieldNat p 5 1) (fieldNat p 6 1) (fieldNat p 7 4)
        (decGeometry p 11)
  | 9 => .bankParamWrite (fieldNat p 3 1) (fieldNat p 4 1) (fieldNat p 5 4) (decHeader p 9)
  | 10 => .bankCopy (fieldNat p 3 1) (fieldNat p 4 4)
  | 11 => if fieldNat p 4 1 = 1 then .bankSwitchCancel (fieldNat p 3 1) else .bankSwitch (fieldNat p 3 1) (fieldNat p 4 1)
  | 12 =>
    .strandConfigWrite (fieldNat p 3 1)
      #v[fieldNat p 4 1, fieldNat p 5 1, fieldNat p 6 1, fieldNat p 7 1, fieldNat p 8 1, fieldNat p 9 1] (decParams p 10)
  | 13 =>
    .travelConfigWrite
      { num := fieldNat p 3 2, den := fieldNat p 5 2, maxStep := fieldNat p 7 2, stallTime := fieldNat p 9 2 }
  | 14 => .headCalWrite (fieldNat p 3 1) (fieldSigned p 4) (fieldNat p 8 2) (fieldNat p 10 2)
  | 15 => .routeWrite (fieldNat p 3 1) (fieldNat p 4 1) (fieldNat p 5 1)
  | 16 => .noticeTargetWrite (fieldNat p 3 1)
  | 17 => .headHold (fieldNat p 3 1)
  | 18 => .headRelease (fieldNat p 3 1)
  | 19 => .strandStart (fieldNat p 3 1)
  | 20 => .strandStop (fieldNat p 3 1)
  | 21 => .strandReset (fieldNat p 3 1)
  | 22 => .countersClear
  | 23 => .restart
  | k => .unknownRequest k

/-- The command of a REQUEST payload: of its kind where the length fits it, else UNKNOWN_REQUEST (R155). -/
def decodeRequest (p : List Byte) : Instr :=
  let kind := fieldNat p 2 1
  if requestLength kind = some p.length then decodeKnown kind p else .unknownRequest kind

/-- The tag of a REQUEST payload. -/
def requestTag (p : List Byte) : Nat := fieldNat p 0 2

/-- The kind code of the request that a command carries out (R168); 0 for a command that carries out none. -/
def requestKindOf : Instr → Nat
  | .headRead _ => 1
  | .strandRead _ => 2
  | .entryRead _ _ _ => 3
  | .bankRead _ _ => 4
  | .mapRead _ _ => 5
  | .countersRead _ => 6
  | .routeRead => 7
  | .entryWriteGeometry _ _ _ _ _ _ => 8
  | .entryWriteTolerance _ _ _ _ _ => 8
  | .bankParamWrite _ _ _ _ => 9
  | .bankCopy _ _ => 10
  | .bankSwitch _ _ => 11
  | .bankSwitchCancel _ => 11
  | .strandConfigWrite _ _ _ => 12
  | .travelConfigWrite _ => 13
  | .headCalWrite _ _ _ _ => 14
  | .routeWrite _ _ _ => 15
  | .noticeTargetWrite _ => 16
  | .headHold _ => 17
  | .headRelease _ => 18
  | .strandStart _ => 19
  | .strandStop _ => 20
  | .strandReset _ => 21
  | .countersClear => 22
  | .restart => 23
  | .unknownRequest k => k
  | .powerOnReset _ => 0
  | .headerReceived _ _ => 0
  | .truncated _ _ => 0
  | .frameComplete _ _ => 0
  | .frameTransmitted _ => 0
  | .releaseDelayExpiry _ => 0
  | .announceTimeoutExpiry _ => 0
  | .stallTimeExpiry => 0
  | .scanWaitExpiry _ => 0
  | .evaluationComplete _ => 0
  | .restartTakesEffect => 0
  | .frameStart _ => 0

/-- The fields of a request after its tag and kind (R168). The group that an ENTRY_WRITE does not name is not read; the
encoder sends zeros. An UNKNOWN_REQUEST is encoded with a length that no kind has. -/
def requestFieldsOf : Instr → List Byte
  | .headRead h => encCode h
  | .strandRead s => encCode s
  | .entryRead s b e => encCode s ++ encCode b ++ encCode e
  | .bankRead s b => encCode s ++ encCode b
  | .mapRead s r => encCode s ++ encCode r
  | .countersRead g => encCode g
  | .routeRead => []
  | .entryWriteGeometry s b e g n f =>
    encCode s ++ encCode b ++ encCode e ++ encCode g ++ encWord n ++ encGeometry f ++ List.replicate 10 0
  | .entryWriteTolerance s b e n f =>
    encCode s ++ encCode b ++ encCode e ++ encCode 1 ++ encWord n ++ List.replicate 25 0 ++ encTolerance f
  | .bankParamWrite s b n h => encCode s ++ encCode b ++ encWord n ++ encHeader h
  | .bankCopy s n => encCode s ++ encWord n
  | .bankSwitch s o => encCode s ++ encCode o
  | .bankSwitchCancel s => encCode s ++ encCode 1
  | .strandConfigWrite s slots p => encCode s ++ slots.toList.flatMap encCode ++ encParams p
  | .travelConfigWrite c => encTravelConfig c
  | .headCalWrite h o d t => encCode h ++ encSigned o ++ encShort d ++ encShort t
  | .routeWrite s a c => encCode s ++ encCode a ++ encCode c
  | .noticeTargetWrite s => encCode s
  | .headHold h => encCode h
  | .headRelease h => encCode h
  | .strandStart s => encCode s
  | .strandStop s => encCode s
  | .strandReset s => encCode s
  | .countersClear => []
  | .restart => []
  | .unknownRequest _ => List.replicate 44 0
  | .powerOnReset _ => []
  | .headerReceived _ _ => []
  | .truncated _ _ => []
  | .frameComplete _ _ => []
  | .frameTransmitted _ => []
  | .releaseDelayExpiry _ => []
  | .announceTimeoutExpiry _ => []
  | .stallTimeExpiry => []
  | .scanWaitExpiry _ => []
  | .evaluationComplete _ => []
  | .restartTakesEffect => []
  | .frameStart _ => []

/-- The REQUEST payload of a request command with a tag (R168). -/
def encodeRequest (tag : Nat) (i : Instr) : List Byte := encShort tag ++ encCode (requestKindOf i) ++ requestFieldsOf i

end Sys2Proof.Machine
end

