-- ==== Sys2Proof/Machine/Flags.lean ====
section
/-! DEFINITION. The mismatch flag of a head (R31). -/

namespace Sys2Proof.Machine

/-- The value that the mismatch flag takes at a re-evaluation (R31): the head is assigned, its announced width is present,
and it differs from the expected width of its slot in the active bank of its strand. -/
def State.mismatchOf (s : State) (r : HeadRecord) : Bool :=
  match r.assignment, r.announced with
  | some (i, t), some a => a.width != (s.strand i).activeBank.header.widths[t]
  | some _, none => false
  | none, _ => false

/-- A head's mismatch flag is re-evaluated (R31). -/
def State.reevaluate (s : State) (h : Fin 16) : State := s.modHead h fun r => { r with mismatch := s.mismatchOf r }

/-- The head is assigned to the strand (R21). -/
def HeadRecord.assignedTo (r : HeadRecord) (i : Fin 4) : Bool :=
  match r.assignment with
  | some (j, _) => j == i
  | none => false

/-- The mismatch flag of every head assigned to a strand is re-evaluated (R31, R93, R96). -/
def State.reevaluateStrand (s : State) (i : Fin 4) : State :=
  { s with heads := mapTable (fun r => if r.assignedTo i then { r with mismatch := s.mismatchOf r } else r) s.heads }

end Sys2Proof.Machine
end

