-- ==== Sys2Proof/Machine/Templates.lean ====
section
/-! DEFINITION. The Template Store (chapter 5): the expansion of a template into instances, validation, the unseeding of trend
filters by slot, and the taking of a switch. -/

namespace Sys2Proof.Machine

/-- One placement of a gauge entry (R82): the entry, and the first and last normalised sample it covers. -/
structure Placement where
  entry : GaugeEntry
  first : Nat
  last : Nat
deriving DecidableEq, Repr

/-- The instances of one entry, in instance order (R82). -/
def GaugeEntry.placements (e : GaugeEntry) : List Placement :=
  (List.range (e.geo.repeats + 1)).map fun j =>
    { entry := e, first := e.geo.first + j * e.geo.stride, last := e.geo.last + j * e.geo.stride }

/-- The entries of the template: those below the entry count (R80). -/
def Bank.template (b : Bank) : List GaugeEntry := b.entries.toList.take b.header.entryCount

/-- The instances of a bank, numbered by their position from 0 (R82). -/
def Bank.placements (b : Bank) : List Placement := b.template.flatMap GaugeEntry.placements

/-- The expected width of a slot field: 0 for a number above 5, which no stored entry holds (R83). -/
def widthAt (h : BankHeader) (slot : Nat) : Nat :=
  match slotOfNat slot with
  | some t => h.widths[t]
  | none => 0

/-- The head that the strand's configuration holds at a slot field (R51). -/
def Strand.headAt (st : Strand) (slot : Nat) : Option (Fin 16) :=
  match slotOfNat slot with
  | some t => st.slots[t]
  | none => none

/-! ## Validation (R91) -/

/-- The first check of an entry that fails, with `total` instances before it (R91). -/
def Strand.entryFailure (st : Strand) (b : Bank) (e : GaugeEntry) (total : Nat) : Option InvalidReason :=
  if (st.headAt e.geo.slot).isNone then some .slot
  else if e.geo.last < e.geo.first ∨ widthAt b.header e.geo.slot ≤ e.geo.last + e.geo.repeats * e.geo.stride then some .window
  else if 0 < e.tol.lower ∨ e.tol.upper < 0 ∨ e.tol.lower < e.geo.floor ∨ e.geo.ceiling < e.tol.upper then some .band
  else if e.geo.last - e.geo.first + 1 < e.geo.minValid then some .minValid
  else if 256 < total + (e.geo.repeats + 1) then some .instances
  else none

/-- The first failing entry from entry number `n` on. -/
def Strand.firstFailure (st : Strand) (b : Bank) : Nat → Nat → List GaugeEntry → Option (Nat × InvalidReason)
  | _, _, [] => none
  | n, total, e :: rest =>
    match st.entryFailure b e total with
    | some r => some (n, r)
    | none => st.firstFailure b (n + 1) (total + (e.geo.repeats + 1)) rest

/-- Validation of a bank against the strand's configuration (R91): none where it passes, else the entry number and reason of
the first failure. -/
def Strand.validate (st : Strand) (b : Bank) : Option (Nat × InvalidReason) :=
  if b.header.entryCount = 0 then some (0, .empty) else st.firstFailure b 0 0 b.template

/-! ## Unseeding (R102, R109) -/

/-- The filters with those of the instances that name a slot unseeded (R102). -/
def unseedFilters (slots : BitVec 6) : List Placement → List (Option Int) → List (Option Int)
  | p :: ps, f :: fs => (if slots.getLsbD p.entry.geo.slot then none else f) :: unseedFilters slots ps fs
  | [], fs => fs
  | _ :: _, [] => []

/-- Unseed requests are applied for a set of slots against the active bank (R102). -/
def Strand.applyUnseed (st : Strand) (slots : BitVec 6) : Strand :=
  { st with filters := retable st.filters (unseedFilters slots st.activeBank.placements st.filters.toList) }

/-- Every trend filter of the strand is unseeded (R109). -/
def Strand.unseedAll (st : Strand) : Strand := { st with filters := Vector.replicate 256 none }

/-- An unseed request reaches the strand's engine (R102): applied at once when FREE, else added to the pending slots. -/
def State.requestUnseed (s : State) (i : Fin 4) (t : Fin 6) : State :=
  s.modStrand i fun st =>
    if st.eval.isSome then { st with unseed := st.unseed ||| oneSlot t } else st.applyUnseed (oneSlot t)

/-! ## Switching (R93, R96, R97) -/

/-- The banks exchange roles and every filter is unseeded; any pending switch is cleared; the switch is counted (R93, R96, R98). -/
def Strand.exchangeBanks (st : Strand) : Strand :=
  { st.unseedAll with
    active := st.active.other, pendingSwitch := none, tplCounters.bankSwitches := inc st.tplCounters.bankSwitches }

/-- A switch: the banks exchange roles and the mismatch flags of the strand's heads are re-evaluated (R93). -/
def State.switchBanks (s : State) (i : Fin 4) : State := (s.modStrand i Strand.exchangeBanks).reevaluateStrand i

/-- A pending switch is taken: the switch, then the notice BANK_TAKEN (R96, R97). `slice` is the slice at which it is taken,
absent at entry to CLOSED. -/
def State.takeSwitch (s : State) (i : Fin 4) (p : PendingSwitch) (slice : Option Nat) : State :=
  let t := s.switchBanks i
  t.raise (.bankTaken i (t.strand i).active (t.strand i).activeBank.generation p.switchLength slice)

/-- The decision at the beginning of an evaluation (R96): a pending switch whose length the slice's start has reached is
taken. -/
def State.decideSwitch (s : State) (i : Fin 4) (slice : Nat) : State :=
  match (s.strand i).pendingSwitch with
  | some p =>
    match p.switchLength with
    | some len => if len ≤ slice * (s.strand i).params.pitch then s.takeSwitch i p (some slice) else s
    | none => s
  | none => s

end Sys2Proof.Machine
end

