-- ==== Sys2Proof/Machine/Heads.lean ====
section
/-! DEFINITION. The Head Table (chapter 2): hold, release, announce, service faults, the reports of the Slice Assembler, and
the effect of a RESTART on the records. -/

namespace Sys2Proof.Machine

/-- A time in milliseconds as microseconds. -/
def millis (n : Nat) : Nat := n * 1000

/-- The HEAD_STATE notice of a change from `old` to the head's present state (R37). -/
def State.noticeHead (s : State) (h : Fin 16) (old : HeadState) : State :=
  let r := s.head h
  s.raise (.headState h old r.state (if r.state = .faulted then r.cause else none))

/-- A head's record is replaced, and a change of its state is noticed (R37). -/
def State.replaceHead (s : State) (h : Fin 16) (r : HeadRecord) : State :=
  let old := (s.head h).state
  if old = r.state then s.setHead h r else (s.setHead h r).noticeHead h old

/-! ## Hold and release (R23 to R26) -/

/-- What an accepted hold does to a head (R23). -/
def State.holdHead (s : State) (h : Fin 16) : State :=
  (s.enqueueControl (.hold h)).replaceHead h { s.head h with state := .held, deadline := none, cause := none }

/-- The release delay of a head expires at the present time (R25). -/
def State.expireRelease (s : State) (h : Fin 16) : State :=
  (s.enqueueControl (.release h)).replaceHead h
    { s.head h with state := .awaiting, deadline := some (s.now + millis (s.head h).announceTimeout) }

/-- A head enters RELEASING; with a release delay of 0 the delay expires at once (R24, R25). -/
def State.beginRelease (s : State) (h : Fin 16) : State :=
  let r := s.head h
  let t := s.replaceHead h
    { r with state := .releasing, cause := none, deadline := some (s.now + millis r.releaseDelay) }
  if r.releaseDelay = 0 then t.expireRelease h else t

/-- A head enters FAULTED for a cause, and its deadline becomes absent (R26, R29, R32). A head already FAULTED is noticed as
well (R37). -/
def State.faultHead (s : State) (h : Fin 16) (cause : FaultCause) : State :=
  let r := s.head h
  (s.setHead h
    { r with state := .faulted, cause := some cause, deadline := none, counters.faults := inc r.counters.faults }).noticeHead
    h r.state

/-! ## The announce (R27 to R30) -/

/-- The order and sign that a marker word encodes (R27). -/
def orientation (marker : Nat) : Option (SampleOrder × HeightSign) :=
  if marker = 0xC3A5 then some (.forward, .up)
  else if marker = 0xA5C3 then some (.reversed, .up)
  else if marker = 0x3C5A then some (.forward, .down)
  else if marker = 0x5A3C then some (.reversed, .down)
  else none

/-- The check mode that an announce's code names (R27, R167). -/
def checkModeOfCode : Nat → Option CheckMode
  | 0 => some .crc16
  | 1 => some .lrc8
  | _ => none

/-- The judgement of an ANNOUNCE payload (R27): the announced fields, or the cause for which it is invalid. -/
def judgeAnnounce (p : List Byte) : Except FaultCause Announced :=
  match orientation (fieldNat p 0 2) with
  | none => .error .badMarker
  | some (order, sign) =>
    let width := fieldNat p 2 2
    let scale := fieldNat p 4 1
    if width < 64 ∨ 512 < width ∨ 7 < scale then .error .badAnnounce
    else
      match checkModeOfCode (fieldNat p 5 1) with
      | none => .error .badAnnounce
      | some mode =>
        .ok { width := width, order := order, sign := sign, scaleCode := scale, checkMode := mode,
              serialTag := fieldNat p 6 4 }

/-- The announce changes the order, the height sign, the scale code or the width that were held before (R30). With no values
held before there is nothing to differ from (entry 15). -/
def conventionChanged (old : Option Announced) (new : Announced) : Bool :=
  match old with
  | none => false
  | some o => o.order != new.order || o.sign != new.sign || o.scaleCode != new.scaleCode || o.width != new.width

/-- The head is ONLINE or SILENT. -/
def HeadState.inService : HeadState → Bool
  | .online | .silent => true
  | .offline | .held | .releasing | .awaiting | .faulted => false

/-- The notice HEAD_REANNOUNCED of a re-announce that changes the convention (R30). -/
def State.noticeReannounced (s : State) (h : Fin 16) (old : HeadRecord) (new : Announced) : State :=
  match old.announced with
  | none => s
  | some o => if old.state.inService then s.raise (.headReannounced h o new) else s

/-- The unseed request for an assigned head (R30). -/
def State.unseedHead (s : State) (h : Fin 16) : State :=
  match (s.head h).assignment with
  | some (i, t) => s.requestUnseed i t
  | none => s

/-- The record after a valid announce (R28), its mismatch flag re-evaluated (R31). -/
def State.announcedRecord (s : State) (h : Fin 16) (a : Announced) : HeadRecord :=
  let r := s.head h
  let new : HeadRecord :=
    { r with
      announced := some a, checkErrors := 0, misses := 0, deadline := none, cause := none, state := .online,
      counters.announces := inc r.counters.announces }
  { new with mismatch := s.mismatchOf new }

/-- A valid announce (R28, R30). -/
def State.validAnnounce (s : State) (h : Fin 16) (a : Announced) : State :=
  let old := s.head h
  let t := s.replaceHead h (s.announcedRecord h a)
  if conventionChanged old.announced a then (t.noticeReannounced h old a).unseedHead h else t

/-- A consumed ANNOUNCE (R27). -/
def State.announce (s : State) (h : Fin 16) (p : List Byte) : State :=
  if (s.head h).state = .held then
    s.modHead h fun r => { r with counters.announcesIgnored := inc r.counters.announcesIgnored }
  else
    match judgeAnnounce p with
    | .ok a => s.validAnnounce h a
    | .error c => s.faultHead h c

/-! ## Service faults (R32 to R35) -/

/-- A check error report (R32). -/
def State.reportCheckError (s : State) (h : Fin 16) : State :=
  let t := s.modHead h fun r => { r with counters.checkErrors := inc r.counters.checkErrors }
  let r := t.head h
  if r.state.inService then
    let u := t.setHead h { r with checkErrors := min (r.checkErrors + 1) 8 }
    if 8 ≤ r.checkErrors + 1 then u.faultHead h .checkErrors else u
  else t

/-- An accepted scan report (R33). -/
def State.reportAccepted (s : State) (h : Fin 16) : State :=
  let r := s.head h
  s.replaceHead h
    { r with
      checkErrors := 0, misses := 0, counters.scansAccepted := inc r.counters.scansAccepted,
      state := if r.state = .silent then .online else r.state }

/-- A discarded scan report (R33). -/
def State.reportDiscarded (s : State) (h : Fin 16) : State :=
  s.modHead h fun r => { r with counters.scansDiscarded := inc r.counters.scansDiscarded }

/-- The miss limit of the strand the head is assigned to has been reached by a count (R34). -/
def State.missLimitReached (s : State) (r : HeadRecord) (misses : Nat) : Bool :=
  match r.assignment with
  | some (i, _) => (s.strand i).params.missLimit ≤ misses
  | none => false

/-- A miss report (R34). -/
def State.reportMiss (s : State) (h : Fin 16) : State :=
  let t := s.modHead h fun r => { r with counters.misses := inc r.counters.misses }
  let r := t.head h
  let misses := min (r.misses + 1) 255
  match r.state with
  | .online =>
    if t.missLimitReached r misses then
      t.replaceHead h { r with misses := misses, state := .silent, counters.silences := inc r.counters.silences }
    else t.setHead h { r with misses := misses }
  | .silent => t.setHead h { r with misses := misses }
  | .offline => t
  | .held => t
  | .releasing => t
  | .awaiting => t
  | .faulted => t

/-- A STRAND_START of strand `i` refreshes one head (R35). -/
def State.refreshHead (i : Fin 4) (s : State) (h : Fin 16) : State :=
  let r := s.head h
  if r.assignedTo i then
    s.replaceHead h { r with misses := 0, state := if r.state = .silent then .online else r.state }
  else s

/-- A STRAND_START refreshes the strand's heads, in head order (R35, entry 11). -/
def State.refreshHeads (s : State) (i : Fin 4) : State := allHeads.foldl (State.refreshHead i) s

/-! ## Assignment (R21) -/

/-- The slot at which a configuration names a head. -/
def slotNaming (slots : Vector (Option (Fin 16)) 6) (h : Fin 16) : Option (Fin 6) :=
  allSlots.find? fun t => slots[t] = some h

/-- The assignment of a head after the slots of strand `i` were replaced (R21). -/
def newAssignment (i : Fin 4) (old new : Vector (Option (Fin 16)) 6) (h : Fin 16) (present : Option (Fin 4 × Fin 6)) :
    Option (Fin 4 × Fin 6) :=
  match slotNaming new h with
  | some t => some (i, t)
  | none => if (slotNaming old h).isSome then none else present

/-- One head takes its assignment, and its mismatch flag is re-evaluated if that changed (R21, R31). -/
def State.assignHead (i : Fin 4) (old new : Vector (Option (Fin 16)) 6) (s : State) (h : Fin 16) : State :=
  let a := newAssignment i old new h (s.head h).assignment
  if a = (s.head h).assignment then s else (s.modHead h fun r => { r with assignment := a }).reevaluate h

/-! ## RESTART (R39) -/

/-- What a RESTART does to a head's record: the counts are cleared, a SILENT head is ONLINE, and a running wait starts
again (R39). -/
def HeadRecord.restarted (now : Nat) (r : HeadRecord) : HeadRecord :=
  { r with
    checkErrors := 0, misses := 0,
    state := if r.state = .silent then .online else r.state,
    deadline :=
      match r.state with
      | .releasing => some (now + millis r.releaseDelay)
      | .awaiting => some (now + millis r.announceTimeout)
      | .offline | .held | .online | .silent | .faulted => r.deadline }

/-- An AWAITING head's HEAD_RELEASE is placed in the queue again (R39). -/
def State.requeueRelease (s : State) (h : Fin 16) : State :=
  if (s.head h).state = .awaiting then s.enqueueControl (.release h) else s

/-- A RESTART takes effect at the Head Table (R39). -/
def State.restartHeads (s : State) : State :=
  allHeads.foldl State.requeueRelease { s with heads := mapTable (HeadRecord.restarted s.now) s.heads }

end Sys2Proof.Machine
end

