-- ==== Sys2Proof/Machine/Gauge.lean ====
section
/-! DEFINITION. The arithmetic of the Gauge Evaluator (R104 to R117): exact integers throughout, with the two roundings that
the spec states (R108, R110). -/

namespace Sys2Proof.Machine

/-! ## Samples (R105, R106) -/

/-- The scale q of a scale code, in micrometres per count (R106). A head's scale code is at most 7 (R27). -/
def scaleOf : Nat → Int
  | 0 => 1
  | 1 => 2
  | 2 => 4
  | 3 => 5
  | 4 => 8
  | 5 => 10
  | 6 => 16
  | _ => 20

/-- The factor of a height sign (R106). -/
def HeightSign.factor : HeightSign → Int
  | .up => 1
  | .down => -1

/-- A raw sample that is VOID (R105). -/
def isVoid (r : Int) : Bool := r == -32768

/-- A raw sample that is CLIPPED (R105). -/
def isClipped (r : Int) : Bool := r == 32767 || r == -32767

/-- The height H of a raw sample (R106). -/
def Buffer.height (b : Buffer) (offset r : Int) : Int := b.sign.factor * r * scaleOf b.scaleCode + offset

/-- The samples of a buffer in normalised order (R106). -/
def Buffer.normalised (b : Buffer) : List Int :=
  let raw := b.samples.map BitVec.toInt
  match b.order with
  | .forward => raw
  | .reversed => raw.reverse

/-! ## Window statistics (R107) -/

/-- The statistics of a window, with the length of the run that is still going on. -/
structure WindowStats where
  n : Nat := 0
  sum : Int := 0
  outOfBand : Nat := 0
  run : Nat := 0
  longest : Nat := 0
  peak : Option Int := none
  clipped : Nat := 0
deriving DecidableEq, Repr

/-- The deviation of greatest magnitude so far; on a tie the earlier one (R107). -/
def peakWith (p : Option Int) (e : Int) : Option Int :=
  match p with
  | none => some e
  | some q => if q.natAbs < e.natAbs then some e else some q

/-- A sample is out of band (R107): CLIPPED, or its deviation lies outside the tolerances. -/
def isOutOfBand (t : Tolerance) (r e : Int) : Bool := isClipped r || e < t.lower || t.upper < e

/-- One sample in normalised order, with its deviation. -/
def WindowStats.take (w : WindowStats) (t : Tolerance) (deviation : Int → Int) (r : Int) : WindowStats :=
  if isVoid r then { w with run := 0 }
  else
    let e := deviation r
    let out := isOutOfBand t r e
    let run := if out then w.run + 1 else 0
    { n := w.n + 1, sum := w.sum + e, outOfBand := w.outOfBand + out.toNat, run := run, longest := max w.longest run,
      peak := peakWith w.peak e, clipped := w.clipped + (isClipped r).toNat }

/-- The samples of a window of normalised indices. A window that reaches past the buffer, which validation rules out (R91,
R104), takes the samples there are (entry 17). -/
def windowOf (samples : List Int) (first last : Nat) : List Int := (samples.drop first).take (last + 1 - first)

/-- The statistics of an instance on a buffer (R107). -/
def Placement.stats (p : Placement) (b : Buffer) (offset : Int) : WindowStats :=
  (windowOf b.normalised p.first p.last).foldl
    (fun w r => w.take p.entry.tol (fun x => b.height offset x - p.entry.geo.nominal) r) {}

/-- The mean of n deviations with the given sum: rounded to the nearest micrometre, halves away from zero (R108). -/
def meanOf (sum : Int) (n : Nat) : Int := sum.sign * (((2 * sum.natAbs + n) / (2 * n) : Nat) : Int)

/-! ## Trend, verdict and excess (R110 to R112) -/

/-- The trend filter after a mean (R110): seeded with the target, or moved 1/2^k of the way to it. -/
def trendAfter (filter : Option Int) (k : Nat) (mean : Int) : Int :=
  let target := mean * 256
  match filter with
  | none => target
  | some t => t + (target - t + 2 ^ (k - 1)) / 2 ^ k

/-- The verdict of an instance (R111). -/
def verdictOf (e : GaugeEntry) (mean : Int) (longest : Nat) (trend : Int) : GaugeVerdict :=
  if mean < e.tol.lower ∨ e.tol.upper < mean then .dimension
  else if e.geo.surfaceWidth ≤ longest then .surface
  else if 0 < e.tol.warn ∧ (e.tol.upper * e.tol.warn * 16 < trend ∨ trend < e.tol.lower * e.tol.warn * 16) then .drift
  else .sound

/-- The signed excess (R112). -/
def excessOf (t : Tolerance) (mean : Int) : Int :=
  if t.upper < mean then mean - t.upper else if mean < t.lower then mean - t.lower else 0

/-- The condition class of a verdict's name (R114). -/
def GaugeVerdict.cls : GaugeVerdict → ConditionClass
  | .sound => .sound
  | .drift => .drift
  | .surface => .surface
  | .dimension => .dimension

/-- What the evaluation finds for an instance that is not VOID. -/
structure Judged where
  placement : Placement
  stats : WindowStats
  mean : Int
  trend : Int
  verdict : GaugeVerdict
  excess : Int
deriving DecidableEq, Repr

/-- An instance is judged on its buffer: none where it is VOID at its mean (R108). -/
def Placement.judgeOn (p : Placement) (b : Buffer) (offset : Int) (filter : Option Int) : Option Judged :=
  let w := p.stats b offset
  if w.n < p.entry.geo.minValid then none
  else
    let mean := meanOf w.sum w.n
    let trend := trendAfter filter p.entry.tol.smoothing mean
    some { placement := p, stats := w, mean := mean, trend := trend, verdict := verdictOf p.entry mean w.longest trend,
           excess := excessOf p.entry.tol mean }

/-- The buffer that an instance may use (R104): its slot was received, its head's mismatch flag was clear at the beginning,
and the buffer's sample count is the slot's expected width. -/
def Evaluation.usable (ev : Evaluation) (bank : Bank) (slot : Fin 6) : Option Buffer :=
  match ev.set.scans[slot] with
  | none => none
  | some b => if hasSlot ev.mismatch slot ∨ b.samples.length ≠ bank.header.widths[slot] then none else some b

/-- An instance is judged in an evaluation: none where it is VOID (R104, R108). -/
def Evaluation.judge (ev : Evaluation) (bank : Bank) (p : Placement) (filter : Option Int) : Option Judged :=
  match slotOfNat p.entry.geo.slot with
  | none => none
  | some t =>
    match ev.usable bank t with
    | none => none
    | some b => p.judgeOn b ev.offsets[t] filter

/-- Every instance judged against its filter, in instance order. -/
def Evaluation.judgeAll (ev : Evaluation) (bank : Bank) : List Placement → List (Option Int) → List (Option Judged)
  | [], _ => []
  | p :: ps, f :: fs => ev.judge bank p f :: ev.judgeAll bank ps fs
  | p :: ps, [] => ev.judge bank p none :: ev.judgeAll bank ps []

/-- The filters after the instances were judged: a VOID instance leaves its filter as it is (R104, R109, R110). -/
def filtersAfter : List (Option Judged) → List (Option Int) → List (Option Int)
  | some j :: js, _ :: fs => some j.trend :: filtersAfter js fs
  | none :: js, f :: fs => f :: filtersAfter js fs
  | [], fs => fs
  | _ :: _, [] => []

/-! ## Slice results (R113 to R117) -/

/-- The slice area (R113). -/
def areaOf (js : List (Option Judged)) : Int := (js.map fun | some j => j.excess | none => 0).sum

/-- The number of VOID instances (R114). -/
def voidCountOf (js : List (Option Judged)) : Nat := js.countP Option.isNone

/-- The number of instances with a verdict. -/
def verdictCount (v : GaugeVerdict) (js : List (Option Judged)) : Nat :=
  js.countP fun | some j => j.verdict == v | none => false

/-- The worst verdict as a class; SOUND where every instance is VOID (R114, step 1). -/
def worstVerdict (js : List (Option Judged)) : ConditionClass :=
  js.foldl (fun c j => match j with | some j => worse c j.verdict.cls | none => c) .sound

/-- The slice class before the overlay (R114). -/
def gaugeClass (allowance : Nat) (js : List (Option Judged)) : ConditionClass :=
  let c := worstVerdict js
  if allowance < voidCountOf js then worse c .unseen else c

/-- The mark intersects the stretch [start, stop) (R115). -/
def Mark.meets (m : Mark) (start stop : Nat) : Bool := m.start < stop && start < m.stop

/-- The worst kind among the marks that intersect the stretch (R115). -/
def worstMark (marks : List Mark) (start stop : Nat) : Option MarkKind :=
  marks.foldl
    (fun k m =>
      if m.meets start stop then
        match k with
        | none => some m.kind
        | some k => some (worseKind k m.kind)
      else k)
    none

/-- The first instance, from number `n` on, whose verdict gives a class (R116). -/
def firstGiving (cls : ConditionClass) : Nat → List (Option Judged) → Option (Nat × Judged)
  | _, [] => none
  | n, some j :: js => if j.verdict.cls = cls then some (n, j) else firstGiving cls (n + 1) js
  | n, none :: js => firstGiving cls (n + 1) js

/-- The class, cause and cause instance of a slice (R114 to R117). -/
def sliceVerdict (allowance : Nat) (overlay : Option MarkKind) (js : List (Option Judged)) :
    ConditionClass × Option Cause × Option (Nat × Judged) :=
  match overlay with
  | some k => (k.cls, some (.mark k), none)
  | none =>
    let c := gaugeClass allowance js
    match firstGiving c 0 js with
    | some (n, j) => (c, some (.label j.placement.entry.geo.label), some (n, j))
    | none => (c, none, none)

/-- The cause instance of the last result record (R117). -/
def causeInstanceOf (n : Nat) (j : Judged) : CauseInstance :=
  { number := n, n := j.stats.n, mean := j.mean, outOfBand := j.stats.outOfBand, longestRun := j.stats.longest,
    peak := j.stats.peak.getD 0, trend := j.trend }

/-- The last result record of an evaluation (R117). -/
def Evaluation.result (ev : Evaluation) (bank : Bank) (overlay : Option MarkKind) (js : List (Option Judged)) :
    SliceResult :=
  let v := sliceVerdict bank.header.voidAllowance overlay js
  { slice := ev.set.slice, bank := ev.bank, generation := bank.generation, cls := v.1, cause := v.2.1, area := areaOf js,
    instanceCount := js.length, voidCount := voidCountOf js, soundCount := verdictCount .sound js,
    driftCount := verdictCount .drift js, surfaceCount := verdictCount .surface js,
    dimensionCount := verdictCount .dimension js, causeInstance := v.2.2.map fun x => causeInstanceOf x.1 x.2 }

/-- The CLIPPED samples inside the windows of the instances that are not VOID, once for each window (R118). -/
def clippedOf (js : List (Option Judged)) : Nat := (js.map fun | some j => j.stats.clipped | none => 0).sum

/-- The samples that the windows of a bank's instances cover, each window counted for itself (R100). -/
def Bank.covered (b : Bank) : Nat := (b.placements.map fun p => p.last + 1 - p.first).sum

/-- The latest completion of an evaluation after its beginning, in microseconds (R100). -/
def Bank.latest (b : Bank) : Nat := 10 + (b.covered + 63) / 64

end Sys2Proof.Machine
end

