-- ==== Sys2Proof/Machine/LengthMap.lean ====
section
/-! DEFINITION. The Length Map (chapter 7): run areas, the entry of slices, press marks, and the marks applied behind the
front. -/

namespace Sys2Proof.Machine

/-- The most runs a strand's map holds (R119). -/
def runCapacity : Nat := 96

/-- The most marks a strand's press mark queue holds (R119). -/
def markCapacity : Nat := 4

/-! ## Run area (R125, R126) -/

/-- Adding a value to an area accumulator A with its net overflow count O (R125). -/
def addArea (acc folds v : Int) : Int × Int :=
  let total := acc + v
  if 2147483647 < total then (total - 4294967296, min (folds + 1) 31)
  else if total < -2147483648 then (total + 4294967296, max (folds - 1) (-32))
  else (total, folds)

/-- The reported area and the saturated flag of A and O (R126). -/
def reportArea (acc folds : Int) : Int × Bool :=
  if 0 < folds then (2147483647, true) else if folds < 0 then (-2147483648, true) else (acc, false)

/-- The body of a run once it ends at a point: an open run is closed (R123), a closed one keeps its values. -/
def RunBody.closedAt (b : RunBody) (stop : Nat) : RunBody :=
  match b with
  | .running acc folds => .closed stop (reportArea acc folds).1 (reportArea acc folds).2
  | .closed _ area saturated => .closed stop area saturated

/-- The body of a later part of a split run (R130, R141): area 0, open if it stays open. -/
def RunBody.fresh (b : RunBody) : RunBody :=
  match b with
  | .running _ _ => .running 0 0
  | .closed stop _ _ => .closed stop 0 false

/-- The point where a run ends: an open run covers the strand up to the front (R120). -/
def Run.stopAt (r : Run) (front : Nat) : Nat := r.stop?.getD front

/-- An open run takes a slice (R121, R125). -/
def Run.takeSlice (r : Run) (area : Int) : Run :=
  { r with
    sliceCount := inc r.sliceCount,
    body :=
      match r.body with
      | .running acc folds => .running (addArea acc folds area).1 (addArea acc folds area).2
      | .closed stop a sat => .closed stop a sat }

/-- The open run of the list: its last run, where that is open (R120). -/
def Strand.openRun (st : Strand) : Option Run :=
  match st.runs.getLast? with
  | some r => if r.isOpen then some r else none
  | none => none

/-- The strand with its last run replaced. -/
def Strand.replaceLast (st : Strand) (r : Run) : Strand := { st with runs := st.runs.dropLast ++ [r] }

/-! ## Closure (R123, R133) -/

/-- RUN advice for a run that has closed, if its class gives advice (R133). -/
def State.adviseRun (s : State) (i : Fin 4) (r : Run) : State :=
  if r.cls.advised then s.issueAdvice i .run r.cls r.start (r.stopAt r.start) else s

/-- The open run, if there is one, closes at a point (R123). -/
def State.closeOpenRun (s : State) (i : Fin 4) (stop : Nat) : State :=
  match (s.strand i).openRun with
  | none => s
  | some r =>
    let closed := { r with body := r.body.closedAt stop }
    (s.modStrand i fun st =>
      { st.replaceLast closed with mapCounters.runsClosed := inc st.mapCounters.runsClosed }).adviseRun i closed

/-! ## Slices entering the map (R121, R122, R124) -/

/-- A slice that enters the map. -/
structure Entry where
  slice : Nat
  cls : ConditionClass
  cause : Option Cause
  area : Int
deriving DecidableEq, Repr

/-- A run opens at the slice's start and takes the slice; the settle counter becomes 0 (R122). -/
def Strand.openWith (st : Strand) (e : Entry) : Strand :=
  let r : Run :=
    { start := e.slice * st.params.pitch, body := .running 0 0, cls := e.cls, cause := e.cause, sliceCount := 0 }
  { st with
    runs := st.runs ++ [r.takeSlice e.area], settle := 0, mapCounters.runsOpened := inc st.mapCounters.runsOpened }

/-- The open run closes at the slice's start and a new one opens there (R122). -/
def State.turnRun (s : State) (i : Fin 4) (e : Entry) : State :=
  (s.closeOpenRun i (e.slice * (s.strand i).params.pitch)).modStrand i fun st => st.openWith e

/-- The open run of a full list takes the slice and is merged (R124). -/
def Run.mergeSlice (r : Run) (e : Entry) : Run :=
  { r.takeSlice e.area with
    cls := worse r.cls e.cls, cause := if r.cls.severity < e.cls.severity then e.cause else r.cause, merged := true }

/-- A slice would open a run and the list is full (R124). -/
def State.mergeSlice (s : State) (i : Fin 4) (r : Run) (e : Entry) : State :=
  let m := r.mergeSlice e
  let t := s.modStrand i fun st =>
    { st.replaceLast m with settle := 0, mapCounters.mapMerged := inc st.mapCounters.mapMerged }
  if r.merged then t else t.raise (.mapMerged i m.start m.cls)

/-- The slice would open a run: it does, or the list is full and it is merged (R122, R124). -/
def State.turnOrMerge (s : State) (i : Fin 4) (r : Run) (e : Entry) : State :=
  if runCapacity ≤ (s.strand i).runs.length then s.mergeSlice i r e else s.turnRun i e

/-- One slice enters the map (R122). -/
def State.enterSlice (s : State) (i : Fin 4) (e : Entry) : State :=
  let st := s.strand i
  match st.openRun with
  | none => s.modStrand i fun st => st.openWith e
  | some r =>
    if e.cls = r.cls then s.modStrand i fun st => { st.replaceLast (r.takeSlice e.area) with settle := 0 }
    else if r.cls.severity < e.cls.severity then s.turnOrMerge i r e
    else if st.settle + 1 < st.activeBank.header.settleCount then
      s.modStrand i fun st =>
        { st.replaceLast (r.takeSlice e.area) with
          settle := st.settle + 1, mapCounters.slicesAbsorbed := inc st.mapCounters.slicesAbsorbed }
    else s.turnOrMerge i r e

/-- The entry of a skipped slice: UNSEEN, raised to the worst mark that meets it (R121, step 1). -/
def Strand.skippedEntry (st : Strand) (k : Nat) : Entry :=
  match worstMark st.marks (k * st.params.pitch) ((k + 1) * st.params.pitch) with
  | some m => { slice := k, cls := m.cls, cause := some (.mark m), area := 0 }
  | none => { slice := k, cls := .unseen, cause := none, area := 0 }

/-- `n` skipped slices enter from index `k` on, in increasing order (R121, step 1). -/
def State.enterSkipped (s : State) (i : Fin 4) (k : Nat) : Nat → State
  | 0 => s
  | n + 1 => State.enterSkipped (s.enterSlice i ((s.strand i).skippedEntry k)) i (k + 1) n

/-! ## Press marks (R127 to R129) -/

/-- The last mark of the queue is widened (R127, R128). -/
def widenLast (marks : List Mark) (last : Mark) (stop : Nat) (kind : MarkKind) : List Mark :=
  marks.dropLast ++ [{ last with stop := stop, kind := worseKind last.kind kind }]

/-- A mark enters the press mark queue (R127 step 3, R128). -/
def Strand.queueMark (st : Strand) (m : Mark) : Strand :=
  match st.marks.getLast? with
  | none => { st with marks := [m] }
  | some l =>
    if m.start ≤ l.stop then { st with marks := widenLast st.marks l (max l.stop m.stop) m.kind }
    else if st.marks.length < markCapacity then { st with marks := st.marks ++ [m] }
    else
      { st with
        marks := widenLast st.marks l m.stop m.kind, mapCounters.markMerged := inc st.mapCounters.markMerged }

/-- The marks whose end is at or behind the front leave the queue (R129). -/
def Strand.retireMarks (st : Strand) : Strand := { st with marks := st.marks.filter fun m => st.front < m.stop }

/-! ## Marks behind the front (R130, R131) -/

/-- The region [a, b) of a mark that begins behind the front (R130): the mark widened to whole slices, within
[retired point, front). DESIGN CHOICE: R130's formulas decide, so a mark wholly behind a retired point inside a slice raises the
rest of that slice (entry 26). -/
def Strand.markRegion (st : Strand) (m : Mark) : Nat × Nat :=
  let p := st.params.pitch
  (max st.retired (m.start / p * p), min st.front ((m.stop + p - 1) / p * p))

/-- The run intersects the region and its class is below the mark's kind (R130). -/
def Run.raisedBy (r : Run) (kind : MarkKind) (region : Nat × Nat) (front : Nat) : Bool :=
  r.start < region.2 && region.1 < r.stopAt front && r.cls.severity < kind.cls.severity

/-- A part of a run at a split: its stretch, and whether it lies inside the region. -/
structure Part where
  start : Nat
  stop : Nat
  inside : Bool
deriving DecidableEq, Repr

/-- The parts of a stretch before, inside and after a region; empty parts are not kept (R130). -/
def partsOf (start stop : Nat) (region : Nat × Nat) : List Part :=
  [{ start := start, stop := min stop region.1, inside := false },
   { start := max start region.1, stop := min stop region.2, inside := true },
   { start := max start region.2, stop := stop, inside := false }].filter fun p => p.start < p.stop

/-- The class and cause of a part (R130). -/
def Run.asPart (r : Run) (kind : MarkKind) (p : Part) : Run :=
  if p.inside then { r with start := p.start, cls := kind.cls, cause := some (.mark kind) } else { r with start := p.start }

/-- The later parts of a split run: SPLIT, area 0, slices by length; only the last part of an open run stays open (R130). -/
def Run.laterParts (r : Run) (kind : MarkKind) (pitch : Nat) : List Part → List Run
  | [] => []
  | p :: ps =>
    { r.asPart kind p with
      split := true, sliceCount := (p.stop - p.start) / pitch,
      body := if r.isOpen ∧ ps = [] then .running 0 0 else .closed p.stop 0 false } :: r.laterParts kind pitch ps

/-- A run split into its parts (R130). The first part keeps the area and the rest of the slice count. -/
def Run.splitInto (r : Run) (kind : MarkKind) (pitch : Nat) : List Part → List Run
  | [] => [r]
  | p :: ps =>
    let later := r.laterParts kind pitch ps
    { r.asPart kind p with
      sliceCount := r.sliceCount - (later.map Run.sliceCount).sum,
      body := if r.isOpen ∧ ps = [] then r.body else r.body.closedAt p.stop } :: later

/-- What a run becomes under R130: unchanged, or its parts. -/
def Run.splitBy (r : Run) (kind : MarkKind) (region : Nat × Nat) (front pitch : Nat) : List Run :=
  if r.raisedBy kind region front then r.splitInto kind pitch (partsOf r.start (r.stopAt front) region) else [r]

/-- The settle counter after a mark was applied: 0 if the open run was raised (R130, R131). -/
def Strand.settleAfterMark (st : Strand) (kind : MarkKind) (region : Nat × Nat) : Nat :=
  if st.runs.any fun r => r.isOpen && r.raisedBy kind region st.front then 0 else st.settle

/-- The runs that closed because an open run was split (R130). -/
def Strand.closedBySplit (st : Strand) (kind : MarkKind) (region : Nat × Nat) : List Run :=
  (st.runs.filter Run.isOpen).flatMap fun r =>
    (r.splitBy kind region st.front st.params.pitch).filter fun p => !p.isOpen

/-- The runs in the region are split (R130), and RUN advice follows for the closed parts of an open run (R133). DESIGN CHOICE: the
advice of two closed parts of one run is issued in order along the strand (entry 27). -/
def State.splitRuns (s : State) (i : Fin 4) (m : Mark) (region : Nat × Nat) : State :=
  let st := s.strand i
  let closed := st.closedBySplit m.kind region
  closed.foldl (fun t r => t.adviseRun i r)
    (s.modStrand i fun st =>
      { st with
        runs := st.runs.flatMap fun r => r.splitBy m.kind region st.front st.params.pitch,
        settle := st.settleAfterMark m.kind region,
        mapCounters.runsClosed := satAdd st.mapCounters.runsClosed closed.length,
        mapCounters.marksAppliedBack := inc st.mapCounters.marksAppliedBack })

/-- A run that takes a mark's kind whole (R131). -/
def Run.raiseWhole (r : Run) (kind : MarkKind) : Run :=
  { r with cls := kind.cls, cause := some (.mark kind), merged := true }

/-- The runs in the region take the mark's kind whole, since the splits would exceed the list (R131). -/
def State.raiseRuns (s : State) (i : Fin 4) (m : Mark) (region : Nat × Nat) : State :=
  let st := s.strand i
  let t := s.modStrand i fun st =>
    { st with
      runs := st.runs.map fun r => if r.raisedBy m.kind region st.front then r.raiseWhole m.kind else r,
      settle := st.settleAfterMark m.kind region,
      mapCounters.mapMerged := inc st.mapCounters.mapMerged }
  match st.runs.find? fun r => r.raisedBy m.kind region st.front with
  | some r => t.raise (.mapMerged i r.start m.kind.cls)
  | none => t

/-- A mark that begins behind the front is applied to the runs already built (R130, R131). -/
def State.applyBack (s : State) (i : Fin 4) (m : Mark) : State :=
  let st := s.strand i
  let region := st.markRegion m
  let t := if m.start < st.retired then
      s.modStrand i fun st => { st with mapCounters.markBehind := inc st.mapCounters.markBehind }
    else s
  if region.2 ≤ region.1 then t
  else if runCapacity < (st.runs.flatMap fun r => r.splitBy m.kind region st.front st.params.pitch).length then
    t.raiseRuns i m region
  else t.splitRuns i m region

/-- The advice kind of a mark kind (R132). -/
def MarkKind.advice : MarkKind → AdviceKind
  | .stopMark => .stop
  | .weldZone => .weld

/-- Strand Control gives the map a new mark (R127). -/
def State.giveMark (s : State) (i : Fin 4) (m : Mark) : State :=
  let counted := s.modStrand i fun st => { st with mapCounters.marksMade := inc st.mapCounters.marksMade }
  let advised := counted.issueAdvice i m.kind.advice m.kind.cls m.start m.stop
  let applied := if m.start < (s.strand i).front then advised.applyBack i m else advised
  if m.stop ≤ (s.strand i).front then applied else applied.modStrand i fun st => st.queueMark m

end Sys2Proof.Machine
end

