-- ==== Sys2Proof/Machine/Pieces.lean ====
section
/-! DEFINITION. The Piece Unit (chapter 8): cut notices, the close check, the closing and grading of pieces, and the UNSEEN
tail. -/

namespace Sys2Proof.Machine

/-- The most entries of the pending cut list (R137). -/
def cutCapacity : Nat := 4

/-- The most records of the closed piece list (R137). -/
def closedCapacity : Nat := 8

/-! ## Taking runs into a piece (R141) -/

/-- The number of slices that begin at or after a point and before an end (R141, step 3). -/
def slicesBetween (pitch start stop : Nat) : Nat := (stop + pitch - 1) / pitch - (start + pitch - 1) / pitch

/-- The remainder of a run split at a cut (R141, step 3). -/
def Run.remainder (r : Run) (x front pitch : Nat) : Run :=
  { r with start := x, split := true, sliceCount := slicesBetween pitch x (r.stopAt front), body := r.body.fresh }

/-- A run as it is taken into a piece: it ends at a point with all its area (R141, step 2). -/
def Run.takenAt (r : Run) (stop : Nat) : Run := { r with body := r.body.closedAt stop }

/-- The part of a run before a cut, as it is taken into a piece: it has all the area, and the slice count that the remainder
leaves (R141, step 3). -/
def Run.partBefore (r : Run) (x front pitch : Nat) : Run :=
  { r.takenAt x with sliceCount := r.sliceCount - slicesBetween pitch x (r.stopAt front) }

/-- The runs that a cut at X takes, in order, and the runs that stay (R141, steps 2 and 3). -/
def takeRuns (x front pitch : Nat) : List Run → List Run × List Run
  | [] => ([], [])
  | r :: rs =>
    if r.stopAt front ≤ x then
      let rest := takeRuns x front pitch rs
      (r.takenAt (r.stopAt front) :: rest.1, rest.2)
    else if r.start < x then ([r.partBefore x front pitch], r.remainder x front pitch :: rs)
    else ([], r :: rs)

/-- The runs that leave the map whole at a cut (R141, step 2). -/
def retiredWhole (x front : Nat) (runs : List Run) : List Run := runs.takeWhile fun r => r.stopAt front ≤ x

/-! ## Grading (R143 to R146) -/

/-- The reported area and saturated flag of a run taken into a piece. -/
def Run.reported (r : Run) : Int × Bool :=
  match r.body with
  | .running acc folds => reportArea acc folds
  | .closed _ area sat => (area, sat)

/-- The length of a run taken into a piece. -/
def Run.length (r : Run) : Nat := r.stopAt r.start - r.start

/-- The length of one class among the runs taken (R144). -/
def classLength (c : ConditionClass) (taken : List Run) : Nat :=
  ((taken.filter fun r => r.cls = c).map Run.length).sum

/-- The seven class lengths, SOUND first (R144). -/
def classLengths (taken : List Run) : Vector Nat 7 :=
  #v[classLength .sound taken, classLength .drift taken, classLength .unseen taken, classLength .surface taken,
    classLength .dimension taken, classLength .stopMark taken, classLength .weldZone taken]

/-- The worst class among runs (R144). -/
def worstClass (taken : List Run) : ConditionClass := taken.foldl (fun c r => worse c r.cls) .sound

/-- The cause of the first run of a class (R144). -/
def causeOfClass (c : ConditionClass) (taken : List Run) : Option Cause :=
  match taken.find? fun r => r.cls = c with
  | some r => r.cause
  | none => none

/-- The folded area of the runs taken (R145). -/
def foldedArea (taken : List Run) : Int × Int := taken.foldl (fun a r => addArea a.1 a.2 r.reported.1) (0, 0)

/-- A piece's area and saturated flag (R145). -/
def pieceArea (taken : List Run) : Int × Bool :=
  let a := foldedArea taken
  ((reportArea a.1 a.2).1, (reportArea a.1 a.2).2 || taken.any fun r => r.reported.2)

/-- A piece's verdict (R146). -/
def pieceVerdict (h : BankHeader) (taken : List Run) : PieceVerdict :=
  let surface := classLength .surface taken
  if 0 < classLength .dimension taken + classLength .stopMark taken + classLength .weldZone taken
      ∨ h.surfaceAllowance < surface then .scrap
  else if 0 < surface ∨ h.unseenAllowance < classLength .unseen taken ∨ h.driftAllowance < classLength .drift taken then
    .hold
  else .prime

/-- The piece record of a cut (R143). -/
def Strand.pieceOf (st : Strand) (i : Fin 4) (cut : Cut) (tail : Bool) (taken : List Run) : Piece :=
  { strand := i, number := inc st.pieceCounter, start := st.retired, stop := cut.position,
    verdict := pieceVerdict st.activeBank.header taken, worst := worstClass taken,
    cause := causeOfClass (worstClass taken) taken, lengths := classLengths taken, area := (pieceArea taken).1,
    saturated := (pieceArea taken).2, mergedCut := cut.merged, unseenTail := tail,
    mapMerged := taken.any Run.merged, bank := st.active, generation := st.activeBank.generation }

/-- The counter of a verdict is increased (R151). -/
def PieceCounters.countVerdict (c : PieceCounters) (v : PieceVerdict) : PieceCounters :=
  match v with
  | .prime => { c with piecesPrime := inc c.piecesPrime }
  | .hold => { c with piecesHold := inc c.piecesHold }
  | .scrap => { c with piecesScrap := inc c.piecesScrap }

/-- The strand after a cut has closed a piece (R141, steps 1 to 6, but for the offer to the Line Port). -/
def Strand.closePiece (st : Strand) (i : Fin 4) (cut : Cut) (tail : Bool) : Strand :=
  let x := cut.position
  let split := takeRuns x st.front st.params.pitch st.runs
  let whole := retiredWhole x st.front st.runs
  let piece := st.pieceOf i cut tail split.1
  { st with
    pieceCounter := inc st.pieceCounter, runs := split.2, settle := if whole.any Run.isOpen then 0 else st.settle,
    retired := x, closed := st.closed ++ [piece],
    pieceCounters :=
      ({ st.pieceCounters with
         piecesClosed := inc st.pieceCounters.piecesClosed,
         runsRetired := satAdd st.pieceCounters.runsRetired whole.length } : PieceCounters).countVerdict piece.verdict }

/-- The newly closed piece is offered to the Line Port: it enters at once where it is the oldest of the list and an entry is
free (R147). -/
def State.offerPiece (s : State) (i : Fin 4) : State :=
  match (s.strand i).closed with
  | [p] => if s.lineHasRoom then (s.modStrand i fun st => { st with closed := [] }).enqueueRecord (.piece p) else s
  | [] => s
  | _ :: _ :: _ => s

/-! ## The UNSEEN tail (R142) -/

/-- The stretches between consecutive points. Empty ones are not kept. -/
def stretches (start : Nat) : List Nat → List (Nat × Nat)
  | [] => []
  | p :: ps => if start < p then (start, p) :: stretches p ps else stretches start ps

/-- The points at which the tail [front, X) is cut: the starts and ends of marks strictly inside it (R142, step 1). -/
def Strand.tailPoints (st : Strand) (x : Nat) : List Nat :=
  ((st.marks.flatMap fun m => [m.start, m.stop]).filter fun p => st.front < p && p < x).insertionSort (· ≤ ·)

/-- The tail run over a stretch (R142, step 1). -/
def Strand.tailRun (st : Strand) (p : Nat × Nat) : Run :=
  let k := worstMark st.marks p.1 p.2
  { start := p.1, body := .closed p.2 0 false, cls := (k.map MarkKind.cls).getD .unseen, cause := k.map Cause.mark,
    sliceCount := 0, tail := true }

/-- The tail runs up to X (R142, step 1). -/
def Strand.tailRuns (st : Strand) (x : Nat) : List Run :=
  (stretches st.front (st.tailPoints x ++ [x])).map st.tailRun

/-- The one run that covers a tail whose parts do not fit, where the list has room for it (R142, step 2). -/
def Strand.wholeTail (st : Strand) (x : Nat) (parts : List Run) : Run :=
  { start := st.front, body := .closed x 0 false, cls := worstClass parts, cause := causeOfClass (worstClass parts) parts,
    sliceCount := 0, merged := true, tail := true }

/-- The last run of a full list extended over the tail (R142, step 2). -/
def Run.extendTail (r : Run) (x : Nat) (parts : List Run) : Run :=
  let w := worstClass parts
  { r with
    body := r.body.closedAt x, cls := worse r.cls w,
    cause := if r.cls.severity < w.severity then causeOfClass w parts else r.cause, merged := true, tail := true }

/-- The front moves to X over a tail, and the marks it has passed leave the queue (R142, steps 3 and 4). -/
def Strand.moveFront (st : Strand) (x : Nat) : Strand :=
  { ({ st with front := x } : Strand).retireMarks with pieceCounters.tailsAdded := inc st.pieceCounters.tailsAdded }

/-- The tail is covered by one run, merged and noticed (R142, step 2). -/
def State.mergeTail (s : State) (i : Fin 4) (x : Nat) (r : Run) (runs : List Run) : State :=
  (s.modStrand i fun st =>
    ({ st with runs := runs ++ [r], mapCounters.mapMerged := inc st.mapCounters.mapMerged } : Strand).moveFront x).raise
    (.mapMerged i r.start r.cls)

/-- The map of a CLOSED strand is extended to X (R142). -/
def State.addTail (s : State) (i : Fin 4) (x : Nat) : State :=
  let st := s.strand i
  let parts := st.tailRuns x
  if st.runs.length + parts.length ≤ runCapacity then
    s.modStrand i fun st => ({ st with runs := st.runs ++ parts } : Strand).moveFront x
  else if st.runs.length < runCapacity then s.mergeTail i x (st.wholeTail x parts) st.runs
  else
    match st.runs.getLast? with
    | some r => s.mergeTail i x (r.extendTail x parts) st.runs.dropLast
    | none => s

/-! ## The close check (R140) -/

/-- The oldest pending cut closes a piece now (R140). -/
def Strand.canClose (st : Strand) (cut : Cut) : Bool :=
  st.closed.length < closedCapacity && (cut.position ≤ st.front || st.state = .closed)

/-- The cut lies beyond the front, so that it closes over a tail (R142). -/
def Strand.needsTail (st : Strand) (cut : Cut) : Bool := st.front < cut.position

/-- The oldest pending cut closes its piece (R141): the tail if needed, the piece, the offer to the Line Port; the entry
leaves the list; a CLOSED strand is checked for IDLE. -/
def State.closeCut (s : State) (i : Fin 4) (cut : Cut) : State :=
  let tail := (s.strand i).needsTail cut
  let t := if tail then s.addTail i cut.position else s
  let u := (t.modStrand i fun st => st.closePiece i cut tail).offerPiece i
  (u.modStrand i fun st => { st with cuts := st.cuts.drop 1 }).idleCheck i

/-- At most `n` pending cuts close, oldest first, as long as the oldest can (R140). -/
def State.closeCuts (s : State) (i : Fin 4) : Nat → State
  | 0 => s
  | n + 1 =>
    match (s.strand i).cuts with
    | [] => s
    | cut :: _ => if (s.strand i).canClose cut then State.closeCuts (s.closeCut i cut) i n else s

/-- The close check of a strand (R140). -/
def State.closeCheck (s : State) (i : Fin 4) : State := s.closeCuts i (s.strand i).cuts.length

/-! ## Cut notices (R138, R139) -/

/-- A cut is at or behind the retired point, or at or behind the last pending cut (R138). -/
def Strand.isBackward (st : Strand) (x : Nat) : Bool :=
  x ≤ st.retired || (match st.cuts.getLast? with | some c => x ≤ c.position | none => false)

/-- A cut is accepted into the pending cut list (R138). -/
def Strand.acceptCut (st : Strand) (x : Nat) : Strand :=
  { st with
    cuts := st.cuts ++ [{ position := x, merged := st.overrun }], overrun := false,
    pieceCounters.cutsAccepted := inc st.pieceCounters.cutsAccepted }

/-- A cut is dropped at a full list (R139, R150). -/
def State.overrunCut (s : State) (i : Fin 4) (x : Nat) : State :=
  (s.modStrand i fun st =>
    { st with overrun := true, pieceCounters.cutOverrun := inc st.pieceCounters.cutOverrun }).raise (.cutOverrun i x)

/-- A consumed CUT_NOTICE (R138). -/
def State.cutNotice (s : State) (strand x : Nat) : State :=
  match strandOfNat strand with
  | none => { s with cutInvalid := inc s.cutInvalid }
  | some i =>
    let st := s.strand i
    if st.state = .idle then
      s.modStrand i fun st => { st with pieceCounters.cutIgnored := inc st.pieceCounters.cutIgnored }
    else if st.isBackward x then
      s.modStrand i fun st => { st with pieceCounters.backward := inc st.pieceCounters.backward }
    else if cutCapacity ≤ st.cuts.length then s.overrunCut i x
    else (s.modStrand i fun st => st.acceptCut x).closeCheck i

end Sys2Proof.Machine
end

