-- ==== Sys2Proof/Machine/Strands.lean ====
section
/-! DEFINITION. The end of a strand's run: DRAINING, CLOSED and the return to IDLE (R54, R55), and what a STRAND_START and a
STRAND_RESET do to a strand (R52, R56, R76, R103, R137). -/

namespace Sys2Proof.Machine

/-- The open run closes at the front at the end of draining, and the settle counter becomes 0 (R55 step 1, R123). -/
def State.closeAtEnd (s : State) (i : Fin 4) : State :=
  match (s.strand i).openRun with
  | none => s
  | some _ => (s.closeOpenRun i (s.strand i).front).modStrand i fun st => { st with settle := 0 }

/-- A pending switch is taken at entry to CLOSED (R97). -/
def State.switchAtClose (s : State) (i : Fin 4) : State :=
  match (s.strand i).pendingSwitch with
  | some p => s.takeSwitch i p none
  | none => s

/-- A strand leaves DRAINING: the open run closes, a pending switch is taken, the state becomes CLOSED, and the close check
and the check for IDLE are made (R55, R140). -/
def State.leaveDraining (s : State) (i : Fin 4) : State :=
  ((((s.closeAtEnd i).switchAtClose i).changeStrand i .closed).closeCheck i).idleCheck i

/-- The strand is DRAINING with no set and no evaluation (R55). -/
def Strand.drained (st : Strand) : Bool := st.state = .draining && st.sets.isEmpty && st.eval.isNone

/-- Strand Control checks whether a strand may leave DRAINING (R55). -/
def State.drainCheck (s : State) (i : Fin 4) : State := if (s.strand i).drained then s.leaveDraining i else s

/-- A strand's run ends (R54): a strand in ARMED, RUNNING or STALLED goes to DRAINING. -/
def State.endRun (s : State) (i : Fin 4) : State :=
  if (s.strand i).state.live then (s.changeStrand i .draining).drainCheck i else s

/-- The number of evaluations that a discard counts: one where one is in flight (R103). -/
def Strand.inFlight (st : Strand) : Nat := st.eval.isSome.toNat

/-- What a reset discards of a strand: its sets and their buffers, an evaluation in flight, the trend filters, the last
result, the map, the pending cuts, the closed pieces and the held advice, and the piece counter (R56, R76, R103, R119, R137);
the runtime fields are cleared as entry to IDLE clears them (R50). -/
def Strand.discard (st : Strand) : Strand :=
  { st.clearRuntime.unseedAll with
    sets := [], eval := none, unseed := 0, last := none,
    engCounters.evaluationsDiscarded := satAdd st.engCounters.evaluationsDiscarded st.inFlight,
    cuts := [], overrun := false, closed := [], held := [], pieceCounter := 0 }

/-- What an accepted STRAND_START does to the strand but for its state (R52, R99, R137): the origin is L, the runtime fields
take their values, and the closed pieces, the held advice and the piece counter are kept. -/
def Strand.started (st : Strand) (length : Nat) : Strand :=
  { st.clearRuntime.unseedAll with
    origin := some length, sets := [], last := none, cuts := [], overrun := false }

end Sys2Proof.Machine
end

