-- ==== Sys2Proof/Machine/Assembly.lean ====
section
/-! DEFINITION. The Slice Assembler (chapter 4): sets, the buffer pool, the judgement of scans, the ways a set becomes READY,
the ordered release, and the completion of an evaluation (R101, R75). -/

namespace Sys2Proof.Machine

/-- The most sets of a strand's list (R63). -/
def setCapacity : Nat := 8

/-- The buffers of the pool (R64). -/
def bufferCapacity : Nat := 64

/-! ## Sets and buffers (R63, R64) -/

/-- The received slots of a set: those that have a scan. -/
def SliceSet.received (x : SliceSet) : BitVec 6 := slotSet fun t => x.scans[t].isSome

/-- The buffers that a set refers to. -/
def SliceSet.buffers (x : SliceSet) : Nat := x.scans.toList.countP Option.isSome

/-- Every expected slot has been received. -/
def SliceSet.allReceived (x : SliceSet) : Bool := allSlots.all fun t => !hasSlot x.expected t || x.scans[t].isSome

/-- The buffers of a strand: in its list and in its evaluation (R64, R78). -/
def Strand.buffers (st : Strand) : Nat :=
  (st.sets.map SliceSet.buffers).sum + (match st.eval with | some ev => ev.set.buffers | none => 0)

/-- The buffers in use. -/
def State.buffersInUse (s : State) : Nat := (s.strands.toList.map Strand.buffers).sum

/-- The free buffers of the pool. -/
def State.buffersFree (s : State) : Nat := bufferCapacity - s.buffersInUse

/-- The OPEN set of a strand for a slice index. -/
def Strand.openSet (st : Strand) (k : Nat) : Option SliceSet := st.sets.find? fun x => x.slice = k && !x.ready

/-- The strand with the sets of one index changed. -/
def Strand.modSet (st : Strand) (k : Nat) (f : SliceSet → SliceSet) : Strand :=
  { st with sets := st.sets.map fun x => if x.slice = k then f x else x }

/-! ## The beginning of an evaluation (R74, R96, R100) -/

/-- The mismatch flags of the strand's heads, slot by slot (R100). -/
def State.slotMismatch (s : State) (i : Fin 4) : BitVec 6 :=
  slotSet fun t => match (s.strand i).slots[t] with | some h => (s.head h).mismatch | none => false

/-- The calibration offsets of the strand's heads, slot by slot; 0 for an empty slot (R100). -/
def State.slotOffsets (s : State) (i : Fin 4) : Vector Int 6 :=
  mapTable (fun | some h => (s.head h).offset | none => 0) (s.strand i).slots

/-- The engine fixes its context and begins (R100). -/
def State.startEvaluation (s : State) (i : Fin 4) (x : SliceSet) : State :=
  s.modStrand i fun st =>
    { st with
      eval := some
        { set := x, bank := st.active, mismatch := s.slotMismatch i, offsets := s.slotOffsets i, began := s.now } }

/-- The release rule (R74): the oldest set is released if it is READY and the engine is FREE; its evaluation begins at once,
after the decision about a pending switch (R96). -/
def State.releaseRule (s : State) (i : Fin 4) : State :=
  match (s.strand i).sets with
  | x :: rest =>
    if x.ready ∧ (s.strand i).eval.isNone then
      ((s.modStrand i fun st =>
        { st with sets := rest, asmCounters.slicesReleased := inc st.asmCounters.slicesReleased }).decideSwitch i
        x.slice).startEvaluation i x
    else s
  | [] => s

/-! ## Becoming READY (R66, R71 to R73) -/

/-- The miss of one slot of a set, if it was expected and not received (R73). -/
def State.reportSlotMiss (i : Fin 4) (x : SliceSet) (s : State) (t : Fin 6) : State :=
  if hasSlot x.expected t && (x.scans[t]).isNone then
    match (s.strand i).slots[t] with
    | some h => s.reportMiss h
    | none => s
  else s

/-- The misses of a set that has become READY by deadline or by force, in slot order (R73, entry 11). -/
def State.reportMisses (s : State) (i : Fin 4) (x : SliceSet) : State := allSlots.foldl (State.reportSlotMiss i x) s

/-- A set becomes READY. -/
def SliceSet.makeReady (x : SliceSet) : SliceSet := { x with ready := true }

/-- The deadline of an OPEN set passes (R72). -/
def State.timeOutSet (s : State) (i : Fin 4) (x : SliceSet) : State :=
  ((s.modStrand i fun st =>
    { st.modSet x.slice SliceSet.makeReady with
      asmCounters.setsTimedOut := inc st.asmCounters.setsTimedOut }).reportMisses i x).releaseRule i

/-- The oldest set of a full list is forced READY if it is OPEN (R66, step 1). -/
def State.forceOldest (s : State) (i : Fin 4) : State :=
  match (s.strand i).sets with
  | x :: _ =>
    if x.ready then s
    else
      (s.modStrand i fun st =>
        { st.modSet x.slice SliceSet.makeReady with
          asmCounters.forcedClose := inc st.asmCounters.forcedClose }).reportMisses i x
  | [] => s

/-! ## Opening a set (R65, R66) -/

/-- A set for a slice joins the tail of the list (R65). -/
def Strand.addSet (st : Strand) (k openTime : Nat) (expected : BitVec 6) : Strand :=
  { st with
    sets := st.sets ++
      [{ slice := k, openTime := openTime, deadline := openTime + st.params.scanWait, expected := expected }],
    asmCounters.setsOpened := inc st.asmCounters.setsOpened }

/-- A set opens, if need be after the oldest of a full list was forced READY and released (R65, R66). -/
def State.openSet (s : State) (i : Fin 4) (k : Nat) (expected : BitVec 6) : State :=
  let t := if (s.strand i).sets.length < setCapacity then s else (s.forceOldest i).releaseRule i
  if (t.strand i).sets.length < setCapacity then t.modStrand i fun st => st.addSet k t.now expected
  else t.modStrand i fun st => { st with asmCounters.setRefused := inc st.asmCounters.setRefused }

/-! ## Scans (R67 to R71) -/

/-- The outcome of a scan (4.3). -/
inductive ScanOutcome where
  | stray | malformed | late | duplicate | noBuffer
  | accepted (strand : Fin 4) (slot : Fin 6)
deriving DecidableEq, Repr

/-- The samples of a SCAN payload from its byte 16 on (R167). -/
def samplesOf : List Byte → List (BitVec 16)
  | a :: b :: rest => (a ++ b) :: samplesOf rest
  | [_] => []
  | [] => []

/-- The slice index of a SCAN payload (R167). -/
def scanSlice (p : List Byte) : Nat := fieldNat p 1 4

/-- The samples that a SCAN carries (R167). -/
def scanSamples (p : List Byte) : List (BitVec 16) := samplesOf (p.drop 16)

/-- The checks on the set that a scan names, and on the pool (R68, R69). -/
def State.judgeForSet (s : State) (i : Fin 4) (t : Fin 6) (k : Nat) : ScanOutcome :=
  match (s.strand i).openSet k with
  | none => .late
  | some x =>
    if (x.scans[t]).isSome then .duplicate
    else if s.buffersFree = 0 then .noBuffer
    else .accepted i t

/-- The judgement of a scan from a head (R67 to R69). -/
def State.judgeScan (s : State) (h : Fin 16) (p : List Byte) : ScanOutcome :=
  let r := s.head h
  match r.assignment with
  | none => .stray
  | some (i, t) =>
    if r.state.inService ∧ fieldNat p 0 1 = i.val then
      if r.announced.map Announced.width = some (scanSamples p).length then s.judgeForSet i t (scanSlice p)
      else .malformed
    else .stray

/-- A discarded scan is counted by its reason and reported to the Head Table (R70, R77). -/
def State.discardScan (s : State) (h : Fin 16) (c : ScanCounters) : State :=
  State.reportDiscarded { s with scans := c } h

/-- The buffer that an accepted scan fills (R64). -/
def State.fillBuffer (s : State) (h : Fin 16) (t : Fin 6) (p : List Byte) : Option Buffer :=
  (s.head h).announced.map fun a =>
    { head := h, slot := t, samples := scanSamples p, order := a.order, sign := a.sign, scaleCode := a.scaleCode }

/-- The completion check of a set after a scan was accepted into it (R71). -/
def State.completeSet (s : State) (i : Fin 4) (k : Nat) : State :=
  match (s.strand i).openSet k with
  | none => s
  | some x =>
    if x.expected ≠ 0 ∧ x.allReceived then
      (s.modStrand i fun st =>
        { st.modSet k SliceSet.makeReady with
          asmCounters.setsCompleted := inc st.asmCounters.setsCompleted }).releaseRule i
    else s

/-- A scan is accepted (R69): the buffer is filled and referred to, the head is told (R70), and the completion check is made
(R71). -/
def State.acceptScan (s : State) (h : Fin 16) (i : Fin 4) (t : Fin 6) (p : List Byte) : State :=
  let k := scanSlice p
  ((s.modStrand i fun st => st.modSet k fun x => { x with scans := x.scans.set t (s.fillBuffer h t p) }).reportAccepted
    h).completeSet i k

/-- A consumed SCAN (4.3). -/
def State.scan (s : State) (h : Fin 16) (p : List Byte) : State :=
  match s.judgeScan h p with
  | .stray => s.discardScan h { s.scans with stray := inc s.scans.stray }
  | .malformed => s.discardScan h { s.scans with malformed := inc s.scans.malformed }
  | .late => s.discardScan h { s.scans with late := inc s.scans.late }
  | .duplicate => s.discardScan h { s.scans with duplicate := inc s.scans.duplicate }
  | .noBuffer => s.discardScan h { s.scans with noBuffer := inc s.scans.noBuffer }
  | .accepted i t => s.acceptScan h i t p

/-! ## The completion of an evaluation (R101, R75) -/

/-- The instances of an evaluation, judged (R104 to R112). -/
def Strand.judged (st : Strand) (ev : Evaluation) : List (Option Judged) :=
  ev.judgeAll (st.bank ev.bank) (st.bank ev.bank).placements st.filters.toList

/-- The marks' overlay on a slice (R115). -/
def Strand.overlay (st : Strand) (k : Nat) : Option MarkKind :=
  worstMark st.marks (k * st.params.pitch) ((k + 1) * st.params.pitch)

/-- The result of an evaluation (R113 to R117). -/
def Strand.evaluate (st : Strand) (ev : Evaluation) : SliceResult :=
  ev.result (st.bank ev.bank) (st.overlay ev.set.slice) (st.judged ev)

/-- The engine after a completed evaluation: the filters, the last result record and the counters are written, the pending
unseed slots are applied and cleared, and the engine is FREE (R101, R117, R118). -/
def Strand.finishEvaluation (st : Strand) (ev : Evaluation) : Strand :=
  let js := st.judged ev
  let written : Strand :=
    { st with
      filters := retable st.filters (filtersAfter js st.filters.toList),
      last := some (st.evaluate ev),
      engCounters :=
        { st.engCounters with
          slicesEvaluated := inc st.engCounters.slicesEvaluated,
          instancesVoid := satAdd st.engCounters.instancesVoid (voidCountOf js),
          samplesClipped := satAdd st.engCounters.samplesClipped (clippedOf js) } }
  { written.applyUnseed st.unseed with unseed := 0, eval := none }

/-- The first index that has not been handed to the map (R75, step 1). -/
def Strand.nextIndex (st : Strand) : Nat :=
  match st.lastReleased with
  | none => 0
  | some k => k + 1

/-- The skipped indices and the slice are handed to the map (R75, steps 1 and 2; R121). -/
def State.handOver (s : State) (i : Fin 4) (e : Entry) : State :=
  let first := (s.strand i).nextIndex
  let n := e.slice - first
  ((s.modStrand i fun st =>
    { st with asmCounters.slicesSkipped := satAdd st.asmCounters.slicesSkipped n }).enterSkipped i first n).enterSlice i e

/-- The last released index and the front move, and the marks that the front has passed leave the queue (R75 step 3, R129). -/
def Strand.moveTo (st : Strand) (k : Nat) : Strand :=
  ({ st with lastReleased := some k, front := (k + 1) * st.params.pitch } : Strand).retireMarks

/-- The completion sequence (R75). The buffers return to the pool with the evaluation's context (R101 step 4, entry 10). -/
def State.completionSequence (s : State) (i : Fin 4) (e : Entry) : State :=
  (((((s.handOver i e).modStrand i fun st => st.moveTo e.slice).closeCheck i).releaseRule i).drainCheck i)

/-- An evaluation completes (R101). -/
def State.completeEvaluation (s : State) (i : Fin 4) (ev : Evaluation) : State :=
  let r := (s.strand i).evaluate ev
  (s.modStrand i fun st => st.finishEvaluation ev).completionSequence i
    { slice := r.slice, cls := r.cls, cause := r.cause, area := r.area }

end Sys2Proof.Machine
end

