-- ==== Sys2Proof/Machine/Travel.lean ====
section
/-! DEFINITION. The Travel Unit (R40 to R49), the crossing rule and triggers (R53, R58, R59), and press notices (R60, R61). -/

namespace Sys2Proof.Machine

/-- The greatest runout length (R40). -/
def maxLength : Nat := 1099511627775

/-- The greatest backlash debt (R40). -/
def maxDebt : Nat := 65535

/-! ## Crossings and triggers (R58, R59) -/

/-- The slots of a strand whose heads are ONLINE (R59, R65). -/
def State.onlineSlots (s : State) (i : Fin 4) : BitVec 6 :=
  slotSet fun t => match (s.strand i).slots[t] with | some h => (s.head h).state = .online | none => false

/-- The head mask of a trigger: the strand's heads that are ONLINE (R59, step 1). -/
def State.headMask (s : State) (i : Fin 4) : BitVec 16 :=
  allSlots.foldl
    (fun acc t =>
      match (s.strand i).slots[t] with
      | some h => if (s.head h).state = .online then acc ||| (1#16 <<< h.val) else acc
      | none => acc)
    0#16

/-- The trigger guard has passed since the last trigger (R58). -/
def Strand.guardPassed (st : Strand) (now : Nat) : Bool :=
  match st.lastTriggerTime with
  | none => true
  | some t => t + st.params.triggerGuard ≤ now

/-- A trigger is issued for a slice (R59). -/
def State.issueTrigger (s : State) (i : Fin 4) (k : Nat) : State :=
  let t := s.modStrand i fun st =>
    { st with
      lastTriggered := some k, lastTriggerTime := some s.now, counters.triggersIssued := inc st.counters.triggersIssued }
  (t.enqueueTrigger (.trigger i k (s.headMask i))).openSet i k (s.onlineSlots i)

/-- A crossing is withheld (R58). -/
def Strand.withhold (st : Strand) (k : Nat) : Strand :=
  { st with lastTriggered := some k, counters.triggerWithheld := inc st.counters.triggerWithheld }

/-- The index is a new crossing (R58). -/
def Strand.isNewCrossing (st : Strand) (k : Nat) : Bool :=
  match st.lastTriggered with
  | none => true
  | some l => l < k

/-- The crossing rule (R58), with the current slice index brought up to date (R50). -/
def State.crossing (s : State) (i : Fin 4) : State :=
  let k := s.ell i / (s.strand i).params.pitch
  let t := s.modStrand i fun st => { st with sliceIndex := k }
  if (s.strand i).isNewCrossing k then
    if (s.strand i).guardPassed s.now then t.issueTrigger i k else t.modStrand i fun st => st.withhold k
  else t

/-- An increase of L informs a strand (R46, R53). -/
def State.informStrand (s : State) (i : Fin 4) : State :=
  match (s.strand i).state with
  | .armed => (s.changeStrand i .running).crossing i
  | .stalled => (s.changeStrand i .running).crossing i
  | .running => s.crossing i
  | .idle => s
  | .draining => s
  | .closed => s

/-! ## Counts into length (R42 to R48) -/

/-- A puller's reference. -/
def Travel.ref (t : Travel) : Puller → Option Word32
  | .a => t.refA
  | .b => t.refB

/-- The Travel Unit with a puller's reference replaced. -/
def Travel.setRef (t : Travel) (p : Puller) (count : Word32) : Travel :=
  match p with
  | .a => { t with refA := some count }
  | .b => { t with refB := some count }

/-- A record of a puller is counted (R42). -/
def Travel.countRecord (t : Travel) (p : Puller) : Travel :=
  match p with
  | .a => { t with counters.recordsA := inc t.counters.recordsA }
  | .b => { t with counters.recordsB := inc t.counters.recordsB }

/-- A reversal adds to the backlash debt (R44). -/
def Travel.reverse (t : Travel) (d : Nat) : Travel := { t with debt := min (t.debt + d) maxDebt }

/-- The effective count of an advance (R45, step 1). -/
def Travel.effective (t : Travel) (d : Nat) : Nat := d - t.debt

/-- The total of an advance: the effective count scaled by num, with the residue (R45, step 3). -/
def Travel.total (t : Travel) (d : Nat) : Nat := t.effective d * t.config.num + t.residue

/-- The Travel Unit after an advance (R45): the debt is paid; L and the residue move with the effective count, L up to its
limit. -/
def Travel.advance (t : Travel) (d : Nat) : Travel :=
  let paid := { t with debt := t.debt - d }
  if t.effective d = 0 then paid
  else
    { paid with
      length := if t.length < maxLength then min (t.length + t.total d / t.config.den) maxLength else t.length,
      residue := t.total d % t.config.den }

/-- The length limit is reached (R48). DESIGN CHOICE (entry 29): LENGTH_LIMIT is raised before the runs end, so it stands before
their STRAND_STATE notices and their other records; R48 does not order its list, and R163 lets either block win. -/
def State.limitReached (s : State) : State :=
  if s.travel.length = maxLength ∧ s.travel.limitReached = false then
    allStrands.foldl State.endRun
      (State.raise { s with travel.limitReached := true } (.lengthLimit s.travel.length))
  else s

/-- An increase of L (R46, R48): the motion is MOVING, the strands are informed in turn, and the length limit is checked. -/
def State.increase (s : State) : State :=
  (allStrands.foldl State.informStrand
    { s with travel := { s.travel with moving := true, lastAdvance := some s.now } }).limitReached

/-- An advance of the driving puller (R45, R46). -/
def State.advance (s : State) (d : Nat) : State :=
  let t := { s with travel := s.travel.advance d }
  if s.travel.length < t.travel.length then t.increase else t

/-- A jump (R43). -/
def State.jump (s : State) (p : Puller) (count : Word32) (delta : Int) : State :=
  State.raise { s with travel.counters.jumps := inc s.travel.counters.jumps } (.travelJump p count delta)

/-- The difference of the driving puller's record is judged (R43, R44, R45). -/
def State.judgeDelta (s : State) (p : Puller) (count : Word32) (delta : Int) : State :=
  if s.travel.config.maxStep < delta.natAbs then s.jump p count delta
  else if delta < 0 then { s with travel := s.travel.reverse delta.natAbs }
  else if 0 < delta then s.advance delta.natAbs
  else s

/-- A TRAVEL record of a puller (R42). -/
def State.travelRecord (s : State) (p : Puller) (count : Word32) : State :=
  let t := { s with travel := (s.travel.countRecord p).setRef p count }
  match s.travel.ref p with
  | none => t
  | some ref => if s.travel.driving = p then t.judgeDelta p count (count - ref).toInt else t

/-- A consumed HANDOVER (R47). -/
def State.handover (s : State) (code : Nat) : State :=
  let drive (p : Puller) : State :=
    if s.travel.driving = p then s
    else { s with travel := { s.travel with
             driving := p, debt := 0, counters.handovers := inc s.travel.counters.handovers } }
  match code with
  | 0 => drive .a
  | 1 => drive .b
  | _ => { s with travel.counters.handoverInvalid := inc s.travel.counters.handoverInvalid }

/-! ## Stall (R46, R53) -/

/-- A RUNNING strand becomes STALLED (R53). -/
def State.stallStrand (s : State) (i : Fin 4) : State :=
  if (s.strand i).state = .running then s.changeStrand i .stalled else s

/-- The motion becomes STILL and every RUNNING strand STALLED, in turn (R46). -/
def State.stall (s : State) : State := allStrands.foldl State.stallStrand { s with travel.moving := false }

/-! ## Press notices (R60, R61) -/

/-- The kinds of a press notice (R167). -/
inductive PressKind where
  | pressStop | billetChange | pressRun | runEnd
deriving DecidableEq, Repr

/-- The press notice kind that a code names. -/
def pressKindOfCode : Nat → Option PressKind
  | 0 => some .pressStop
  | 1 => some .billetChange
  | 2 => some .pressRun
  | 3 => some .runEnd
  | _ => none

/-- The point where a press event of this moment will pass the inspection plane: the strand length plus P (R61). -/
def State.pressPoint (s : State) (i : Fin 4) : Nat := s.ell i + (s.strand i).params.planeOffset

/-- A strand takes PRESS_STOP (R61). -/
def State.pressStop (s : State) (i : Fin 4) : State :=
  let x := s.pressPoint i
  (s.modStrand i fun st => { st with counters.pressStopTaken := inc st.counters.pressStopTaken }).giveMark i
    { kind := .stopMark, start := x, stop := x + max (s.strand i).params.stopMarkLength 1 }

/-- A pending switch without a length takes one (R61, R95). -/
def Strand.fixSwitch (st : Strand) (x : Nat) : Strand :=
  match st.pendingSwitch with
  | some p => { st with pendingSwitch := some { p with switchLength := some (p.switchLength.getD x) } }
  | none => st

/-- A strand takes BILLET_CHANGE (R61). -/
def State.billetChange (s : State) (i : Fin 4) : State :=
  let x := s.pressPoint i
  let w := (s.strand i).params.weldLength
  let t := s.modStrand i fun st => { st with counters.billetChangeTaken := inc st.counters.billetChangeTaken }
  let u := if 0 < w then t.giveMark i { kind := .weldZone, start := x, stop := x + w } else t
  u.modStrand i fun st => st.fixSwitch x

/-- A strand takes a press notice (R61). -/
def State.takePress (k : PressKind) (s : State) (i : Fin 4) : State :=
  if (s.strand i).state.live then
    match k with
    | .pressStop => s.pressStop i
    | .billetChange => s.billetChange i
    | .pressRun => s.modStrand i fun st => { st with counters.pressRunTaken := inc st.counters.pressRunTaken }
    | .runEnd => (s.modStrand i fun st => { st with counters.runEndTaken := inc st.counters.runEndTaken }).endRun i
  else s

/-- A consumed PRESS_NOTICE (R60). -/
def State.pressNotice (s : State) (code : Nat) : State :=
  match pressKindOfCode code with
  | some k => allStrands.foldl (State.takePress k) s
  | none => { s with pressUnknown := inc s.pressUnknown }

end Sys2Proof.Machine
end

