-- ==== Sys2Proof/Machine/Reception.lean ====
section
/-! DEFINITION. Reception at a port: the receive parser (R1), the judgement of headers and payload checks (R2 to R5), and the
consumption and forwarding of good frames (R7 to R9, R152, R153). -/

namespace Sys2Proof.Machine

/-! ## A port's parser and counters -/

/-- The receive parser of a port (R1). -/
def State.parser (s : State) : Port → Parser
  | .head => s.headPort.parser
  | .line => s.linePort.parser

/-- The state with a port's parser replaced. -/
def State.setParser (s : State) (port : Port) (p : Parser) : State :=
  match port with
  | .head => { s with headPort := { s.headPort with parser := p } }
  | .line => { s with linePort := { s.linePort with parser := p } }

/-- The counters that both ports keep (R19). -/
def State.portCounters (s : State) : Port → PortCounters
  | .head => s.headPort.counters
  | .line => s.linePort.counters

/-- The state with a port's counters changed by `f`. -/
def State.modCounters (s : State) (port : Port) (f : PortCounters → PortCounters) : State :=
  match port with
  | .head => { s with headPort := { s.headPort with counters := f s.headPort.counters } }
  | .line => { s with linePort := { s.linePort with counters := f s.linePort.counters } }

/-- The port opposite a port (R13). -/
def opposite : Port → Port
  | .head => .line
  | .line => .head

/-! ## Headers (R2, R4) -/

/-- The greatest destination station (R2). -/
def maxDest : Nat := 63

/-- The greatest source station (R2). -/
def maxSource : Nat := 62

/-- The greatest payload length (R2). -/
def maxPayload : Nat := 1040

/-- The judgement of six header bytes (R2): the accepted header, or none where the header fails. -/
def judgeHeader : List Byte → Option Header
  | [d, src, kind, hi, lo, check] =>
    let length := beNat [hi, lo]
    if check ≠ lrc8 [d, src, kind, hi, lo] ∨ maxDest < d.toNat ∨ maxSource < src.toNat ∨ maxPayload < length then none
    else some { dest := d.toNat, source := src.toNat, kind := kind, length := length }
  | _ => none

/-- The payload check of a frame, chosen when its header is accepted (R4). -/
def State.checkModeFor (s : State) (h : Header) : CheckMode :=
  match headOfStation h.source with
  | none => .crc16
  | some k =>
    if h.kind = kindScan then
      match (s.head k).announced with
      | some a => a.checkMode
      | none => .crc16
    else .crc16

/-- The parser after an accepted header: with a payload length of 0 it goes directly to CHECK (R1). -/
def parserAfter (h : Header) (mode : CheckMode) : Parser :=
  if h.length = 0 then .check h mode [] [] else .payload h mode []

/-- The sixth header byte has been received (R2). -/
def State.headerDone (s : State) (port : Port) (bytes : List Byte) : State :=
  match judgeHeader bytes with
  | some h => s.setParser port (parserAfter h (s.checkModeFor h))
  | none => (s.setParser port .hunt).modCounters port fun c => { c with headerError := inc c.headerError }

/-! ## Consumption (R7, R8) -/

/-- The block that a good frame is for, by its kind, source and arrival port: one row of the table of R7. -/
inductive Consumer where
  | scan (h : Fin 16)
  | announce (h : Fin 16)
  | travel (p : Puller)
  | pressNotice
  | handover
  | cutNotice
  | request
deriving DecidableEq, Repr

/-- The puller whose station is `n` (1.3). -/
def pullerOfStation (n : Nat) : Option Puller :=
  if n = 8 then some .a else if n = 9 then some .b else none

/-- The row of R7's table that a frame matches. -/
def State.consumerOf (s : State) (port : Port) (f : Frame) : Option Consumer :=
  if f.kind = kindScan then
    if port = .head then (headOfStation f.source).map Consumer.scan else none
  else if f.kind = kindAnnounce then
    if port = .head then (headOfStation f.source).map Consumer.announce else none
  else if f.kind = kindTravel then (pullerOfStation f.source).map Consumer.travel
  else if f.kind = kindPressNotice then if f.source = 10 then some .pressNotice else none
  else if f.kind = kindHandover then
    if f.source = 8 ∨ f.source = 9 ∨ f.source = 0 then some .handover else none
  else if f.kind = kindCutNotice then
    if port = .line ∧ (f.source = 2 ∨ f.source = 0) then some .cutNotice else none
  else if f.kind = kindRequest then
    if port = .line ∧ f.dest = s.ownStation then some .request else none
  else none

/-- The length test of a row (R7, R167, R168). -/
def Consumer.fits (c : Consumer) (n : Nat) : Bool :=
  match c with
  | .scan _ => 18 ≤ n && n ≤ 1040 && n % 2 == 0
  | .announce _ => n == 10
  | .travel _ => n == 4
  | .pressNotice => n == 1
  | .handover => n == 1
  | .cutNotice => n == 6
  | .request => 3 ≤ n

/-- The reply that answers a request BUSY (R153). -/
def busyReply (f : Frame) : Reply :=
  { dest := f.source, tag := requestTag f.payload, kind := fieldNat f.payload 2 1, status := .busy, body := [] }

/-- The queue entry of a consumed request, with the class its source has at this moment (R8, R11, R152). -/
def State.requestOf (s : State) (f : Frame) : Request :=
  { source := f.source, sourceClass := (s.route f.source).sourceClass, tag := requestTag f.payload,
    op := decodeRequest f.payload }

/-- A REQUEST is consumed (R152, R153). -/
def State.takeRequest (s : State) (f : Frame) : State :=
  if s.handler.requests.length < requestCapacity then
    { s with handler := { s.handler with requests := s.handler.requests ++ [s.requestOf f] } }
  else
    let t := { s with handler.counters.requestsBusy := inc s.handler.counters.requestsBusy }
    if t.lineHasRoom then t.enqueueRecord (.reply (busyReply f))
    else { t with handler.counters.busyUnsent := inc t.handler.counters.busyUnsent }

/-- A frame that passed its length test is handed to its block (R7). -/
def State.consume (s : State) (c : Consumer) (f : Frame) : State :=
  match c with
  | .scan h => s.scan h f.payload
  | .announce h => s.announce h f.payload
  | .travel p => s.travelRecord p (BitVec.ofNat 32 (fieldNat f.payload 0 4))
  | .pressNotice => s.pressNotice (fieldNat f.payload 0 1)
  | .handover => s.handover (fieldNat f.payload 0 1)
  | .cutNotice => s.cutNotice (fieldNat f.payload 0 1) (fieldNat f.payload 1 5)
  | .request => s.takeRequest f

/-! ## Forwarding (R9) and the good frame (R7) -/

/-- The forwarding decision for a good frame that was not discarded (R9). -/
def State.forwardFrame (s : State) (port : Port) (f : Frame) (consumed : Bool) : State :=
  if f.dest = s.ownStation then
    if consumed then s else s.modCounters port fun c => { c with unclaimed := inc c.unclaimed }
  else
    match (s.route f.dest).action with
    | .pass => s.offerForward (opposite port) f
    | .stop => s

/-- A REQUEST to the part at the Head Port (R8). -/
def State.isHeadPortRequest (s : State) (port : Port) (f : Frame) : Bool :=
  port = .head && f.kind = kindRequest && f.dest = s.ownStation

/-- A good frame that is neither LOOPED nor a request at the Head Port is consumed if it matches a row and its length fits,
and is then offered for forwarding (R7, steps 2 and 3). -/
def State.handleFrame (s : State) (port : Port) (f : Frame) : State :=
  match s.consumerOf port f with
  | none => s.forwardFrame port f false
  | some c =>
    if c.fits f.payload.length then (s.consume c f).forwardFrame port f true
    else (s.modCounters port fun k => { k with formatError := inc k.formatError }).forwardFrame port f false

/-- A good frame is counted and handled (R5, R7, R8). -/
def State.goodFrame (s : State) (port : Port) (f : Frame) : State :=
  let t := s.modCounters port fun c => { c with framesReceived := inc c.framesReceived }
  if f.source = s.ownStation then t.modCounters port fun c => { c with looped := inc c.looped }
  else if t.isHeadPortRequest port f then
    { t with headPort := { t.headPort with headPortRequest := inc t.headPort.headPortRequest } }
  else t.handleFrame port f

/-- A complete frame whose payload check fails (R5). -/
def State.badFrame (s : State) (port : Port) (h : Header) : State :=
  let t := s.modCounters port fun c => { c with payloadError := inc c.payloadError }
  match headOfStation h.source with
  | some k => if port = .head ∧ h.kind = kindScan then t.reportCheckError k else t
  | none => t

/-- The last check byte has been received (R1, R5): the parser enters HUNT, and the payload check is judged. -/
def State.frameDone (s : State) (port : Port) (h : Header) (mode : CheckMode) (payload check : List Byte) : State :=
  let t := s.setParser port .hunt
  if checkPasses mode payload check then
    t.goodFrame port { dest := h.dest, source := h.source, kind := h.kind, payload := payload, check := check }
  else t.badFrame port h

/-! ## Symbols (R1, R3) -/

/-- A data byte arrives at a port (R1). -/
def State.receiveByte (port : Port) (s : State) (x : Byte) : State :=
  match s.parser port with
  | .hunt => s
  | .header held =>
    if held.length + 1 < 6 then s.setParser port (.header (held ++ [x])) else s.headerDone port (held ++ [x])
  | .payload h mode held =>
    if held.length + 1 < h.length then s.setParser port (.payload h mode (held ++ [x]))
    else s.setParser port (.check h mode (held ++ [x]) [])
  | .check h mode payload held =>
    if held.length + 1 < mode.length then s.setParser port (.check h mode payload (held ++ [x]))
    else s.frameDone port h mode payload (held ++ [x])

/-- Data bytes arrive at a port, one after the other (R1). -/
def State.receiveBytes (s : State) (port : Port) (bytes : List Byte) : State := bytes.foldl (State.receiveByte port) s

/-- The parser state that a symbol other than a data byte leads to (R1). -/
def parserAtBreak : LineBreak → Parser
  | .frameStart => .header []
  | .idle => .hunt
  | .signalLoss => .hunt

/-- A frame is in progress at the parser (R1, R3). -/
def Parser.inProgress : Parser → Bool
  | .hunt => false
  | .header _ => true
  | .payload _ _ _ => true
  | .check _ _ _ _ => true

/-- A symbol other than a data byte arrives, or the line signal is lost (R1, R3). -/
def State.receiveSymbol (s : State) (port : Port) (x : LineBreak) : State :=
  let t := s.setParser port (parserAtBreak x)
  if (s.parser port).inProgress then t.modCounters port fun c => { c with truncated := inc c.truncated } else t

/-! ## The commands -/

/-- HEADER_RECEIVED (R2): the data bytes up to and with the sixth header byte. -/
def execHeaderReceived (port : Port) (bytes : List Byte) (s : State) : Host.Outcome State Fault Refusal :=
  .next (s.receiveBytes port bytes)

/-- TRUNCATED (R3). -/
def execTruncated (port : Port) (x : LineBreak) (s : State) : Host.Outcome State Fault Refusal :=
  .next (s.receiveSymbol port x)

/-- FRAME_COMPLETE (R7): the data bytes up to and with the last check byte. -/
def execFrameComplete (port : Port) (bytes : List Byte) (s : State) : Host.Outcome State Fault Refusal :=
  .next (s.receiveBytes port bytes)

/-- FRAME_START (R1). -/
def execFrameStart (port : Port) (s : State) : Host.Outcome State Fault Refusal := .next (s.receiveSymbol port .frameStart)

end Sys2Proof.Machine
end

