-- ==== Sys2Proof/Machine/Requests.lean ====
section
/-! DEFINITION. Carrying out a request (R152 to R156): the checks common to every kind, the answer, and its reply. -/

namespace Sys2Proof.Machine

/-- How a request is answered: its status, and the bytes that follow the status in the reply (R155). -/
structure Answer where
  status : Status
  body : List Byte := []
deriving DecidableEq, Repr

/-- The answer of a write whose values were, or were not, clamped (R22, R41, R51, R83). -/
def writtenAnswer (clamped : Bool) : Answer := { status := if clamped then .acceptedClamped else .accepted }

/-- The answer INVALID with the entry or slot number and the reason (R155). -/
def invalidAnswer (number : Nat) (reason : InvalidReason) : Answer :=
  { status := .invalid, body := encCode number ++ encCode reason.code }

/-- The status is one with which a request was carried out as asked (R164). -/
def Status.done : Status → Bool
  | .accepted | .acceptedClamped => true
  | .busy | .notPermitted | .stale | .activeBank | .pending | .invalid | .outOfRange | .wrongState | .unknownRequest =>
    false

/-- The Request Handler counts a request that was carried out (R164). -/
def HandlerCounters.count (c : HandlerCounters) (st : Status) : HandlerCounters :=
  if st.done then { c with requestsDone := inc c.requestsDone } else { c with requestsRefused := inc c.requestsRefused }

/-- A carried-out request is counted (R164). -/
def State.countRequest (s : State) (st : Status) : State :=
  { s with handler := { s.handler with counters := s.handler.counters.count st } }

/-- The reply to a request (R155, R18). -/
def Request.reply (r : Request) (a : Answer) : Reply :=
  { dest := r.source, tag := r.tag, kind := requestKindOf r.op, status := a.status, body := a.body }

/-- The reply of the oldest request is offered to the Line Port (R154): the request leaves the request queue with it, or both
wait. -/
def State.offerReply (s : State) (r : Reply) : State :=
  if s.lineHasRoom then
    State.enqueueRecord { s with handler := { s.handler with requests := s.handler.requests.drop 1 } } (.reply r)
  else { s with handler := { s.handler with waiting := some r } }

/-- A request is answered: counted, and its reply offered (R154, R164). -/
def State.finish (s : State) (r : Request) (a : Answer) : State := (s.countRequest a.status).offerReply (r.reply a)

/-- The Request Handler may carry out a request: no reply waits and no RESTART was carried out (R154, R162). -/
def State.handlerFree (s : State) : Bool := s.handler.waiting.isNone && s.handler.restart = .idle

/-- The oldest request, where the handler may carry it out and it is the one that the command names (R154, entry 7). -/
def State.ready (s : State) (c : Instr) : Option Request :=
  match s.handler.requests with
  | r :: _ => if s.handlerFree ∧ r.op = c then some r else none
  | [] => none

/-- A request is carried out by what its owning block does with it (R154, R155). A request whose class is NONE is refused. -/
def State.carryOut (s : State) (c : Instr) (act : Request → State → State × Answer) : State :=
  match s.ready c with
  | none => s
  | some r =>
    if r.sourceClass = .none then s.finish r { status := .notPermitted }
    else (act r s).1.finish r (act r s).2

/-- A kind that needs the class ENGINEERING (9.3): an OPERATOR is refused NOT_PERMITTED before anything else is judged. -/
def engineering (act : State → State × Answer) (r : Request) (s : State) : State × Answer :=
  if r.sourceClass = .engineering then act s else (s, { status := .notPermitted })

/-- A refusal that leaves the part as it was (R155). -/
def refusal (s : State) (st : Status) : State × Answer := (s, { status := st })

/-- A request that names a strand (R156). -/
def onStrand (strand : Nat) (act : Fin 4 → State → State × Answer) (s : State) : State × Answer :=
  match strandOfNat strand with
  | some i => act i s
  | none => refusal s .outOfRange

/-- A request that names a head (R156). -/
def onHead (head : Nat) (act : Fin 16 → State → State × Answer) (s : State) : State × Answer :=
  match headOfNat head with
  | some h => act h s
  | none => refusal s .outOfRange

/-- A request that names a strand and one of its banks (R156). -/
def onBank (strand bank : Nat) (act : Fin 4 → BankId → State → State × Answer) (s : State) : State × Answer :=
  match strandOfNat strand, bankOfCode bank with
  | some i, some id => act i id s
  | _, _ => refusal s .outOfRange

/-- A read: nothing changes, and the body is what was read at this moment (R154, 9.4). -/
def readAnswer (s : State) (body : List Byte) : State × Answer := (s, { status := .accepted, body := body })

/-- UNKNOWN_REQUEST (R155): refused before the class is looked at. -/
def State.refuseUnknown (s : State) (c : Instr) : State :=
  match s.ready c with
  | none => s
  | some r => s.finish r { status := .unknownRequest }

/-- UNKNOWN_REQUEST (R155). -/
def execUnknownRequest (kind : Nat) (s : State) : Host.Outcome State Fault Refusal :=
  .next (s.refuseUnknown (.unknownRequest kind))

end Sys2Proof.Machine
end

