-- ==== Sys2Proof/Machine/Control.lean ====
section
/-! DEFINITION. The control requests: heads (R23, R24), strands (R52, R54, R56), COUNTERS_CLEAR (R160) and RESTART (R162). -/

namespace Sys2Proof.Machine

/-! ## Heads (R23, R24) -/

/-- HEAD_HOLD (R23). -/
def execHeadHold (head : Nat) (s : State) : Host.Outcome State Fault Refusal :=
  .next (s.carryOut (.headHold head) fun _ => onHead head fun h t => (t.holdHead h, { status := .accepted }))

/-- What a HEAD_RELEASE does, by the head's state (R24). -/
def State.requestRelease (s : State) (h : Fin 16) : State × Answer :=
  match (s.head h).state with
  | .offline | .held | .faulted => (s.beginRelease h, { status := .accepted })
  | .online | .silent => ((s.holdHead h).beginRelease h, { status := .accepted })
  | .releasing | .awaiting => refusal s .wrongState

/-- HEAD_RELEASE (R24). -/
def execHeadRelease (head : Nat) (s : State) : Host.Outcome State Fault Refusal :=
  .next (s.carryOut (.headRelease head) fun _ => onHead head fun h t => t.requestRelease h)

/-! ## Strands (R52, R54, R56) -/

/-- A strand that passes validation starts (R52). DESIGN CHOICE: the notices of its heads take their numbers before its own
(entry 25). -/
def State.startStrand (s : State) (i : Fin 4) : State :=
  ((s.modStrand i fun st => st.started s.travel.length).refreshHeads i).changeStrand i .armed

/-- What a STRAND_START does (R52). -/
def State.requestStart (s : State) (i : Fin 4) : State × Answer :=
  let st := s.strand i
  if st.state ≠ .idle ∨ s.travel.limitReached then refusal s .wrongState
  else
    match st.validate st.activeBank with
    | some (n, reason) => (s, invalidAnswer n reason)
    | none => (s.startStrand i, { status := .accepted })

/-- STRAND_START (R52). -/
def execStrandStart (strand : Nat) (s : State) : Host.Outcome State Fault Refusal :=
  .next (s.carryOut (.strandStart strand) fun _ => onStrand strand fun i t => t.requestStart i)

/-- STRAND_STOP (R54). -/
def execStrandStop (strand : Nat) (s : State) : Host.Outcome State Fault Refusal :=
  .next (s.carryOut (.strandStop strand) fun _ => onStrand strand fun i t =>
    if (t.strand i).state.live then (t.endRun i, { status := .accepted }) else refusal t .wrongState)

/-- A strand is returned to IDLE (R56, R57). -/
def State.resetStrand (s : State) (i : Fin 4) : State := (s.modStrand i Strand.discard).changeStrand i .idle

/-- STRAND_RESET (R56). -/
def execStrandReset (strand : Nat) (s : State) : Host.Outcome State Fault Refusal :=
  .next (s.carryOut (.strandReset strand) fun _ => onStrand strand fun i t => (t.resetStrand i, { status := .accepted }))

/-! ## Counters (R160) -/

/-- A strand with its counters of every block at 0. -/
def Strand.clearCounters (st : Strand) : Strand :=
  { st with
    counters := {}, asmCounters := {}, tplCounters := {}, engCounters := {}, mapCounters := {}, pieceCounters := {} }

/-- A Head Port with its counters at 0. -/
def HeadPort.clearCounters (p : HeadPort) : HeadPort :=
  { p with counters := {}, headPortRequest := 0, triggerDrop := 0, controlDrop := 0 }

/-- A Line Port with its counters at 0. -/
def LinePort.clearCounters (p : LinePort) : LinePort := { p with counters := {}, noticeDrop := 0 }

/-- Every counter of every group at 0 (R160). -/
def State.clearCounters (s : State) : State :=
  { s with
    headPort := s.headPort.clearCounters, linePort := s.linePort.clearCounters,
    heads := mapTable (fun r => { r with counters := {} }) s.heads,
    travel := { s.travel with counters := {} }, strands := mapTable Strand.clearCounters s.strands,
    scans := {}, pressUnknown := 0, cutInvalid := 0, handler := { s.handler with counters := {} } }

/-- COUNTERS_CLEAR carried out (R160). Its own reply is not counted (entry 13); a refusal for the class NONE is. -/
def State.requestClear (s : State) : State :=
  match s.ready .countersClear with
  | none => s
  | some r =>
    if r.sourceClass = .none then s.finish r { status := .notPermitted }
    else s.clearCounters.offerReply (r.reply { status := .accepted })

/-- COUNTERS_CLEAR (R160). -/
def execCountersClear (s : State) : Host.Outcome State Fault Refusal := .next s.requestClear

/-! ## RESTART (R162) -/

/-- RESTART (R162): only its reply is formed, and no further request is carried out. -/
def execRestart (s : State) : Host.Outcome State Fault Refusal :=
  .next (s.carryOut .restart (engineering fun t =>
    ({ t with handler := { t.handler with restart := .carried } }, { status := .accepted })))

end Sys2Proof.Machine
end

