-- ==== Sys2Proof/Machine/Expiries.lean ====
section
/-! DEFINITION. The part's own events: the expiry of a wait (R25, R26, R46, R72) and the completion of an evaluation (R101).
An expiry carries the clock to its deadline (entry 3). Where the event cannot occur, the state is unchanged (entry 4). -/

namespace Sys2Proof.Machine

/-- The time moves on to a moment, if that is still to come (entry 3). -/
def State.reach (s : State) (time : Nat) : State := { s with now := max s.now time }

/-- The release delay of a head expires (R25). -/
def State.releaseExpires (s : State) (h : Fin 16) : State :=
  match (s.head h).state, (s.head h).deadline with
  | .releasing, some d => (s.reach d).expireRelease h
  | _, _ => s

/-- The announce timeout of a head expires (R26). -/
def State.announceExpires (s : State) (h : Fin 16) : State :=
  match (s.head h).state, (s.head h).deadline with
  | .awaiting, some d => (s.reach d).faultHead h .mute
  | _, _ => s

/-- The time at which the stall time passes, as long as the motion is MOVING (R46). -/
def Travel.stallAt (t : Travel) : Option Nat :=
  match t.moving, t.lastAdvance with
  | true, some a => some (a + millis t.config.stallTime)
  | _, _ => none

/-- The stall time passes (R46). -/
def State.stallExpires (s : State) : State :=
  match s.travel.stallAt with
  | some d => (s.reach d).stall
  | none => s

/-- The oldest OPEN set of a strand. -/
def Strand.oldestOpen (st : Strand) : Option SliceSet := st.sets.find? fun x => !x.ready

/-- The deadline of a strand's oldest OPEN set passes (R72). -/
def State.scanWaitExpires (s : State) (i : Fin 4) : State :=
  match (s.strand i).oldestOpen with
  | some x => (s.reach x.deadline).timeOutSet i x
  | none => s

/-- The evaluation in flight for a strand completes (R101). -/
def State.evaluationCompletes (s : State) (i : Fin 4) : State :=
  match (s.strand i).eval with
  | some ev => s.completeEvaluation i ev
  | none => s

/-! ## The commands -/

/-- RELEASE_DELAY_EXPIRY (R25). -/
def execReleaseDelayExpiry (h : Fin 16) (s : State) : Host.Outcome State Fault Refusal := .next (s.releaseExpires h)

/-- ANNOUNCE_TIMEOUT_EXPIRY (R26). -/
def execAnnounceTimeoutExpiry (h : Fin 16) (s : State) : Host.Outcome State Fault Refusal := .next (s.announceExpires h)

/-- STALL_TIME_EXPIRY (R46). -/
def execStallTimeExpiry (s : State) : Host.Outcome State Fault Refusal := .next s.stallExpires

/-- SCAN_WAIT_EXPIRY (R72). -/
def execScanWaitExpiry (i : Fin 4) (s : State) : Host.Outcome State Fault Refusal := .next (s.scanWaitExpires i)

/-- EVALUATION_COMPLETE (R101). -/
def execEvaluationComplete (i : Fin 4) (s : State) : Host.Outcome State Fault Refusal := .next (s.evaluationCompletes i)

end Sys2Proof.Machine
end

