-- ==== Sys2Proof/Machine/Reads.lean ====
section
/-! DEFINITION. The read requests (R90, R134, R157 to R159) and the bodies of their replies (R165, R168). -/

namespace Sys2Proof.Machine

/-! ## Counters (R159) -/

/-- The counters that both ports keep, in the row order of R19. -/
def PortCounters.list (c : PortCounters) : List Nat :=
  [c.framesReceived, c.framesSent, c.headerError, c.payloadError, c.truncated, c.looped, c.formatError, c.unclaimed,
   c.forwardDrop]

/-- The counters of a head, in the order of R38. -/
def HeadCounters.list (c : HeadCounters) : List Nat :=
  [c.scansAccepted, c.scansDiscarded, c.checkErrors, c.misses, c.silences, c.faults, c.announces, c.announcesIgnored]

/-- The Travel Unit counters, in the order of R49. -/
def TravelCounters.list (c : TravelCounters) : List Nat :=
  [c.recordsA, c.recordsB, c.jumps, c.handovers, c.handoverInvalid]

/-- The part-wide scan counters, in the order of R77. -/
def ScanCounters.list (c : ScanCounters) : List Nat := [c.stray, c.malformed, c.late, c.duplicate, c.noBuffer]

/-- The Request Handler counters, in the order of R164. -/
def HandlerCounters.list (c : HandlerCounters) : List Nat :=
  [c.requestsDone, c.requestsRefused, c.requestsBusy, c.busyUnsent, c.noticesRaised]

/-- The counters of the PART group (R159). -/
def State.partCounters (s : State) : List Nat :=
  s.headPort.counters.list ++ [s.headPort.headPortRequest, s.headPort.triggerDrop, s.headPort.controlDrop]
    ++ s.linePort.counters.list ++ [s.linePort.noticeDrop] ++ s.travel.counters.list ++ [s.pressUnknown]
    ++ s.scans.list ++ [s.cutInvalid] ++ s.handler.counters.list

/-- The counters of the HEADS group (R159). -/
def State.headsCounters (s : State) : List Nat := s.heads.toList.flatMap fun r => r.counters.list

/-- The counters of Strand Control, in the order of R62. -/
def StrandCounters.list (c : StrandCounters) : List Nat :=
  [c.triggersIssued, c.triggerWithheld, c.pressStopTaken, c.billetChangeTaken, c.pressRunTaken, c.runEndTaken]

/-- The strand counters of the Slice Assembler, in the order of R77. -/
def AssemblyCounters.list (c : AssemblyCounters) : List Nat :=
  [c.setsOpened, c.setsCompleted, c.setsTimedOut, c.forcedClose, c.setRefused, c.slicesReleased, c.slicesSkipped]

/-- The counters of the Template Store, in the order of R98. -/
def TemplateCounters.list (c : TemplateCounters) : List Nat := [c.bankWrites, c.bankWritesRefused, c.bankSwitches]

/-- The counters of an engine, in the order of R118. -/
def EngineCounters.list (c : EngineCounters) : List Nat :=
  [c.slicesEvaluated, c.evaluationsDiscarded, c.instancesVoid, c.samplesClipped]

/-- The counters of a Length Map, in the order of R135. -/
def MapCounters.list (c : MapCounters) : List Nat :=
  [c.runsOpened, c.runsClosed, c.slicesAbsorbed, c.mapMerged, c.marksMade, c.markMerged, c.marksAppliedBack, c.markBehind]

/-- The counters of a Piece Unit, in the order of R151. -/
def PieceCounters.list (c : PieceCounters) : List Nat :=
  [c.cutsAccepted, c.cutIgnored, c.backward, c.cutOverrun, c.piecesClosed, c.piecesPrime, c.piecesHold, c.piecesScrap,
   c.runsRetired, c.tailsAdded, c.adviceIssued, c.adviceLost]

/-- The counters of a STRAND group (R159). -/
def Strand.counterList (st : Strand) : List Nat :=
  st.counters.list ++ st.asmCounters.list ++ st.tplCounters.list ++ st.engCounters.list ++ st.mapCounters.list
    ++ st.pieceCounters.list

/-- Counters in a reply: a word each. -/
def encCounters (l : List Nat) : List Byte := l.flatMap encWord

/-- The counters of a group, by its code (R168). -/
def State.counterGroup (s : State) : Nat → Option (List Nat)
  | 0 => some s.partCounters
  | 1 => some s.headsCounters
  | 2 => some (s.strand 0).counterList
  | 3 => some (s.strand 1).counterList
  | 4 => some (s.strand 2).counterList
  | 5 => some (s.strand 3).counterList
  | _ => none

/-! ## The body of HEAD_READ -/

/-- The announced fields, optional together. -/
def encAnnounced (a : Announced) : List Byte :=
  encShort a.width ++ encCode a.order.code ++ encCode a.sign.code ++ encCode a.scaleCode ++ encCode a.checkMode.code
    ++ encWord a.serialTag

/-- The body of a HEAD_READ reply (R20, R157). -/
def State.headBody (s : State) (h : Fin 16) : List Byte :=
  let r := s.head h
  encCode h.val ++ encCode r.state.code ++ encOption 1 (r.cause.map fun c => encCode c.code)
    ++ encOption 2 (r.assignment.map fun a => encCode a.1.val ++ encCode a.2.val)
    ++ encOption 10 (r.announced.map encAnnounced) ++ encSigned r.offset ++ encCode r.releaseDelay
    ++ encShort r.announceTimeout ++ encWord r.checkErrors ++ encWord r.misses ++ encFlag r.mismatch
    ++ encOption 4 (r.deadline.map fun d => encTime (d - s.now)) ++ encCounters r.counters.list

/-! ## The body of STRAND_READ -/

/-- A slot of a configuration: its head, 255 where it is empty. -/
def encSlot (o : Option (Fin 16)) : List Byte :=
  match o with
  | some h => encCode h.val
  | none => encCode 255

/-- A pending switch: the target bank and the optional switch length. -/
def encSwitch (p : PendingSwitch) : List Byte := encCode p.target.code ++ encOption 6 (p.switchLength.map encPosition)

/-- Item 1: the strand record (R50), its fields in table order. DEDUCED (entry 14): the strand counters of R62, the last field of
that table, follow the configuration here and stand among the counters of item 7 as well. -/
def State.recordView (s : State) (i : Fin 4) : List Byte :=
  let st := s.strand i
  encCode st.state.code ++ encOption 6 (st.origin.map encPosition) ++ encPosition (s.ell i) ++ encWord st.sliceIndex
    ++ encOption 4 (st.lastTriggered.map encWord) ++ encOption 4 (st.lastTriggerTime.map fun t => encTime (s.now - t))
    ++ encOption 4 (st.lastReleased.map encWord) ++ encPosition st.front ++ encPosition st.retired
    ++ encCode st.active.code ++ encOption 8 (st.pendingSwitch.map encSwitch) ++ st.slots.toList.flatMap encSlot
    ++ encParams st.params ++ encCounters st.counters.list

/-- Item 2: the Travel Unit (R49). -/
def Travel.view (t : Travel) : List Byte :=
  encCode t.driving.code ++ encOption 4 (t.refA.map fun c => encWord c.toNat)
    ++ encOption 4 (t.refB.map fun c => encWord c.toNat) ++ encWord t.residue ++ encWord t.debt ++ encPosition t.length
    ++ encFlag t.moving ++ encFlag t.limitReached ++ encTravelConfig t.config

/-- A set of the assembly view. -/
def SliceSet.view (x : SliceSet) : List Byte :=
  encWord x.slice ++ encFlag x.ready ++ encSlots x.expected ++ encSlots x.received

/-- Item 3: the assembly view (R78). -/
def State.assemblyView (s : State) (i : Fin 4) : List Byte :=
  let st := s.strand i
  encWord st.sets.length ++ st.sets.flatMap SliceSet.view
    ++ encOption 4 (st.eval.map fun ev => encWord ev.set.slice) ++ encWord st.buffers ++ encWord s.buffersFree

/-- The cause instance of a last result record. -/
def encCauseInstance (c : CauseInstance) : List Byte :=
  encCode c.number ++ encWord c.n ++ encSigned c.mean ++ encWord c.outOfBand ++ encWord c.longestRun ++ encSigned c.peak
    ++ encSigned c.trend

/-- A last result record (R117). -/
def encResult (r : SliceResult) : List Byte :=
  encWord r.slice ++ encCode r.bank.code ++ encWord r.generation ++ encCode r.cls.severity ++ encCause r.cause
    ++ encSigned r.area ++ encShort r.instanceCount ++ encShort r.voidCount ++ encShort r.soundCount
    ++ encShort r.driftCount ++ encShort r.surfaceCount ++ encShort r.dimensionCount
    ++ encOption 25 (r.causeInstance.map encCauseInstance)

/-- Item 6: the Piece Unit's view (R150). -/
def Strand.pieceView (st : Strand) : List Byte :=
  encPosition st.retired ++ encWord st.pieceCounter ++ encWord st.cuts.length
    ++ (st.cuts.flatMap fun c => encPosition c.position ++ encFlag c.merged) ++ encFlag st.overrun
    ++ encWord st.closed.length ++ encWord st.held.length

/-- The body of a STRAND_READ reply (R157). -/
def State.strandBody (s : State) (i : Fin 4) : List Byte :=
  let st := s.strand i
  s.recordView i ++ s.travel.view ++ s.assemblyView i ++ encOption 55 (st.last.map encResult)
    ++ encWord st.runs.length ++ encWord st.settle ++ encWord st.marks.length ++ st.pieceView
    ++ encCounters st.counterList

/-! ## The bodies of ENTRY_READ, BANK_READ, MAP_READ and ROUTE_READ -/

/-- The generation and role of a bank (R90). -/
def Strand.bankHead (st : Strand) (id : BankId) : List Byte :=
  encWord (st.bank id).generation ++ encCode (st.role id).code

/-- The body of an ENTRY_READ reply (R90). -/
def Strand.entryBody (st : Strand) (id : BankId) (e : Fin 64) : List Byte := st.bankHead id ++ encEntry (st.bank id).entries[e]

/-- The switch length of a strand's pending switch, absent where it has none. -/
def Strand.switchLength? (st : Strand) : Option Nat := st.pendingSwitch.bind PendingSwitch.switchLength

/-- The body of a BANK_READ reply (R90): the switch length follows for a bank that is PENDING. -/
def Strand.bankBody (st : Strand) (id : BankId) : List Byte :=
  st.bankHead id ++ encHeader (st.bank id).header
    ++ (if st.role id = .pending then encOption 6 (st.switchLength?.map encPosition) else [])

/-- The greatest first run index (R158). -/
def maxRunIndex : Nat := 95

/-- The runs that one MAP_READ returns at most (R134, R158). -/
def mapReadRuns : Nat := 32

/-- The runs of a MAP_READ from a first run index on. -/
def Strand.runsFrom (st : Strand) (first : Nat) : List Run := (st.runs.drop first).take mapReadRuns

/-- The body of a MAP_READ reply (R134, R158). -/
def Strand.mapBody (st : Strand) (first : Nat) : List Byte :=
  encWord st.runs.length ++ encPosition st.retired ++ encPosition st.front ++ encWord st.settle
    ++ encWord st.marks.length ++ st.marks.flatMap encMark ++ encWord (st.runsFrom first).length
    ++ (st.runsFrom first).flatMap encRun

/-- The body of a ROUTE_READ reply (R157). -/
def State.routeBody (s : State) : List Byte :=
  encCode s.ownStation ++ s.routes.toList.flatMap fun r => encCode r.action.code ++ encCode r.sourceClass.code

/-! ## The commands -/

/-- HEAD_READ (R157). -/
def execHeadRead (head : Nat) (s : State) : Host.Outcome State Fault Refusal :=
  .next (s.carryOut (.headRead head) fun _ => onHead head fun h t => readAnswer t (t.headBody h))

/-- STRAND_READ (R157). -/
def execStrandRead (strand : Nat) (s : State) : Host.Outcome State Fault Refusal :=
  .next (s.carryOut (.strandRead strand) fun _ => onStrand strand fun i t => readAnswer t (t.strandBody i))

/-- ENTRY_READ (R90). -/
def execEntryRead (strand bank entry : Nat) (s : State) : Host.Outcome State Fault Refusal :=
  .next (s.carryOut (.entryRead strand bank entry) fun _ => onBank strand bank fun i id t =>
    match entryOfNat entry with
    | some e => readAnswer t ((t.strand i).entryBody id e)
    | none => refusal t .outOfRange)

/-- BANK_READ (R90). -/
def execBankRead (strand bank : Nat) (s : State) : Host.Outcome State Fault Refusal :=
  .next (s.carryOut (.bankRead strand bank) fun _ => onBank strand bank fun i id t =>
    readAnswer t ((t.strand i).bankBody id))

/-- MAP_READ (R158). -/
def execMapRead (strand first : Nat) (s : State) : Host.Outcome State Fault Refusal :=
  .next (s.carryOut (.mapRead strand first) fun _ => onStrand strand fun i t =>
    if maxRunIndex < first then refusal t .outOfRange else readAnswer t ((t.strand i).mapBody first))

/-- COUNTERS_READ (R159). -/
def execCountersRead (group : Nat) (s : State) : Host.Outcome State Fault Refusal :=
  .next (s.carryOut (.countersRead group) fun _ t =>
    match t.counterGroup group with
    | some l => readAnswer t (encCounters l)
    | none => refusal t .outOfRange)

/-- ROUTE_READ (R157). -/
def execRouteRead (s : State) : Host.Outcome State Fault Refusal :=
  .next (s.carryOut .routeRead fun _ t => readAnswer t t.routeBody)

end Sys2Proof.Machine
end

