-- ==== Sys2Proof/Machine/Transmission.lean ====
section
/-! DEFINITION. The end of a transmission: the transmitters' next selection (R17), the arbiter over freed Line Port entries
(R16), and the end of the RESTART reply (R18). -/

namespace Sys2Proof.Machine

/-! ## The arbiter (R16) -/

/-- The strands in the order in which the arbiter tries them (R16). -/
def turnOrder (first : Fin 4) : List (Fin 4) := [first, first + 1, first + 2, first + 3]

/-- The first strand with held advice, in turn. -/
def State.adviceStrand (s : State) : Option (Fin 4 × Advice) :=
  (turnOrder s.linePort.adviceTurn).findSome? fun i => ((s.strand i).held.head?).map fun a => (i, a)

/-- The first strand with a closed piece, in turn. -/
def State.pieceStrand (s : State) : Option (Fin 4 × Piece) :=
  (turnOrder s.linePort.pieceTurn).findSome? fun i => ((s.strand i).closed.head?).map fun p => (i, p)

/-- A freed entry goes to the waiting reply, whose request leaves the request queue (R152, R154). -/
def State.giveToReply (s : State) (r : Reply) : State :=
  State.enqueueRecord { s with handler := { s.handler with waiting := none, requests := s.handler.requests.drop 1 } } (.reply r)

/-- A freed entry goes to the oldest held advice of a strand (R16, R149). -/
def State.giveToAdvice (s : State) (i : Fin 4) (a : Advice) : State :=
  let t := s.modStrand i fun st => { st with held := st.held.drop 1 }
  State.enqueueRecord { t with linePort := { t.linePort with adviceTurn := i + 1 } } (.advice a)

/-- A freed entry goes to the oldest closed piece of a strand, and the strand's close check runs (R16, R147). -/
def State.giveToPiece (s : State) (i : Fin 4) (p : Piece) : State :=
  let t := s.modStrand i fun st => { st with closed := st.closed.drop 1 }
  (State.enqueueRecord { t with linePort := { t.linePort with pieceTurn := i + 1 } } (.piece p)).closeCheck i

/-- An entry that was freed goes to one waiting record (R16). -/
def State.arbitrate (s : State) : State :=
  match s.handler.waiting with
  | some r => s.giveToReply r
  | none =>
    match s.adviceStrand with
    | some (i, a) => s.giveToAdvice i a
    | none =>
      match s.pieceStrand with
      | some (i, p) => s.giveToPiece i p
      | none => s

/-! ## The next selection (R17) -/

/-- The Line Port's transmitter selects, and an own-origin entry that it frees goes to a waiting record (R16, R17). DESIGN CHOICE:
the entry is given within the command that frees it, so that no BUSY reply and no other new record takes it first (R16, R153,
entry 28). -/
def State.selectLine (s : State) : State :=
  let t := { s with linePort := s.linePort.select }
  if t.linePort.own.length < s.linePort.own.length then t.arbitrate else t

/-- A sending that is the reply of the RESTART that was carried out (R18, R162). -/
def State.isRestartReply (s : State) (x : LineSending) : Bool :=
  match x with
  | .own (.reply r) => r.kind = 23 && r.status = .accepted && s.handler.restart = .carried
  | .own (.piece _) => false
  | .own (.advice _) => false
  | .own (.notice _ _ _) => false
  | .forwarded _ => false

/-- The transmission at the Head Port ends (R17). -/
def HeadPort.sent (p : HeadPort) : HeadPort :=
  ({ p with tx := none, counters.framesSent := inc p.counters.framesSent } : HeadPort).select

/-- The Line Port after the transmission of a frame has ended. -/
def LinePort.sent (p : LinePort) : LinePort := { p with tx := none, counters.framesSent := inc p.counters.framesSent }

/-- The transmission at the Line Port ends (R17); after the RESTART reply no selection is made until the RESTART has taken
effect (R18). -/
def State.lineSent (s : State) (x : LineSending) : State :=
  let t := { s with linePort := s.linePort.sent }
  if s.isRestartReply x then { t with handler := { t.handler with restart := .due } } else t.selectLine

/-- The transmission at a port ends. Where nothing is in transmission, nothing ends (entry 4). -/
def State.transmitted (s : State) (port : Port) : State :=
  match port with
  | .head => if s.headPort.tx.isSome then { s with headPort := s.headPort.sent } else s
  | .line =>
    match s.linePort.tx with
    | some x => s.lineSent x
    | none => s

/-- FRAME_TRANSMITTED (R17). -/
def execFrameTransmitted (port : Port) (s : State) : Host.Outcome State Fault Refusal := .next (s.transmitted port)

end Sys2Proof.Machine
end

