-- ==== Sys2Proof/Machine/Resets.lean ====
section
/-! DEFINITION. The resets of the whole part: the power-on reset (R6 and the power-on column of every chapter) and the effect of
a RESTART (R18, R39, R40, R50, R76, R79, R99, R119, R137, R162). -/

namespace Sys2Proof.Machine

/-- POWER_ON_RESET (R6): every state takes its power-on value, and the straps are latched. The commands that wait are the
environment's and stay. -/
def execPowerOnReset (straps : Fin 8) (s : State) : Host.Outcome State Fault Refusal :=
  .next { State.powerOn straps with pending := s.pending }

/-- A strand after a RESTART (R50, R76, R79, R103, R119, R137): its runtime state is discarded and it is IDLE; its
configuration, banks, active bank and counters are kept. -/
def Strand.restarted (st : Strand) : Strand := { st.discard with state := .idle }

/-- The Travel Unit after a RESTART (R40): its configuration and counters are kept. -/
def Travel.restarted (t : Travel) : Travel := { config := t.config, counters := t.counters }

/-- The Head Port after a RESTART (R1, R13, R14): parser and queues; a frame in transmission completes (R18). -/
def HeadPort.restarted (p : HeadPort) : HeadPort := { p with parser := .hunt, forward := [], own := [] }

/-- The Line Port after a RESTART (R1, R13, R16, R17): nothing is in transmission, for the reply has just been sent (R18). -/
def LinePort.restarted (p : LinePort) : LinePort :=
  { counters := p.counters, noticeDrop := p.noticeDrop }

/-- The Request Handler after a RESTART (R162): the notice target, the sequence number and the counters are kept. -/
def Handler.restarted (h : Handler) : Handler :=
  { noticeTarget := h.noticeTarget, noticeSeq := h.noticeSeq, counters := h.counters }

/-- A RESTART takes effect at every block. The heads come last: their HEAD_RELEASE frames enter the emptied queue (R39). -/
def State.restarted (s : State) : State :=
  State.restartHeads
    { s with
      headPort := s.headPort.restarted, linePort := s.linePort.restarted, travel := s.travel.restarted,
      strands := mapTable Strand.restarted s.strands, handler := s.handler.restarted }

/-- RESTART_TAKES_EFFECT (R18): after the transmission of the RESTART reply has ended. At any other moment a RESTART cannot take
effect, and the state is unchanged (entries 4 and 9). -/
def execRestartTakesEffect (s : State) : Host.Outcome State Fault Refusal :=
  if s.handler.restart = .due then .next s.restarted else .next s

end Sys2Proof.Machine
end

