-- ==== Sys2Proof/Machine/Writes.lean ====
section
/-! DEFINITION. The requests that write: templates (R83 to R89), bank switches (R92 to R94), configuration (R22, R41, R51) and
the part's own tables (R161). -/

namespace Sys2Proof.Machine

/-! ## Bank writes (R83 to R89) -/

/-- The greatest generation, which cannot be raised (R85). -/
def maxGeneration : Nat := 4294967295

/-- The role and generation checks of a bank write (R83, steps 3 and 4): the status of the first that fails. -/
def Strand.writeRefusal (st : Strand) (id : BankId) (expected : Nat) : Option Status :=
  match st.role id with
  | .active => some .activeBank
  | .pending => some .pending
  | .standby =>
    if (st.bank id).generation ≠ expected then some .stale
    else if (st.bank id).generation = maxGeneration then some .outOfRange
    else none

/-- The refusals that BANK_WRITES_REFUSED counts (R98). -/
def Status.countsAsRefusedWrite : Status → Bool
  | .stale | .activeBank | .pending => true
  | .accepted | .acceptedClamped | .busy | .notPermitted | .invalid | .outOfRange | .wrongState | .unknownRequest => false

/-- A refused bank write (R83, R98). -/
def State.refuseWrite (s : State) (i : Fin 4) (st : Status) : State × Answer :=
  (if st.countsAsRefusedWrite then
     s.modStrand i fun x => { x with tplCounters.bankWritesRefused := inc x.tplCounters.bankWritesRefused }
   else s, { status := st })

/-- A strand whose bank an accepted write has written: the generation rises by 1 and the write is counted (R85, R98). -/
def Strand.writeBank (st : Strand) (id : BankId) (f : Bank → Bank) : Strand :=
  { st.setBank id { f (st.bank id) with generation := (st.bank id).generation + 1 } with
    tplCounters.bankWrites := inc st.tplCounters.bankWrites }

/-- A bank write after its class and index checks (R83, steps 3 to 5). -/
def State.bankWrite (s : State) (i : Fin 4) (id : BankId) (expected : Nat) (f : Bank → Bank) (clamped : Bool) :
    State × Answer :=
  match (s.strand i).writeRefusal id expected with
  | some st => s.refuseWrite i st
  | none => (s.modStrand i fun st => st.writeBank id f, writtenAnswer clamped)

/-- A bank with the GEOMETRY group of one entry replaced (R87). -/
def Bank.writeGeometry (b : Bank) (e : Fin 64) (g : Geometry) : Bank :=
  { b with entries := b.entries.set e { b.entries[e] with geo := g } }

/-- A bank with the TOLERANCE group of one entry replaced (R87). -/
def Bank.writeTolerance (b : Bank) (e : Fin 64) (t : Tolerance) : Bank :=
  { b with entries := b.entries.set e { b.entries[e] with tol := t } }

/-- A bank write that names an entry (R83, step 2). -/
def onEntry (strand bank entry : Nat) (act : Fin 4 → BankId → Fin 64 → State → State × Answer) (s : State) :
    State × Answer :=
  onBank strand bank
    (fun i id t =>
      match entryOfNat entry with
      | some e => act i id e t
      | none => refusal t .outOfRange) s

/-- ENTRY_WRITE of the GEOMETRY group (R83, R86, R87). A group code that is neither group's is out of range (entry 7). -/
def execEntryWriteGeometry (strand bank entry group generation : Nat) (fields : Geometry) (s : State) :
    Host.Outcome State Fault Refusal :=
  .next (s.carryOut (.entryWriteGeometry strand bank entry group generation fields) (engineering
    (onEntry strand bank entry fun i id e t =>
      if group = 0 ∧ fields.slot ≤ 5 then
        t.bankWrite i id generation (fun x => x.writeGeometry e (clampGeometry fields)) (clampGeometry fields ≠ fields)
      else refusal t .outOfRange)))

/-- ENTRY_WRITE of the TOLERANCE group (R83, R86, R87): an operator's band is clamped into the floor and ceiling that the
entry holds. -/
def execEntryWriteTolerance (strand bank entry generation : Nat) (fields : Tolerance) (s : State) :
    Host.Outcome State Fault Refusal :=
  .next (s.carryOut (.entryWriteTolerance strand bank entry generation fields) fun r =>
    onEntry strand bank entry fun i id e t =>
      let stored := clampToleranceFor r.sourceClass (((t.strand i).bank id).entries[e]).geo fields
      t.bankWrite i id generation (fun x => x.writeTolerance e stored) (stored ≠ fields))

/-- BANK_PARAM_WRITE (R83, R86, R88). -/
def execBankParamWrite (strand bank generation : Nat) (header : BankHeader) (s : State) : Host.Outcome State Fault Refusal :=
  .next (s.carryOut (.bankParamWrite strand bank generation header) (engineering
    (onBank strand bank fun i id t =>
      t.bankWrite i id generation (fun x => { x with header := clampHeader header }) (clampHeader header ≠ header))))

/-- BANK_COPY (R83, R89): its target is the strand's standby bank. -/
def execBankCopy (strand generation : Nat) (s : State) : Host.Outcome State Fault Refusal :=
  .next (s.carryOut (.bankCopy strand generation) (engineering
    (onStrand strand fun i t =>
      t.bankWrite i (t.strand i).active.other generation (fun _ => (t.strand i).activeBank) false)))

/-! ## Switching (R92 to R94) -/

/-- What an accepted switch does, by the strand's state (R92, step 4). -/
def State.acceptSwitch (s : State) (i : Fin 4) : State :=
  match (s.strand i).state with
  | .running | .stalled =>
    s.modStrand i fun st => { st with pendingSwitch := some { target := st.active.other, switchLength := none } }
  | .idle | .armed | .closed | .draining => s.switchBanks i

/-- A BANK_SWITCH with the option SWITCH, after its class and strand checks (R92). -/
def State.requestSwitch (s : State) (i : Fin 4) : State × Answer :=
  let st := s.strand i
  if st.pendingSwitch.isSome then refusal s .pending
  else if st.state = .draining then refusal s .wrongState
  else
    match st.validate (st.bank st.active.other) with
    | some (n, reason) => (s, invalidAnswer n reason)
    | none => (s.acceptSwitch i, { status := .accepted })

/-- BANK_SWITCH (R92). An option code that is neither option's is out of range (entry 7). -/
def execBankSwitch (strand option : Nat) (s : State) : Host.Outcome State Fault Refusal :=
  .next (s.carryOut (.bankSwitch strand option) (engineering
    (onStrand strand fun i t => if option = 0 then t.requestSwitch i else refusal t .outOfRange)))

/-- BANK_SWITCH with the option CANCEL (R94). -/
def execBankSwitchCancel (strand : Nat) (s : State) : Host.Outcome State Fault Refusal :=
  .next (s.carryOut (.bankSwitchCancel strand) (engineering
    (onStrand strand fun i t =>
      (t.modStrand i fun st => { st with pendingSwitch := none }, { status := .accepted }))))

/-! ## Strand configuration (R51) -/

/-- The slot that a slot byte names: none where it is no head and not 255, the code of an empty slot (R168). -/
def slotOfByte (n : Nat) : Option (Option (Fin 16)) := if n = 255 then some none else (headOfNat n).map some

/-- The slots that six slot bytes name: none where one of them holds a head number above 15 (R51, step 2). -/
def slotsOfBytes (v : Vector Nat 6) : Option (Vector (Option (Fin 16)) 6) :=
  match slotOfByte v[0], slotOfByte v[1], slotOfByte v[2], slotOfByte v[3], slotOfByte v[4], slotOfByte v[5] with
  | some a, some b, some c, some d, some e, some f => some #v[a, b, c, d, e, f]
  | _, _, _, _, _, _ => none

/-- The head is named at a slot of another strand's configuration (R51, step 4). -/
def State.namedElsewhere (s : State) (i : Fin 4) (h : Fin 16) : Bool :=
  allStrands.any fun j => j ≠ i && (slotNaming (s.strand j).slots h).isSome

/-- The slot holds a head that is named at two slots (R51, step 4). -/
def State.slotTaken (s : State) (i : Fin 4) (slots : Vector (Option (Fin 16)) 6) (t : Fin 6) : Bool :=
  match slots[t] with
  | none => false
  | some h => (allSlots.any fun u => u ≠ t && slots[u] = some h) || s.namedElsewhere i h

/-- An accepted STRAND_CONFIG_WRITE replaces the configuration, and the heads take their assignments (R51, R21). -/
def State.configure (s : State) (i : Fin 4) (slots : Vector (Option (Fin 16)) 6) (params : StrandParams) : State :=
  let old := (s.strand i).slots
  allHeads.foldl (State.assignHead i old slots) (s.modStrand i fun st => { st with slots := slots, params := params })

/-- A STRAND_CONFIG_WRITE after its class and range checks (R51, steps 3 and 4). -/
def State.writeConfig (s : State) (i : Fin 4) (slots : Vector (Option (Fin 16)) 6) (params : StrandParams) :
    State × Answer :=
  if (s.strand i).state ≠ .idle then refusal s .wrongState
  else
    match allSlots.find? (s.slotTaken i slots) with
    | some t => (s, invalidAnswer t.val .headTaken)
    | none => (s.configure i slots (clampParams params), writtenAnswer (clampParams params ≠ params))

/-- STRAND_CONFIG_WRITE (R51). -/
def execStrandConfigWrite (strand : Nat) (slots : Vector Nat 6) (params : StrandParams) (s : State) :
    Host.Outcome State Fault Refusal :=
  .next (s.carryOut (.strandConfigWrite strand slots params) (engineering
    (onStrand strand fun i t =>
      match slotsOfBytes slots with
      | some v => t.writeConfig i v params
      | none => refusal t .outOfRange)))

/-! ## The Travel Unit, heads, routes and the notice target (R41, R22, R161) -/

/-- Every strand is IDLE (R41). -/
def State.allIdle (s : State) : Bool := allStrands.all fun i => (s.strand i).state = .idle

/-- TRAVEL_CONFIG_WRITE (R41). -/
def execTravelConfigWrite (config : TravelConfig) (s : State) : Host.Outcome State Fault Refusal :=
  .next (s.carryOut (.travelConfigWrite config) (engineering fun t =>
    if t.allIdle then
      ({ t with travel := { t.travel with config := clampTravel config, residue := 0 } },
        writtenAnswer (clampTravel config ≠ config))
    else refusal t .wrongState))

/-- The three values of a HEAD_CAL_WRITE are the ones that are stored (R22). -/
def calibrationFits (offset : Int) (delay timeout : Nat) : Bool :=
  clampOffset offset = offset && clampDelay delay = delay && clampTimeout timeout = timeout

/-- HEAD_CAL_WRITE (R22). -/
def execHeadCalWrite (head : Nat) (offset : Int) (delay timeout : Nat) (s : State) : Host.Outcome State Fault Refusal :=
  .next (s.carryOut (.headCalWrite head offset delay timeout) (engineering
    (onHead head fun h t =>
      (t.modHead h fun r =>
        { r with
          offset := clampOffset offset, releaseDelay := clampDelay delay, announceTimeout := clampTimeout timeout },
       writtenAnswer (!calibrationFits offset delay timeout)))))

/-- The state with one route table entry replaced (R10, R161). -/
def State.setRoute (s : State) (station : Fin 64) (r : Route) : State := { s with routes := s.routes.set station r }

/-- The station that a number names. -/
def stationOfNat (n : Nat) : Option (Fin 64) := if h : n < 64 then some ⟨n, h⟩ else none

/-- ROUTE_WRITE (R161). -/
def execRouteWrite (station action sourceClass : Nat) (s : State) : Host.Outcome State Fault Refusal :=
  .next (s.carryOut (.routeWrite station action sourceClass) (engineering fun t =>
    match stationOfNat station, actionOfCode action, classOfCode sourceClass with
    | some n, some a, some c => (t.setRoute n { action := a, sourceClass := c }, { status := .accepted })
    | _, _, _ => refusal t .outOfRange))

/-- NOTICE_TARGET_WRITE (R161). -/
def execNoticeTargetWrite (station : Nat) (s : State) : Host.Outcome State Fault Refusal :=
  .next (s.carryOut (.noticeTargetWrite station) (engineering fun t =>
    if station ≤ 63 then ({ t with handler := { t.handler with noticeTarget := station } }, { status := .accepted })
    else refusal t .outOfRange))

end Sys2Proof.Machine
end

