-- ==== Sys2Proof/Machine/Dispatch.lean ====
section
/-! DEFINITION. The dispatcher: one arm per command, each one call of its meaning. -/

namespace Sys2Proof.Machine

/-- The effect of a command on everything but the queue. -/
def exec (i : Instr) (s : State) : Host.Outcome State Fault Refusal :=
  match i with
  | .powerOnReset straps => Sys2Proof.Machine.execPowerOnReset straps s
  | .headerReceived port bytes => Sys2Proof.Machine.execHeaderReceived port bytes s
  | .truncated port cause => Sys2Proof.Machine.execTruncated port cause s
  | .frameComplete port bytes => Sys2Proof.Machine.execFrameComplete port bytes s
  | .frameTransmitted port => Sys2Proof.Machine.execFrameTransmitted port s
  | .releaseDelayExpiry head => Sys2Proof.Machine.execReleaseDelayExpiry head s
  | .announceTimeoutExpiry head => Sys2Proof.Machine.execAnnounceTimeoutExpiry head s
  | .stallTimeExpiry => Sys2Proof.Machine.execStallTimeExpiry s
  | .scanWaitExpiry strand => Sys2Proof.Machine.execScanWaitExpiry strand s
  | .evaluationComplete strand => Sys2Proof.Machine.execEvaluationComplete strand s
  | .headRead head => Sys2Proof.Machine.execHeadRead head s
  | .strandRead strand => Sys2Proof.Machine.execStrandRead strand s
  | .entryRead strand bank entry => Sys2Proof.Machine.execEntryRead strand bank entry s
  | .bankRead strand bank => Sys2Proof.Machine.execBankRead strand bank s
  | .mapRead strand firstRun => Sys2Proof.Machine.execMapRead strand firstRun s
  | .countersRead group => Sys2Proof.Machine.execCountersRead group s
  | .routeRead => Sys2Proof.Machine.execRouteRead s
  | .entryWriteGeometry strand bank entry group generation fields => Sys2Proof.Machine.execEntryWriteGeometry strand bank entry group generation fields s
  | .entryWriteTolerance strand bank entry generation fields => Sys2Proof.Machine.execEntryWriteTolerance strand bank entry generation fields s
  | .bankParamWrite strand bank generation header => Sys2Proof.Machine.execBankParamWrite strand bank generation header s
  | .bankCopy strand generation => Sys2Proof.Machine.execBankCopy strand generation s
  | .bankSwitch strand option => Sys2Proof.Machine.execBankSwitch strand option s
  | .bankSwitchCancel strand => Sys2Proof.Machine.execBankSwitchCancel strand s
  | .strandConfigWrite strand slots params => Sys2Proof.Machine.execStrandConfigWrite strand slots params s
  | .travelConfigWrite config => Sys2Proof.Machine.execTravelConfigWrite config s
  | .headCalWrite head offset releaseDelay announceTimeout => Sys2Proof.Machine.execHeadCalWrite head offset releaseDelay announceTimeout s
  | .routeWrite station action sourceClass => Sys2Proof.Machine.execRouteWrite station action sourceClass s
  | .noticeTargetWrite station => Sys2Proof.Machine.execNoticeTargetWrite station s
  | .headHold head => Sys2Proof.Machine.execHeadHold head s
  | .headRelease head => Sys2Proof.Machine.execHeadRelease head s
  | .strandStart strand => Sys2Proof.Machine.execStrandStart strand s
  | .strandStop strand => Sys2Proof.Machine.execStrandStop strand s
  | .strandReset strand => Sys2Proof.Machine.execStrandReset strand s
  | .countersClear => Sys2Proof.Machine.execCountersClear s
  | .restart => Sys2Proof.Machine.execRestart s
  | .unknownRequest kind => Sys2Proof.Machine.execUnknownRequest kind s
  | .restartTakesEffect => Sys2Proof.Machine.execRestartTakesEffect s
  | .frameStart port => Sys2Proof.Machine.execFrameStart port s

end Sys2Proof.Machine
end

