-- ==== Sys2Proof/Machine/Own.lean ====
section
/-! DEFINITION. What the part does by itself when no command waits: the events that are due at the present time, and the passing
of one microsecond (entries 1 and 2). -/

namespace Sys2Proof.Machine

/-- The RESTART whose reply has been sent takes effect (R18). -/
def State.dueRestart (s : State) : Option Instr := if s.handler.restart = .due then some .restartTakesEffect else none

/-- The oldest request is carried out (R154). -/
def State.dueRequest (s : State) : Option Instr :=
  match s.handler.requests with
  | r :: _ => if s.handlerFree ∧ r.op.isRequest then some r.op else none
  | [] => none

/-- The running wait of a head has expired (R25, R26). -/
def State.dueHead (s : State) (h : Fin 16) : Option Instr :=
  match (s.head h).deadline with
  | some d =>
    if d ≤ s.now then
      match (s.head h).state with
      | .releasing => some (.releaseDelayExpiry h)
      | .awaiting => some (.announceTimeoutExpiry h)
      | .offline | .held | .online | .silent | .faulted => none
    else none
  | none => none

/-- The stall time has passed (R46). -/
def State.dueStall (s : State) : Option Instr :=
  match s.travel.stallAt with
  | some d => if d ≤ s.now then some .stallTimeExpiry else none
  | none => none

/-- The deadline of a strand's oldest OPEN set has passed (R72). -/
def State.dueScanWait (s : State) (i : Fin 4) : Option Instr :=
  match (s.strand i).oldestOpen with
  | some x => if x.deadline ≤ s.now then some (.scanWaitExpiry i) else none
  | none => none

/-- An evaluation has reached its latest completion (R100). -/
def State.dueEvaluation (s : State) (i : Fin 4) : Option Instr :=
  match (s.strand i).eval with
  | some ev =>
    if ev.began + ((s.strand i).bank ev.bank).latest ≤ s.now then some (.evaluationComplete i) else none
  | none => none

/-- The event that is due at the present time, if there is one (entry 2). -/
def State.due (s : State) : Option Instr :=
  s.dueRestart <|> s.dueRequest <|> allHeads.findSome? s.dueHead <|> s.dueStall <|> allStrands.findSome? s.dueScanWait
    <|> allStrands.findSome? s.dueEvaluation

/-- One microsecond passes (entry 1). -/
def State.tick (s : State) : State := { s with now := s.now + 1 }

end Sys2Proof.Machine
end

