-- ==== Sys2Proof/Safety.lean ====
section
/-! DEFINITION. The terms in which statements are made: a request that is served and how it is answered, a frame that is about
to be complete, the layouts of payloads and read bodies, the cover of a strand by its runs, and the laws that every state of a run
obeys. -/

namespace Sys2Proof.Machine

/-! ## Requests and replies -/

/-- The Request Handler may carry out `r`, its oldest request, and `c` is the command that does (R154). -/
abbrev Serves (s : State) (r : Request) (c : Instr) : Prop :=
  s.handler.waiting = none ∧ s.handler.restart = .idle ∧ s.handler.requests.head? = some r ∧ r.op = c

/-- The record that was last offered to the Line Port and found an entry: the newest of its own-origin queue, or the one in
transmission where that queue is empty. -/
def State.latestRecord (s : State) : Option Record :=
  match s.linePort.own.getLast? with
  | some r => some r
  | none =>
    match s.linePort.tx with
    | some (.own r) => some r
    | some (.forwarded _) => none
    | none => none

/-- The reply that was last formed: the one that waits, or else the latest record where that is a reply. -/
def State.latestReply (s : State) : Option Reply :=
  match s.handler.waiting with
  | some r => some r
  | none =>
    match s.latestRecord with
    | some (.reply r) => some r
    | some (.piece _) => none
    | some (.advice _) => none
    | some (.notice _ _ _) => none
    | none => none

/-- The oldest request of `s` has been answered in `t` (R154, R155): its reply was formed; either it entered the Line Port and
the request left the request queue, or it waits and the request keeps its entry. -/
abbrev Answered (s t : State) (r : Request) (a : Answer) : Prop :=
  t.latestReply = some (r.reply a) ∧
    (t.handler.waiting = none ∧ t.handler.requests = s.handler.requests.tail ∨
      t.handler.waiting = some (r.reply a) ∧ t.handler.requests = s.handler.requests)

/-- Everything but the heads, the strands, the Travel Unit, the two ports, the Request Handler and the route table is the
same. -/
abbrev SameRest (s t : State) : Prop :=
  t.pending = s.pending ∧ t.now = s.now ∧ t.ownStation = s.ownStation ∧ t.scans = s.scans ∧
    t.pressUnknown = s.pressUnknown ∧ t.cutInvalid = s.cutInvalid

/-- The record has taken a free entry of the Line Port, and nothing else of the port has changed (R12, R15, R17): it is the newest
of the own-origin queue, and a transmitter that sent idle symbols makes one selection among the frames of both queues, but between
the end of the RESTART reply and the RESTART's effect (R18). -/
abbrev Entered (s : State) (r : Record) (q : LinePort) : Prop :=
  let p := s.linePort
  (p.tx ≠ none ∨ s.handler.restart = .due → q = { p with own := p.own ++ [r] }) ∧
    (p.tx = none → s.handler.restart ≠ .due →
      (∀ f rest, p.forward = f :: rest → p.prefer = .forward →
        q = { p with own := p.own ++ [r], tx := some (.forwarded f), forward := rest, prefer := .own }) ∧
      (p.forward = [] ∨ p.prefer = .own → ∀ x rest, p.own ++ [r] = x :: rest →
        q = { p with own := rest, tx := some (.own x), prefer := .forward }))

/-- Some records, which the statements name, joined the tail of the Line Port's own-origin queue, and every older record and every forwarded frame is kept in
its place, but that a transmitter that sent idle symbols may have made one selection (R12, R17): it then transmits the frame that
was first in its queue, and prefers the other queue. -/
def LineGrows (p q : LinePort) : Prop :=
  ∃ new : List Record,
    (q.tx = p.tx ∧ q.own = p.own ++ new ∧ q.forward = p.forward ∧ q.prefer = p.prefer) ∨
      (p.tx = none ∧ ∃ r, q.tx = some (.own r) ∧ p.own ++ new = r :: q.own ∧ q.forward = p.forward ∧ q.prefer = .forward) ∨
      (p.tx = none ∧ ∃ f, q.tx = some (.forwarded f) ∧ q.own = p.own ++ new ∧ p.forward = f :: q.forward ∧ q.prefer = .own)

/-- What a record that enters the Line Port leaves of it as it is: its parser, its counters of R19, the arbiter's turns, and the
frames that were in it before. -/
abbrev SameLine (s t : State) : Prop :=
  t.linePort.parser = s.linePort.parser ∧ t.linePort.counters = s.linePort.counters ∧
    t.linePort.adviceTurn = s.linePort.adviceTurn ∧ t.linePort.pieceTurn = s.linePort.pieceTurn ∧
    LineGrows s.linePort t.linePort

/-- What the Request Handler keeps over a request that is not a write to its own tables: the notice target and the phase of a
RESTART. -/
abbrev SameHandling (s t : State) : Prop :=
  t.handler.noticeTarget = s.handler.noticeTarget ∧ t.handler.restart = s.handler.restart

/-- No notice was raised. -/
abbrev NoNotice (s t : State) : Prop :=
  t.handler.noticeSeq = s.handler.noticeSeq ∧ t.handler.counters.noticesRaised = s.handler.counters.noticesRaised ∧
    t.linePort.noticeDrop = s.linePort.noticeDrop

/-- The request was counted as carried out with a status: done where it was carried out as asked, else refused (R164). -/
abbrev Counted (s t : State) (st : Status) : Prop :=
  t.handler.counters.requestsDone =
      (if st = .accepted ∨ st = .acceptedClamped then inc s.handler.counters.requestsDone
       else s.handler.counters.requestsDone) ∧
    t.handler.counters.requestsRefused =
      (if st = .accepted ∨ st = .acceptedClamped then s.handler.counters.requestsRefused
       else inc s.handler.counters.requestsRefused) ∧
    t.handler.counters.requestsBusy = s.handler.counters.requestsBusy ∧
    t.handler.counters.busyUnsent = s.handler.counters.busyUnsent

/-- The oldest request was carried out with an answer: it was answered and counted, and nothing outside the heads, the strands,
the Travel Unit, the ports, the Request Handler and the route table has changed. -/
abbrev CarriedOut (s t : State) (r : Request) (a : Answer) : Prop :=
  Answered s t r a ∧ Counted s t a.status ∧ SameLine s t ∧ SameRest s t

/-- The reply is the one record that was offered to the Line Port: it has entered where an entry was free, and waits else
(R15). -/
abbrev OneReply (s t : State) (r : Request) (a : Answer) : Prop :=
  (s.linePort.own.length < 32 → t.handler.waiting = none ∧ Entered s (.reply (r.reply a)) t.linePort) ∧
    (32 ≤ s.linePort.own.length → t.handler.waiting = some (r.reply a) ∧ t.linePort = s.linePort)

/-- The request was carried out and raised no notice. -/
abbrev CarriedOutQuietly (s t : State) (r : Request) (a : Answer) : Prop :=
  CarriedOut s t r a ∧ SameHandling s t ∧ NoNotice s t ∧ OneReply s t r a

/-- The request was answered, and nothing else has happened. -/
abbrev OnlyAnswered (s t : State) (r : Request) (a : Answer) : Prop :=
  CarriedOutQuietly s t r a ∧ t.headPort = s.headPort ∧ t.heads = s.heads ∧ t.travel = s.travel ∧ t.strands = s.strands ∧
    t.routes = s.routes

/-- What of the Request Handler only requests change: its queue, a waiting reply, a RESTART, the notice target and the counts of
requests. -/
abbrev SameHandler (s t : State) : Prop :=
  t.handler.requests = s.handler.requests ∧ t.handler.waiting = s.handler.waiting ∧ SameHandling s t ∧
    t.handler.counters.requestsDone = s.handler.counters.requestsDone ∧
    t.handler.counters.requestsRefused = s.handler.counters.requestsRefused ∧
    t.handler.counters.requestsBusy = s.handler.counters.requestsBusy ∧
    t.handler.counters.busyUnsent = s.handler.counters.busyUnsent

/-- What an event of the heads, the travel, the sets or an engine leaves as it is: the queue of commands, the tables and the
part-wide counters, and of the Line Port and the Request Handler all that a record or a notice does not change. -/
abbrev SameWorld (s t : State) : Prop :=
  t.pending = s.pending ∧ t.ownStation = s.ownStation ∧ t.routes = s.routes ∧ t.scans = s.scans ∧
    t.pressUnknown = s.pressUnknown ∧ t.cutInvalid = s.cutInvalid ∧ SameLine s t ∧ SameHandler s t

/-- Every other head is the same. -/
abbrev OtherHeads (s t : State) (h : Fin 16) : Prop := ∀ k : Fin 16, k ≠ h → t.head k = s.head k

/-- Every other strand is the same. -/
abbrev OtherStrands (s t : State) (i : Fin 4) : Prop := ∀ j : Fin 4, j ≠ i → t.strand j = s.strand j

/-! ## The Head Port and the Head Table -/

/-- A frame has joined the Head Port's own-origin queue (R12, R14): a transmitter that sent idle symbols takes the first frame of
the queue at once (R17, entry 22). -/
abbrev Joined (p : HeadPort) (f : HeadFrame) (q : HeadPort) : Prop :=
  (∀ x, p.tx = some x → q = { p with own := p.own ++ [f] }) ∧
    (p.tx = none → p.own = [] → q = { p with tx := some (.own f) }) ∧
    ∀ g rest, p.tx = none → p.own = g :: rest → q = { p with tx := some (.own g), own := rest ++ [f] }

/-- The misses that a set reports of a head (R73): the expected slots that were not received and hold the head. -/
def missesOf (st : Strand) (x : SliceSet) (h : Fin 16) : Nat :=
  allSlots.countP fun k => hasSlot x.expected k && (x.scans[k]).isNone && st.slots[k] == some h

/-- `n` misses of a head have been reported (R34). A set reports at most one of a head, for it is named at one slot (R51). -/
abbrev MissesReported (s : State) (h : Fin 16) (n : Nat) (after : HeadRecord) : Prop :=
  let r := s.head h
  let count := min (r.misses + 1) 255
  let silenced := r.state = .online ∧ ∃ i k, r.assignment = some (i, k) ∧ (s.strand i).params.missLimit ≤ count
  (after.counters.misses = if n = 0 then r.counters.misses else satAdd r.counters.misses n) ∧
    (n = 0 → after.state = r.state ∧ after.misses = r.misses ∧ after.counters.silences = r.counters.silences) ∧
    (n = 1 → (silenced → after.state = .silent ∧ after.counters.silences = inc r.counters.silences) ∧
      (¬silenced → after.state = r.state ∧ after.counters.silences = r.counters.silences) ∧
      after.misses = if r.state = .online ∨ r.state = .silent then count else r.misses)

/-! ## Frames -/

/-- The port has accepted the header of `f` with the payload check `mode`, has stored none of its bytes yet, and the payload
check that `f` carries passes (R1, R4). -/
abbrev Awaits (s : State) (port : Port) (f : Frame) (mode : CheckMode) : Prop :=
  s.parser port = parserAfter { dest := f.dest, source := f.source, kind := f.kind, length := f.payload.length } mode ∧
    f.check.length = mode.length ∧ checkPasses mode f.payload f.check = true

/-- The bytes of `f` that follow its header: what the command FRAME_COMPLETE carries. -/
def Frame.tailBytes (f : Frame) : List Byte := f.payload ++ f.check

/-- The state in which a complete frame has left the parser of its port in HUNT and was counted as FRAMES_RECEIVED (R1, R5). -/
def State.received (s : State) (port : Port) : State :=
  (s.setParser port .hunt).modCounters port fun c => { c with framesReceived := inc c.framesReceived }

/-- The forward queue of a port (R13). -/
def State.forwardOf (s : State) : Port → List Frame
  | .head => s.headPort.forward
  | .line => s.linePort.forward

/-- The frame in transmission at a port. -/
def State.transmitting (s : State) : Port → Option Frame
  | .head => s.headTransmitting
  | .line => s.lineTransmitting

/-- The frame matches a row of R7's table: its kind, its source, and the port at which it arrived. -/
abbrev MatchesRow (s : State) (port : Port) (f : Frame) : Prop :=
  (f.kind = 0x01 ∨ f.kind = 0x02) ∧ port = .head ∧ 16 ≤ f.source ∧ f.source ≤ 31 ∨
  f.kind = 0x03 ∧ (f.source = 8 ∨ f.source = 9) ∨ f.kind = 0x05 ∧ f.source = 10 ∨
  f.kind = 0x04 ∧ (f.source = 8 ∨ f.source = 9 ∨ f.source = 0) ∨
  f.kind = 0x06 ∧ port = .line ∧ (f.source = 2 ∨ f.source = 0) ∨
  f.kind = 0x20 ∧ port = .line ∧ f.dest = s.ownStation

/-- The payload length is one that R167, or for a REQUEST R168, gives for the frame's kind. -/
abbrev LengthFits (f : Frame) : Prop :=
  (f.kind = 0x01 → 18 ≤ f.payload.length ∧ f.payload.length ≤ 1040 ∧ f.payload.length % 2 = 0) ∧
  (f.kind = 0x02 → f.payload.length = 10) ∧ (f.kind = 0x03 → f.payload.length = 4) ∧
  (f.kind = 0x04 ∨ f.kind = 0x05 → f.payload.length = 1) ∧ (f.kind = 0x06 → f.payload.length = 6) ∧
  (f.kind = 0x20 → 3 ≤ f.payload.length)

/-! ## Layouts (chapter 10) -/

/-- The layout of a payload or a body: its fields in order, each with its size in bytes and its value. -/
abbrev Layout := List (Nat × Nat)

/-- The bytes of a layout: every field with its most significant byte first (R165). -/
def bytesOf (l : Layout) : List Byte :=
  l.flatMap fun f => (List.range f.1).map fun k => BitVec.ofNat 8 (f.2 / 256 ^ (f.1 - 1 - k))

/-- A signed value in two's complement over `size` bytes (R165). -/
def twos (size : Nat) (z : Int) : Nat := (z % 256 ^ size).toNat

/-- Fields that may be absent, `size` bytes together: a presence byte, then the fields, or zeros (R165). -/
def optional (size : Nat) : Option Layout → Layout
  | none => [(1, 0), (size, 0)]
  | some l => (1, 1) :: l

/-- A list of fields of one size. -/
def fieldsOf (size : Nat) (l : List Nat) : Layout := l.map fun n => (size, n)

/-- A cause (R165): absent, a label, or a mark kind as its class code. -/
def causeLayout : Option Cause → Layout
  | none => [(1, 0), (2, 0)]
  | some (.label n) => [(1, 1), (2, n)]
  | some (.mark k) => [(1, 2), (2, if k = .stopMark then 5 else 6)]

/-- The PIECE record, 74 bytes (R169). -/
def pieceLayout (p : Piece) : Layout :=
  [(1, p.strand.val), (4, p.number), (6, p.start), (6, p.stop), (1, p.verdict.code), (1, p.worst.severity)] ++ causeLayout p.cause
    ++ fieldsOf 6 p.lengths.toList
    ++ [(4, twos 4 p.area),
        (1, p.saturated.toNat + 2 * p.mergedCut.toNat + 4 * p.unseenTail.toNat + 8 * p.mapMerged.toNat), (1, p.bank.code),
        (4, p.generation)]

/-- The ADVICE record, 15 bytes (R169). -/
def adviceLayout (a : Advice) : Layout := [(1, a.strand.val), (1, a.kind.code), (1, a.cls.severity), (6, a.lo), (6, a.hi)]

/-- The width, order, sign and scale code of a convention (R169). -/
def conventionLayout (a : Announced) : Layout := [(2, a.width), (1, a.order.code), (1, a.sign.code), (1, a.scaleCode)]

/-- A NOTICE: its kind, its sequence number, and the fields of its kind (R169). -/
def noticeLayout (seq : Word32) : Notice → Layout
  | .headState h old new cause =>
    [(1, 0), (4, seq.toNat), (1, h.val), (1, old.code), (1, new.code)] ++ optional 1 (cause.map fun c => [(1, c.code)])
  | .headReannounced h old new => [(1, 1), (4, seq.toNat), (1, h.val)] ++ conventionLayout old ++ conventionLayout new
  | .strandState i old new => [(1, 2), (4, seq.toNat), (1, i.val), (1, old.code), (1, new.code)]
  | .travelJump p count delta => [(1, 3), (4, seq.toNat), (1, p.code), (4, count.toNat), (4, twos 4 delta)]
  | .lengthLimit l => [(1, 4), (4, seq.toNat), (6, l)]
  | .bankTaken i bank gen len slice =>
    [(1, 5), (4, seq.toNat), (1, i.val), (1, bank.code), (4, gen)] ++ optional 6 (len.map fun n => [(6, n)])
      ++ optional 4 (slice.map fun n => [(4, n)])
  | .mapMerged i start cls => [(1, 6), (4, seq.toNat), (1, i.val), (6, start), (1, cls.severity)]
  | .cutOverrun i x => [(1, 7), (4, seq.toNat), (1, i.val), (6, x)]

/-- The gauge entry, 35 bytes (R168). -/
def entryLayout (e : GaugeEntry) : Layout :=
  [(1, e.geo.slot), (2, e.geo.first), (2, e.geo.last), (1, e.geo.repeats), (2, e.geo.stride), (4, twos 4 e.geo.nominal),
   (4, twos 4 e.geo.floor), (4, twos 4 e.geo.ceiling), (2, e.geo.minValid), (1, e.geo.surfaceWidth), (2, e.geo.label),
   (4, twos 4 e.tol.lower), (4, twos 4 e.tol.upper), (1, e.tol.smoothing), (1, e.tol.warn)]

/-- The bank header, 31 bytes (R168). -/
def headerLayout (h : BankHeader) : Layout :=
  (1, h.entryCount) :: fieldsOf 2 h.widths.toList
    ++ [(1, h.voidAllowance), (1, h.settleCount), (4, h.driftAllowance), (4, h.unseenAllowance), (4, h.surfaceAllowance),
        (4, h.adviceMargin)]

/-- The run record, 27 bytes (R168). -/
def runLayout (r : Run) : Layout :=
  let flags := 2 * r.merged.toNat + 4 * r.split.toNat + 8 * r.tail.toNat
  let before (stop : Option Layout) : Layout :=
    (6, r.start) :: optional 6 stop ++ (1, r.cls.severity) :: causeLayout r.cause ++ [(4, r.sliceCount)]
  match r.body with
  | .running acc folds => before none ++ [(4, twos 4 acc), (1, twos 1 folds), (1, flags + 16)]
  | .closed stop area saturated => before (some [(6, stop)]) ++ [(4, twos 4 area), (1, 0), (1, saturated.toNat + flags)]

/-- The counters of a head, in the order of R38. -/
def headGroup (c : HeadCounters) : List Nat :=
  [c.scansAccepted, c.scansDiscarded, c.checkErrors, c.misses, c.silences, c.faults, c.announces, c.announcesIgnored]

/-- The body of HEAD_READ (R168); a deadline is the time until it, a word that holds at its maximum (R165). -/
def headLayout (s : State) (h : Fin 16) : Layout :=
  let r := s.head h
  [(1, h.val), (1, r.state.code)] ++ optional 1 (r.cause.map fun x => [(1, x.code)])
    ++ optional 2 (r.assignment.map fun a => [(1, a.1.val), (1, a.2.val)])
    ++ optional 10 (r.announced.map fun a =>
      [(2, a.width), (1, a.order.code), (1, a.sign.code), (1, a.scaleCode), (1, a.checkMode.code), (4, a.serialTag)])
    ++ [(4, twos 4 r.offset), (1, r.releaseDelay), (2, r.announceTimeout), (4, r.checkErrors), (4, r.misses),
        (1, r.mismatch.toNat)]
    ++ optional 4 (r.deadline.map fun d => [(4, min (d - s.now) 4294967295)])
    ++ fieldsOf 4 (headGroup r.counters)

/-- The generation and the role of a bank (R168): ACTIVE, STANDBY, or PENDING where a switch to it is pending (R79). -/
def bankLayout (st : Strand) (id : BankId) : Layout :=
  [(4, (st.bank id).generation), (1, if id = st.active then 0 else if st.pendingSwitch = none then 1 else 2)]

/-- The body of BANK_READ (R168). -/
def bankReadLayout (st : Strand) (id : BankId) : Layout :=
  bankLayout st id ++ headerLayout (st.bank id).header
    ++ match st.pendingSwitch with
      | some p => if id = st.active then [] else optional 6 (p.switchLength.map fun n => [(6, n)])
      | none => []

/-- The body of MAP_READ (R158, R168): at most 32 runs from the first run index on. -/
def mapLayout (st : Strand) (first : Nat) : Layout :=
  let runs := (st.runs.drop first).take 32
  [(4, st.runs.length), (6, st.retired), (6, st.front), (4, st.settle), (4, st.marks.length)]
    ++ (st.marks.flatMap fun m => [(1, if m.kind = .stopMark then 5 else 6), (6, m.start), (6, m.stop)])
    ++ (4, runs.length) :: runs.flatMap runLayout

/-- The body of ROUTE_READ (R168). -/
def routeLayout (s : State) : Layout :=
  (1, s.ownStation) :: s.routes.toList.flatMap fun r => [(1, r.action.code), (1, r.sourceClass.code)]

/-- The counters that both ports keep, in the row order of R19. -/
def portGroup (c : PortCounters) : List Nat :=
  [c.framesReceived, c.framesSent, c.headerError, c.payloadError, c.truncated, c.looped, c.formatError, c.unclaimed,
   c.forwardDrop]

/-- The PART group (R159): R19, R49, R62, R77, R151 and R164, each in its own order. -/
def partGroup (s : State) : List Nat :=
  portGroup s.headPort.counters ++ [s.headPort.headPortRequest, s.headPort.triggerDrop, s.headPort.controlDrop]
    ++ portGroup s.linePort.counters
    ++ [s.linePort.noticeDrop, s.travel.counters.recordsA, s.travel.counters.recordsB, s.travel.counters.jumps,
        s.travel.counters.handovers, s.travel.counters.handoverInvalid, s.pressUnknown, s.scans.stray, s.scans.malformed,
        s.scans.late, s.scans.duplicate, s.scans.noBuffer, s.cutInvalid, s.handler.counters.requestsDone,
        s.handler.counters.requestsRefused, s.handler.counters.requestsBusy, s.handler.counters.busyUnsent,
        s.handler.counters.noticesRaised]

/-- A STRAND group (R159): R62, R77, R98, R118, R135 and R151, each in its own order. -/
def strandGroup (st : Strand) : List Nat :=
  let c := st.counters
  let a := st.asmCounters
  let t := st.tplCounters
  let e := st.engCounters
  let m := st.mapCounters
  let p := st.pieceCounters
  [c.triggersIssued, c.triggerWithheld, c.pressStopTaken, c.billetChangeTaken, c.pressRunTaken, c.runEndTaken, a.setsOpened,
   a.setsCompleted, a.setsTimedOut, a.forcedClose, a.setRefused, a.slicesReleased, a.slicesSkipped, t.bankWrites,
   t.bankWritesRefused, t.bankSwitches, e.slicesEvaluated, e.evaluationsDiscarded, e.instancesVoid, e.samplesClipped,
   m.runsOpened, m.runsClosed, m.slicesAbsorbed, m.mapMerged, m.marksMade, m.markMerged, m.marksAppliedBack, m.markBehind,
   p.cutsAccepted, p.cutIgnored, p.backward, p.cutOverrun, p.piecesClosed, p.piecesPrime, p.piecesHold, p.piecesScrap,
   p.runsRetired, p.tailsAdded, p.adviceIssued, p.adviceLost]

/-- The strand counters of Strand Control, in the order of R62. -/
def runGroup (c : StrandCounters) : List Nat :=
  [c.triggersIssued, c.triggerWithheld, c.pressStopTaken, c.billetChangeTaken, c.pressRunTaken, c.runEndTaken]

/-- Item 1 of STRAND_READ (R50, R51, R62, R168): the strand record with its configuration and its strand counters, the last fields
of R50's table (entry 14); a last trigger time is the time since it, a word that holds at its maximum (R165). -/
def strandRecordLayout (s : State) (i : Fin 4) : Layout :=
  let st := s.strand i
  let p := st.params
  (1, st.state.code) :: optional 6 (st.origin.map fun n => [(6, n)])
    ++ [(6, (st.origin.map fun o => s.travel.length - o).getD 0), (4, st.sliceIndex)]
    ++ optional 4 (st.lastTriggered.map fun n => [(4, n)])
    ++ optional 4 (st.lastTriggerTime.map fun t => [(4, min (s.now - t) 4294967295)])
    ++ optional 4 (st.lastReleased.map fun n => [(4, n)]) ++ [(6, st.front), (6, st.retired), (1, st.active.code)]
    ++ optional 8 (st.pendingSwitch.map fun x => (1, x.target.code) :: optional 6 (x.switchLength.map fun n => [(6, n)]))
    ++ fieldsOf 1 (st.slots.toList.map fun o => (o.map Fin.val).getD 255)
    ++ [(4, p.pitch), (4, p.planeOffset), (4, p.weldLength), (4, p.stopMarkLength), (2, p.triggerGuard), (2, p.scanWait),
        (1, p.missLimit)]
    ++ fieldsOf 4 (runGroup st.counters)

/-- Item 2 of STRAND_READ (R49, R168): the Travel Unit. -/
def travelLayout (t : Travel) : Layout :=
  (1, t.driving.code) :: optional 4 (t.refA.map fun c => [(4, c.toNat)]) ++ optional 4 (t.refB.map fun c => [(4, c.toNat)])
    ++ [(4, t.residue), (4, t.debt), (6, t.length), (1, t.moving.toNat), (1, t.limitReached.toNat), (2, t.config.num),
        (2, t.config.den), (2, t.config.maxStep), (2, t.config.stallTime)]

/-- A slot set as its byte: bit s for slot s (R165). -/
def slotByte (p : Fin 6 → Bool) : Nat :=
  (p 0).toNat + 2 * (p 1).toNat + 4 * (p 2).toNat + 8 * (p 3).toNat + 16 * (p 4).toNat + 32 * (p 5).toNat

/-- Item 3 of STRAND_READ (R78, R168): the assembly view. -/
def assemblyLayout (s : State) (i : Fin 4) : Layout :=
  let st := s.strand i
  (4, st.sets.length) ::
    (st.sets.flatMap fun x =>
      [(4, x.slice), (1, x.ready.toNat), (1, slotByte fun t => hasSlot x.expected t),
       (1, slotByte fun t => x.scans[t].isSome)])
    ++ optional 4 (st.eval.map fun ev => [(4, ev.set.slice)]) ++ [(4, st.buffers), (4, 64 - s.buffersInUse)]

/-- Item 4 of STRAND_READ (R117, R168): the last result record. -/
def resultLayout (r : SliceResult) : Layout :=
  [(4, r.slice), (1, r.bank.code), (4, r.generation), (1, r.cls.severity)] ++ causeLayout r.cause
    ++ [(4, twos 4 r.area), (2, r.instanceCount), (2, r.voidCount), (2, r.soundCount), (2, r.driftCount),
        (2, r.surfaceCount), (2, r.dimensionCount)]
    ++ optional 25 (r.causeInstance.map fun c =>
      [(1, c.number), (4, c.n), (4, twos 4 c.mean), (4, c.outOfBand), (4, c.longestRun), (4, twos 4 c.peak),
       (4, twos 4 c.trend)])

/-- Items 5 and 6 of STRAND_READ (R134, R150, R168): the map's counts and the Piece Unit's view. -/
def pieceUnitLayout (st : Strand) : Layout :=
  [(4, st.runs.length), (4, st.settle), (4, st.marks.length), (6, st.retired), (4, st.pieceCounter), (4, st.cuts.length)]
    ++ (st.cuts.flatMap fun c => [(6, c.position), (1, c.merged.toNat)])
    ++ [(1, st.overrun.toNat), (4, st.closed.length), (4, st.held.length)]

/-- The body of STRAND_READ: its seven items in order (R168, entry 14). -/
def strandLayout (s : State) (i : Fin 4) : Layout :=
  let st := s.strand i
  strandRecordLayout s i ++ travelLayout s.travel ++ assemblyLayout s i ++ optional 55 (st.last.map resultLayout)
    ++ pieceUnitLayout st ++ fieldsOf 4 (strandGroup st)

/-! ## The cover of a strand (R120) -/

/-- The runs cover exactly [start, front), in order, without gap or overlap; an open run reaches to the front. -/
def Tiles : List Run → Nat → Nat → Prop
  | [], start, front => start = front
  | r :: rs, start, front => r.start = start ∧ start < r.stopAt front ∧ Tiles rs (r.stopAt front) front

/-- The run meets the region [a, b) and its class is below the kind's (R130). -/
abbrev Run.Under (r : Run) (kind : MarkKind) (a b front : Nat) : Prop :=
  r.start < b ∧ a < r.stopAt front ∧ r.cls.severity < kind.cls.severity

/-- The class of the run that covers a point, where the strand's front is given; none outside the cover. -/
def classAt (runs : List Run) (front x : Nat) : Option ConditionClass :=
  (runs.find? fun r => r.start ≤ x && x < r.stopAt front).map Run.cls

/-- The class and the cause of the stretch [start, stop) that was never evaluated: UNSEEN without a cause, or the worst kind among
the marks that meet it (R121, R142). -/
def unseenUnder (marks : List Mark) (start stop : Nat) : ConditionClass × Option Cause :=
  if marks.any fun m => m.kind = .weldZone && m.start < stop && start < m.stop then
    (.weldZone, some (.mark .weldZone))
  else if marks.any fun m => m.start < stop && start < m.stop then (.stopMark, some (.mark .stopMark))
  else (.unseen, none)

/-! ## What only requests change -/

/-- What of a strand only the requests of an engineering or operator station write: its configuration and its banks. -/
structure Setup where
  slots : Vector (Option (Fin 16)) 6
  params : StrandParams
  bankA : Bank
  bankB : Bank
deriving DecidableEq, Repr

/-- The configuration and the banks of a strand. -/
def Strand.setup (st : Strand) : Setup := { slots := st.slots, params := st.params, bankA := st.bankA, bankB := st.bankB }

/-- What of a head only requests write: its assignment and its calibration. -/
structure Mount where
  assignment : Option (Fin 4 × Fin 6)
  offset : Int
  releaseDelay : Nat
  announceTimeout : Nat
deriving DecidableEq, Repr

/-- The assignment and the calibration of a head. -/
def HeadRecord.mount (r : HeadRecord) : Mount :=
  { assignment := r.assignment, offset := r.offset, releaseDelay := r.releaseDelay, announceTimeout := r.announceTimeout }

/-! ## Laws -/

/-- The queues of the ports and of the Request Handler are within their capacities (R13 to R15, R152). -/
abbrev QueuesFit (s : State) : Prop :=
  s.headPort.own.length ≤ 8 ∧ s.headPort.forward.length ≤ 16 ∧ s.linePort.own.length ≤ 32 ∧
    s.linePort.forward.length ≤ 16 ∧ s.handler.requests.length ≤ 4

/-- No transmitter sends idle symbols while one of its queues holds a frame, but the Line Port's between the end of the
RESTART reply and the RESTART's effect (R17, R18). -/
abbrev TransmittersBusy (s : State) : Prop :=
  (s.headPort.tx = none → s.headPort.own = [] ∧ s.headPort.forward = []) ∧
    (s.linePort.tx = none → s.handler.restart ≠ .due → s.linePort.own = [] ∧ s.linePort.forward = [])

/-- The lists of a strand are within their capacities (R63, R119, R137). -/
abbrev ListsFit (st : Strand) : Prop :=
  st.sets.length ≤ 8 ∧ st.marks.length ≤ 4 ∧ st.cuts.length ≤ 4 ∧ st.closed.length ≤ 8 ∧ st.held.length ≤ 2

/-- A head is named at a slot exactly when that strand and slot are its assignment (R21): so no head is named at two slots
(R51). -/
abbrev AssignmentLaw (s : State) : Prop :=
  ∀ (h : Fin 16) (i : Fin 4) (t : Fin 6), (s.strand i).slots[t] = some h ↔ (s.head h).assignment = some (i, t)

/-- A head record is consistent (R20, R67): the deadline is present exactly while a wait runs, the fault cause exactly while
the head is FAULTED, and the announced fields are present in service. -/
abbrev HeadLaw (r : HeadRecord) : Prop :=
  (r.deadline.isSome ↔ r.state = .releasing ∨ r.state = .awaiting) ∧ (r.cause.isSome ↔ r.state = .faulted) ∧
    (r.state.inService = true → r.announced.isSome)

/-- The Travel Unit holds values of R40's ranges, and the length limit flag is set exactly at the limit (R48). -/
abbrev TravelLaw (t : Travel) : Prop :=
  1 ≤ t.config.num ∧ t.config.num ≤ 65535 ∧ 1 ≤ t.config.den ∧ t.config.den ≤ 65535 ∧ 1 ≤ t.config.maxStep ∧
    t.config.maxStep ≤ 65535 ∧ 1 ≤ t.config.stallTime ∧ t.config.stallTime ≤ 10000 ∧ t.residue < t.config.den ∧
    t.debt ≤ 65535 ∧ t.length ≤ 1099511627775 ∧ (t.limitReached = true ↔ t.length = 1099511627775)

/-- A strand's configuration lies in the ranges of R51. -/
abbrev ParamsLaw (p : StrandParams) : Prop :=
  1000 ≤ p.pitch ∧ p.pitch ≤ 50000 ∧ p.planeOffset ≤ 20000000 ∧ p.weldLength ≤ 5000000 ∧ p.stopMarkLength ≤ 500000 ∧
    100 ≤ p.triggerGuard ∧ p.triggerGuard ≤ 10000 ∧ 100 ≤ p.scanWait ∧ p.scanWait ≤ 50000 ∧ 1 ≤ p.missLimit ∧
    p.missLimit ≤ 255

/-- A gauge entry lies in the ranges of R81. -/
abbrev EntryLaw (e : GaugeEntry) : Prop :=
  e.geo.slot ≤ 5 ∧ e.geo.first ≤ 511 ∧ e.geo.last ≤ 511 ∧ e.geo.repeats ≤ 31 ∧ 1 ≤ e.geo.stride ∧ e.geo.stride ≤ 511 ∧
    -1000000 ≤ e.geo.nominal ∧ e.geo.nominal ≤ 1000000 ∧ -100000 ≤ e.geo.floor ∧ e.geo.floor ≤ 0 ∧
    0 ≤ e.geo.ceiling ∧ e.geo.ceiling ≤ 100000 ∧ 1 ≤ e.geo.minValid ∧ e.geo.minValid ≤ 512 ∧
    1 ≤ e.geo.surfaceWidth ∧ e.geo.surfaceWidth ≤ 64 ∧ -100000 ≤ e.tol.lower ∧ e.tol.lower ≤ 0 ∧
    0 ≤ e.tol.upper ∧ e.tol.upper ≤ 100000 ∧ 1 ≤ e.tol.smoothing ∧ e.tol.smoothing ≤ 8 ∧ e.tol.warn ≤ 16

/-- A bank lies in the ranges of R79 to R81. -/
abbrev BankLaw (b : Bank) : Prop :=
  b.generation ≤ 4294967295 ∧ b.header.entryCount ≤ 64 ∧
    (∀ t : Fin 6, 64 ≤ b.header.widths[t] ∧ b.header.widths[t] ≤ 512) ∧ b.header.voidAllowance ≤ 255 ∧
    1 ≤ b.header.settleCount ∧ b.header.settleCount ≤ 255 ∧ b.header.driftAllowance ≤ 100000000 ∧
    b.header.unseenAllowance ≤ 100000000 ∧ b.header.surfaceAllowance ≤ 100000000 ∧
    b.header.adviceMargin ≤ 2000000 ∧ ∀ e : Fin 64, EntryLaw b.entries[e]

/-- A strand that is IDLE or CLOSED holds no set and has no slice under evaluation (R55). -/
abbrev QuietLaw (st : Strand) : Prop := st.state = .idle ∨ st.state = .closed → st.sets = [] ∧ st.eval = none

/-- The map holds at most 96 runs (R119), and a strand that is not CLOSED either has an empty map or has its open run last
(R120). -/
abbrev MapLaw (st : Strand) : Prop :=
  st.runs.length ≤ 96 ∧ (st.state ≠ .closed → st.runs = [] ∨ st.openRun.isSome)

/-- The least slice index that a new trigger of the strand can have (R58). -/
def Strand.nextTrigger (st : Strand) : Nat :=
  match st.lastTriggered with
  | none => 0
  | some k => k + 1

/-- The sets of a strand are in rising order of their slice index, without two for one slice (R63), and no set lies above the last
triggered index (R65). -/
abbrev SetLaw (st : Strand) : Prop :=
  st.sets.Pairwise (fun x y => x.slice < y.slice) ∧ ∀ x ∈ st.sets, x.slice < st.nextTrigger

/-- The slices of a strand are released in order (R74, R75): no set and no evaluation lies below the first index that has not been
handed to the map, the slice under evaluation lies below every set, and the last triggered index is not below any of them. -/
abbrev OrderLaw (st : Strand) : Prop :=
  st.nextIndex ≤ st.nextTrigger ∧ (∀ x ∈ st.sets, st.nextIndex ≤ x.slice) ∧
    ∀ ev, st.eval = some ev →
      st.nextIndex ≤ ev.set.slice ∧ ev.set.slice < st.nextTrigger ∧ ∀ x ∈ st.sets, ev.set.slice < x.slice

/-- The runs of a strand cover exactly [retired point, front) (R120). The front is the end of the last released slice but in CLOSED
(R75), where every run is closed (R55); everything is at 0 in IDLE (R50), and the pending cuts rise from the retired point on
(R138). -/
abbrev CoverLaw (st : Strand) : Prop :=
  Tiles st.runs st.retired st.front ∧ 1 ≤ st.params.pitch ∧
    (st.state ≠ .closed → st.front = st.nextIndex * st.params.pitch) ∧
    (st.state = .closed → ∀ r ∈ st.runs, r.isOpen = false) ∧
    (st.state = .idle → st.front = 0 ∧ st.retired = 0 ∧ st.lastReleased = none ∧ st.cuts = []) ∧
    st.cuts.Pairwise (fun c d => c.position < d.position) ∧ ∀ c ∈ st.cuts, st.retired < c.position

end Sys2Proof.Machine
end

