-- ==== Sys2Proof/Certificates/Slice0/Obligations.lean ====
section
/-! DEFINITION. The statements for the provers. -/

open Sys2Proof Sys2Proof.Machine

/-! ### The whole part -/

/-- A step takes the command at the front of the queue and is `exec` of it on the state with the queue's rest. On an empty queue
it carries out the part's own event that is due, and else one microsecond passes: this clause is the model's choice (entries 1
and 2 of the assumption log). -/
def Obligations.StepRunsCommand : Prop :=
  (∀ (c : Instr) (rest : List Instr) (s : State),
    step { s with pending := c :: rest } = exec c { s with pending := rest }) ∧
  (∀ s : State, s.pending = [] →
    (∀ c, s.due = some c → step s = exec c s) ∧ (s.due = none → step s = .next { s with now := s.now + 1 }))

/-- Every command answers a next state in every state and leaves the commands that wait as they are: this clause is the model's
choice, since an event that cannot occur changes nothing (entry 4) and no fault is raised (entry 23). And, but for a power-on
reset, the own station never changes, and each table of the part's configuration changes only by its own write. -/
def Obligations.EveryCommandCompletes : Prop :=
  ∀ (c : Instr) (s : State), ∃ t, exec c s = .next t ∧ t.pending = s.pending ∧ ((∀ straps, c ≠ .powerOnReset straps) →
    t.ownStation = s.ownStation ∧
    ((∀ n a k, c ≠ .routeWrite n a k) → t.routes = s.routes) ∧
    ((∀ n, c ≠ .noticeTargetWrite n) → t.handler.noticeTarget = s.handler.noticeTarget) ∧
    ((∀ x, c ≠ .travelConfigWrite x) → t.travel.config = s.travel.config) ∧
    ((∀ n v p, c ≠ .strandConfigWrite n v p) → ∀ i,
      (t.strand i).slots = (s.strand i).slots ∧ (t.strand i).params = (s.strand i).params) ∧
    ((∀ n o d w, c ≠ .headCalWrite n o d w) → ∀ h,
      (t.head h).offset = (s.head h).offset ∧ (t.head h).releaseDelay = (s.head h).releaseDelay ∧
        (t.head h).announceTimeout = (s.head h).announceTimeout))

/-- A power-on reset latches the straps and gives every part of the state its power-on value, and the clock the value 0, which is
the model's choice (entry 1; R1, R6, R10, R13 to R16, R20, R40, R50, R51, R63, R80, R81, R99, R119, R137, R152, R161, R163). Every
counter is 0. -/
def Obligations.PowerOnValues : Prop :=
  ∀ (straps : Fin 8) (s : State),
    let entry : GaugeEntry :=
      { geo :=
          { slot := 0, first := 0, last := 0, repeats := 0, stride := 1, nominal := 0, floor := 0, ceiling := 0, minValid := 1,
            surfaceWidth := 1, label := 0 },
        tol := { lower := 0, upper := 0, smoothing := 1, warn := 0 } }
    let bank : Bank :=
      { generation := 0,
        header :=
          { entryCount := 0, widths := Vector.replicate 6 512, voidAllowance := 0, settleCount := 3, driftAllowance := 0,
            unseenAllowance := 0, surfaceAllowance := 0, adviceMargin := 50000 },
        entries := Vector.replicate 64 entry }
    ∃ t, exec (.powerOnReset straps) s = .next t ∧ t.pending = s.pending ∧ t.now = 0 ∧ t.ownStation = 48 + straps ∧
    (∀ n : Fin 64, t.routes[n].action = .pass ∧
      t.routes[n].sourceClass = if n.val = 1 then .engineering else if 8 ≤ n.val ∧ n.val ≤ 31 then .none else .operator) ∧
    t.headPort =
      { parser := .hunt, forward := [], own := [], tx := none, counters := {}, headPortRequest := 0, triggerDrop := 0,
        controlDrop := 0 } ∧
    t.linePort =
      { parser := .hunt, forward := [], own := [], tx := none, prefer := .own, adviceTurn := 0, pieceTurn := 0,
        counters := {}, noticeDrop := 0 } ∧
    (∀ h : Fin 16, t.head h =
      { state := .offline, cause := none, assignment := none, announced := none, offset := 0, releaseDelay := 20,
        announceTimeout := 200, checkErrors := 0, misses := 0, mismatch := false, deadline := none, counters := {} }) ∧
    t.travel =
      { driving := .a, refA := none, refB := none, residue := 0, debt := 0, length := 0, moving := false,
        lastAdvance := none, limitReached := false,
        config := { num := 10000, den := 1000, maxStep := 4096, stallTime := 500 }, counters := {} } ∧
    (∀ i : Fin 4, t.strand i =
      { state := .idle, origin := none, sliceIndex := 0, lastTriggered := none, lastTriggerTime := none,
        lastReleased := none, front := 0, retired := 0, active := .a, pendingSwitch := none,
        slots := Vector.replicate 6 none,
        params :=
          { pitch := 5000, planeOffset := 0, weldLength := 0, stopMarkLength := 0, triggerGuard := 250, scanWait := 5000,
            missLimit := 16 },
        counters := {}, sets := [], asmCounters := {}, bankA := bank, bankB := bank, tplCounters := {}, eval := none,
        filters := Vector.replicate 256 none, unseed := 0, last := none, engCounters := {}, runs := [], marks := [],
        settle := 0, mapCounters := {}, cuts := [], overrun := false, closed := [], held := [], pieceCounter := 0,
        pieceCounters := {} }) ∧
    t.handler = { requests := [], waiting := none, restart := .idle, noticeTarget := 3, noticeSeq := 0, counters := {} } ∧
    ∀ g l, t.counterGroup g = some l → ∀ n ∈ l, n = 0

/-! ### Laws of every state -/

/-- The state after reset, for every setting of the straps, obeys every law stated here as kept by a step. -/
def Obligations.LawsHoldAtReset : Prop :=
  ∀ straps : Fin 8, AssignmentLaw (State.powerOn straps) ∧ (∀ h, HeadLaw ((State.powerOn straps).head h)) ∧
    TravelLaw (State.powerOn straps).travel ∧ QueuesFit (State.powerOn straps) ∧ TransmittersBusy (State.powerOn straps) ∧
    (State.powerOn straps).buffersInUse ≤ 64 ∧
    (∀ i, ListsFit ((State.powerOn straps).strand i) ∧ QuietLaw ((State.powerOn straps).strand i) ∧
      MapLaw ((State.powerOn straps).strand i) ∧ SetLaw ((State.powerOn straps).strand i) ∧
      OrderLaw ((State.powerOn straps).strand i) ∧ CoverLaw ((State.powerOn straps).strand i) ∧ ParamsLaw ((State.powerOn straps).strand i).params ∧
      ∀ id, BankLaw (((State.powerOn straps).strand i).bank id))

/-- The law that a head is assigned to at most one strand and one slot (R51, R21), and the consistency of the head records
(R20), are kept by every step. -/
def Obligations.HeadTableLawsKept : Prop :=
  ∀ s t : State, step s = .next t →
    (AssignmentLaw s → AssignmentLaw t) ∧ ((∀ h, HeadLaw (s.head h)) → ∀ h, HeadLaw (t.head h))

/-- The capacities of the ports' queues and of the request queue (R13 to R15, R152), and that no transmitter idles while a frame
waits (R17, R18), are kept by every step. -/
def Obligations.PortLawsKept : Prop :=
  ∀ s t : State, step s = .next t →
    (QueuesFit s → QueuesFit t) ∧ (TransmittersBusy s → TransmittersBusy t)

/-- The capacities of a strand's lists (R63, R119, R137, R149), the quiet of an IDLE or CLOSED strand (R55) and the law of the
open run (R120) are kept by every step. With them, every step keeps the order of a strand's sets and of its slices (R63, R65,
R74, R75), the exact cover of [retired point, front) by its runs (R120), and the pool of 64 scan buffers (R64). -/
def Obligations.StrandLawsKept : Prop :=
  ∀ s t : State, (∀ i, ListsFit (s.strand i) ∧ QuietLaw (s.strand i) ∧ MapLaw (s.strand i)) → step s = .next t →
    (∀ i, ListsFit (t.strand i) ∧ QuietLaw (t.strand i) ∧ MapLaw (t.strand i)) ∧
    ((∀ i, SetLaw (s.strand i)) →
      (∀ i, SetLaw (t.strand i)) ∧ (s.buffersInUse ≤ 64 → t.buffersInUse ≤ 64) ∧
      ((∀ i, OrderLaw (s.strand i) ∧ CoverLaw (s.strand i)) → ∀ i, OrderLaw (t.strand i) ∧ CoverLaw (t.strand i)))

/-- The stored configurations, banks and Travel Unit values stay in their ranges, and the length limit flag is set exactly at the
limit (R40, R48, R51, R79 to R81, R86): kept by every step. -/
def Obligations.StoredValuesInRange : Prop :=
  ∀ s t : State, step s = .next t →
    ((∀ i, ParamsLaw (s.strand i).params ∧ ∀ id, BankLaw ((s.strand i).bank id)) →
      ∀ i, ParamsLaw (t.strand i).params ∧ ∀ id, BankLaw ((t.strand i).bank id)) ∧
    (TravelLaw s.travel → TravelLaw t.travel)

/-- But for a power-on reset, a step leaves a bank as it is, or it writes a STANDBY bank and raises its generation by exactly
one: so neither an active nor a pending bank is ever written, and no generation falls (R84, R85). -/
def Obligations.OnlyStandbyBanksWritten : Prop :=
  ∀ s t : State, (∀ straps, s.pending.head? ≠ some (.powerOnReset straps)) → step s = .next t → ∀ i id,
    (t.strand i).bank id = (s.strand i).bank id ∨
      (s.strand i).role id = .standby ∧ ((t.strand i).bank id).generation = ((s.strand i).bank id).generation + 1

/-- A well-formed request command is what its own REQUEST payload decodes to, and the payload carries its tag (R168). -/
def Obligations.RequestDecodesBack : Prop :=
  ∀ (tag : Nat) (c : Instr), tag < 65536 → c.wellFormed = true → c.isRequest = true →
    decodeRequest (encodeRequest tag c) = c ∧ requestTag (encodeRequest tag c) = tag

/-! ### The runout link -/

/-- A symbol other than a data byte that arrives while a frame is in progress ends it as truncated: it is counted once, its
bytes are discarded, and a frame-start symbol begins the next frame (R3). In HUNT a frame-start symbol begins a frame and
nothing is counted (R1). The model gives these symbols the commands TRUNCATED and FRAME_START (entry 6). -/
def Obligations.SymbolEndsFrame : Prop :=
  ∀ (s : State) (port : Port),
    (s.parser port ≠ .hunt →
      (∀ x, exec (.truncated port x) s =
        .next ((s.setParser port (if x = .frameStart then .header [] else .hunt)).modCounters port
          fun c => { c with truncated := inc c.truncated })) ∧
      exec (.frameStart port) s = .next ((s.setParser port (.header [])).modCounters port
        fun c => { c with truncated := inc c.truncated })) ∧
    (s.parser port = .hunt → exec (.frameStart port) s = .next (s.setParser port (.header [])))

/-- The header is judged at its sixth byte (R2): a header that passes is held with its fields and payload check; one that fails
is counted once, the parser enters HUNT, and the bytes that follow are discarded. The payload check is LRC-8 exactly for a SCAN
from a head station whose record holds LRC8. The command carries the six bytes (entry 6). -/
def Obligations.HeaderJudged : Prop :=
  ∀ (s : State) (port : Port) (d src kind hi lo check : Byte), s.parser port = .header [] →
    let length := hi.toNat * 256 + lo.toNat
    let h : Header := { dest := d.toNat, source := src.toNat, kind := kind, length := length }
    let passes := check = d ^^^ src ^^^ kind ^^^ hi ^^^ lo ∧ d.toNat ≤ 63 ∧ src.toNat ≤ 62 ∧ length ≤ 1040
    let failed := (s.setParser port .hunt).modCounters port fun c => { c with headerError := inc c.headerError }
    (passes → ∃ mode,
      (mode = .lrc8 ↔ kind = 0x01 ∧ ∃ (k : Fin 16) (a : Announced), src.toNat = 16 + k ∧ (s.head k).announced = some a ∧
        a.checkMode = .lrc8) ∧
      exec (.headerReceived port [d, src, kind, hi, lo, check]) s =
        .next (s.setParser port (if length = 0 then .check h mode [] [] else .payload h mode []))) ∧
    (¬passes → exec (.headerReceived port [d, src, kind, hi, lo, check]) s = .next failed ∧
      ∀ bytes, exec (.frameComplete port bytes) failed = .next failed)

/-- The check bytes that a sender appends bring the receiver's CRC-16 register to 0 (R4), and every frame that the part builds
passes the check. A frame in transmission is one of the part's own, or a forwarded frame as it was received. An own frame carries
the own station as source, the destination and kind of R18 and R166, the payload that R167, R168 or R169 lays out, and the CRC-16 of
that payload. On the wire a frame is the five header fields, their exclusive-or, the payload and the check (R166). The coded fields
take the codes of R170 and those that R167 to R169 state, which the last clauses list. -/
def Obligations.CrcOfCheckedPayloadIsZero : Prop :=
  (∀ payload : List Byte, crc16 (payload ++ crcBytes payload) = 0#16 ∧
    checkPasses .crc16 payload (crcBytes payload) = true) ∧
  (∀ s : State,
    let sent := fun (dest : Nat) (kind : Byte) (l : Layout) =>
      ({ dest := dest, source := s.ownStation, kind := kind, payload := bytesOf l, check := crcBytes (bytesOf l) } : Frame)
    (∀ tx, s.headPort.tx = tx → s.headTransmitting = match tx with
      | none => none
      | some (.forwarded f) => some f
      | some (.own (.trigger i k mask)) => some (sent 63 0x10 [(1, i.val), (4, k), (2, mask.toNat)])
      | some (.own (.hold h)) => some (sent (16 + h.val) 0x11 [(1, h.val)])
      | some (.own (.release h)) => some (sent (16 + h.val) 0x12 [(1, h.val)])) ∧
    (∀ tx, s.linePort.tx = tx → s.lineTransmitting = match tx with
      | none => none
      | some (.forwarded f) => some f
      | some (.own (.reply r)) =>
        let p := bytesOf [(2, r.tag), (1, r.kind), (1, r.status.code)] ++ r.body
        some { dest := r.dest, source := s.ownStation, kind := 0x21, payload := p, check := crcBytes p }
      | some (.own (.piece p)) => some (sent 63 0x22 (pieceLayout p))
      | some (.own (.advice a)) => some (sent 2 0x23 (adviceLayout a))
      | some (.own (.notice dest seq n)) => some (sent dest 0x24 (noticeLayout seq n)))) ∧
  (∀ f : Frame,
    let header := bytesOf [(1, f.dest), (1, f.source), (1, f.kind.toNat), (2, f.payload.length)]
    f.bytes = header ++ [header.foldl (· ^^^ ·) 0] ++ f.payload ++ f.check) ∧
  [ConditionClass.sound, .drift, .unseen, .surface, .dimension, .stopMark, .weldZone].map (·.severity) = List.range 7 ∧
  [PieceVerdict.prime, .hold, .scrap].map (·.code) = List.range 3 ∧
  [HeadState.offline, .held, .releasing, .awaiting, .online, .silent, .faulted].map (·.code) = List.range 7 ∧
  [FaultCause.mute, .badMarker, .badAnnounce, .checkErrors].map (·.code) = List.range 4 ∧
  [StrandState.idle, .armed, .running, .stalled, .draining, .closed].map (·.code) = List.range 6 ∧
  [SampleOrder.forward, .reversed].map (·.code) = [0, 1] ∧ [HeightSign.up, .down].map (·.code) = [0, 1] ∧
  [CheckMode.crc16, .lrc8].map (·.code) = [0, 1] ∧ [BankId.a, .b].map (·.code) = [0, 1] ∧
  [Puller.a, .b].map (·.code) = [0, 1] ∧ [RouteAction.pass, .stop].map (·.code) = [0, 1] ∧
  [BankRole.active, .standby, .pending].map (·.code) = List.range 3 ∧
  [SourceClass.none, .operator, .engineering].map (·.code) = List.range 3 ∧
  [AdviceKind.run, .weld, .stop].map (·.code) = List.range 3 ∧
  [Status.accepted, .acceptedClamped, .busy, .notPermitted, .stale, .activeBank, .pending, .invalid, .outOfRange,
    .wrongState, .unknownRequest].map (·.code) = List.range 11 ∧
  [InvalidReason.empty, .slot, .window, .band, .minValid, .instances, .headTaken].map (·.code) = List.range 7

/-- A frame whose payload check fails is counted as PAYLOAD_ERROR and discarded (R5). A SCAN of a head station at the Head Port
is a check error of that head as well (R32): counted, added to the consecutive count of a head in service, and at 8 the head is
FAULTED, which is noticed. -/
def Obligations.PayloadCheckFails : Prop :=
  ∀ (s : State) (port : Port) (h : Header) (mode : CheckMode) (payload check : List Byte),
    s.parser port = parserAfter h mode → payload.length = h.length → check.length = mode.length →
    checkPasses mode payload check = false →
    let u := (s.setParser port .hunt).modCounters port fun c => { c with payloadError := inc c.payloadError }
    (¬(port = .head ∧ h.kind = 0x01 ∧ 16 ≤ h.source ∧ h.source ≤ 31) →
      exec (.frameComplete port (payload ++ check)) s = .next u) ∧
    (∀ k : Fin 16, port = .head → h.kind = 0x01 → h.source = 16 + k →
      let r := s.head k
      let counted := { r with counters.checkErrors := inc r.counters.checkErrors }
      (r.state ≠ .online ∧ r.state ≠ .silent →
        exec (.frameComplete port (payload ++ check)) s = .next (u.setHead k counted)) ∧
      (r.state = .online ∨ r.state = .silent →
        (r.checkErrors + 1 < 8 → exec (.frameComplete port (payload ++ check)) s =
          .next (u.setHead k { counted with checkErrors := r.checkErrors + 1 })) ∧
        (8 ≤ r.checkErrors + 1 → exec (.frameComplete port (payload ++ check)) s =
          .next ((u.setHead k
            { counted with
              checkErrors := 8, state := .faulted, cause := some .checkErrors, deadline := none,
              counters.faults := inc r.counters.faults }).raise (.headState k r.state .faulted (some .checkErrors))))))

/-- A good frame is counted as FRAMES_RECEIVED. One from the part's own number is LOOPED, and a REQUEST to the part at the Head
Port is HEAD_PORT_REQUEST: both are discarded. Any other frame that matches no row of R7's table is offered for forwarding
unconsumed, and so is one that matches a row with a length that does not fit its kind, counted as FORMAT_ERROR (R5, R7, R8).
That a frame which matches no row is no FORMAT_ERROR, and that HEAD_PORT_REQUEST is counted whatever the length, are the model's
deductions (entry 8). -/
def Obligations.GoodFrameNotConsumed : Prop :=
  ∀ (s : State) (port : Port) (f : Frame) (mode : CheckMode), Awaits s port f mode →
    let u := s.received port
    (f.source = s.ownStation → exec (.frameComplete port f.tailBytes) s =
      .next (u.modCounters port fun c => { c with looped := inc c.looped })) ∧
    (f.source ≠ s.ownStation →
      (port = .head → f.kind = 0x20 → f.dest = s.ownStation → exec (.frameComplete port f.tailBytes) s =
        .next { u with headPort := { u.headPort with headPortRequest := inc u.headPort.headPortRequest } }) ∧
      (¬(port = .head ∧ f.kind = 0x20 ∧ f.dest = s.ownStation) → ¬MatchesRow s port f →
        exec (.frameComplete port f.tailBytes) s = .next (u.forwardFrame port f false)) ∧
      (MatchesRow s port f → ¬LengthFits f → exec (.frameComplete port f.tailBytes) s =
        .next ((u.modCounters port fun c => { c with formatError := inc c.formatError }).forwardFrame port f false)))

/-- A good frame that matches a row of R7's table and has a length of its kind is handed to its block and then offered for
forwarding as a consumed frame. -/
def Obligations.GoodFrameConsumed : Prop :=
  ∀ (s : State) (port : Port) (f : Frame) (mode : CheckMode), Awaits s port f mode → f.source ≠ s.ownStation →
    let u := s.received port
    let n := f.payload.length
    let Hands := fun v : State => exec (.frameComplete port f.tailBytes) s = .next (v.forwardFrame port f true)
    (∀ h : Fin 16, port = .head → f.source = 16 + h → f.kind = 0x01 → 18 ≤ n ∧ n ≤ 1040 ∧ n % 2 = 0 →
      Hands (u.scan h f.payload)) ∧
    (∀ h : Fin 16, port = .head → f.source = 16 + h → f.kind = 0x02 → n = 10 → Hands (u.announce h f.payload)) ∧
    (f.kind = 0x03 → n = 4 →
      (f.source = 8 → Hands (u.travelRecord .a (BitVec.ofNat 32 (beNat f.payload)))) ∧
      (f.source = 9 → Hands (u.travelRecord .b (BitVec.ofNat 32 (beNat f.payload))))) ∧
    (f.kind = 0x05 → f.source = 10 → n = 1 → Hands (u.pressNotice (beNat f.payload))) ∧
    (f.kind = 0x04 → f.source = 8 ∨ f.source = 9 ∨ f.source = 0 → n = 1 → Hands (u.handover (beNat f.payload))) ∧
    (f.kind = 0x06 → port = .line → f.source = 2 ∨ f.source = 0 → n = 6 →
      Hands (u.cutNotice (beNat (f.payload.take 1)) (beNat (f.payload.drop 1)))) ∧
    (f.kind = 0x20 → port = .line → f.dest = s.ownStation → 3 ≤ n → Hands (u.takeRequest f))

/-- The forwarding decision (R9) and the entry into the opposite port's forward queue (R13): a frame to the part is not
forwarded, and is UNCLAIMED if it was not consumed; else the destination's route decides. A frame that is passed joins the
tail of the queue of 16, and is dropped at a full queue. Where it joins, a transmitter that sent idle symbols makes one selection
(R17, entry 22), but the Line Port's between the end of the RESTART reply and the RESTART's effect (R18), and nothing else of either
port changes. -/
def Obligations.ForwardingDecided : Prop :=
  ∀ (s : State) (port : Port) (f : Frame) (consumed : Bool),
    let q := opposite port
    let t := s.forwardFrame port f consumed
    (f.dest = s.ownStation →
      t = if consumed then s else s.modCounters port fun c => { c with unclaimed := inc c.unclaimed }) ∧
    (f.dest ≠ s.ownStation → (s.route f.dest).action = .stop → t = s) ∧
    (f.dest ≠ s.ownStation → (s.route f.dest).action = .pass →
      (16 ≤ (s.forwardOf q).length → t = s.modCounters q fun c => { c with forwardDrop := inc c.forwardDrop }) ∧
      ((s.forwardOf q).length < 16 →
        (t.heads = s.heads ∧ t.travel = s.travel ∧ t.strands = s.strands ∧ t.routes = s.routes ∧ t.handler = s.handler ∧
          SameRest s t ∧ (∀ p, t.parser p = s.parser p ∧ t.portCounters p = s.portCounters p) ∧
          t.transmitting port = s.transmitting port ∧ t.forwardOf port = s.forwardOf port) ∧
        (q = .head → let p := s.headPort
          t.linePort = s.linePort ∧ (p.tx ≠ none → t.headPort = { p with forward := p.forward ++ [f] }) ∧
          (p.tx = none →
            (∀ x rest, p.own = x :: rest →
              t.headPort = { p with own := rest, tx := some (.own x), forward := p.forward ++ [f] }) ∧
            (p.own = [] → ∀ x rest, p.forward ++ [f] = x :: rest →
              t.headPort = { p with forward := rest, tx := some (.forwarded x) }))) ∧
        (q = .line → let p := s.linePort
          t.headPort = s.headPort ∧
          (p.tx ≠ none ∨ s.handler.restart = .due → t.linePort = { p with forward := p.forward ++ [f] }) ∧
          (p.tx = none → s.handler.restart ≠ .due →
            (∀ x rest, p.own = x :: rest → p.prefer = .own → t.linePort =
              { p with own := rest, tx := some (.own x), forward := p.forward ++ [f], prefer := .forward }) ∧
            (p.own = [] ∨ p.prefer = .forward → ∀ x rest, p.forward ++ [f] = x :: rest → t.linePort =
              { p with forward := rest, tx := some (.forwarded x), prefer := .own }))) ∧
        (s.transmitting q ≠ none → t.forwardOf q = s.forwardOf q ++ [f] ∧ t.transmitting q = s.transmitting q) ∧
        (s.transmitting q = none → s.forwardOf q = [] → (q = .head → s.headPort.own = []) →
          (q = .line → s.linePort.own = [] ∧ s.handler.restart ≠ .due) →
          t.forwardOf q = [] ∧ t.transmitting q = some f)))

/-- A REQUEST to the part at the Line Port enters the request queue with the class its source has at this moment; with 4
entries occupied it is answered BUSY, with its tag and kind and no other fields, or counted BUSY_UNSENT where the Line Port has
no free entry. The BUSY reply is the one record that joins the Line Port, and does not touch the request queue (R152, R153). The entry holds the request as the command that will
carry it out (entry 7). -/
def Obligations.RequestTakenOrBusy : Prop :=
  ∀ (s : State) (f : Frame),
    let t := s.takeRequest f
    let busy : Reply :=
      { dest := f.source, tag := beNat (f.payload.take 2), kind := beNat ((f.payload.drop 2).take 1), status := .busy,
        body := [] }
    (s.handler.requests.length < 4 →
      t = { s with
            handler := { s.handler with
              requests := s.handler.requests ++
                [{ source := f.source, sourceClass := (s.route f.source).sourceClass, tag := beNat (f.payload.take 2),
                   op := decodeRequest f.payload }] } }) ∧
    (4 ≤ s.handler.requests.length →
      t.handler = { s.handler with
        counters := { s.handler.counters with
          requestsBusy := inc s.handler.counters.requestsBusy,
          busyUnsent :=
            if s.linePort.own.length < 32 then s.handler.counters.busyUnsent else inc s.handler.counters.busyUnsent } } ∧
      (s.linePort.own.length < 32 → Entered s (.reply busy) t.linePort ∧ t.latestRecord = some (.reply busy)) ∧
      (32 ≤ s.linePort.own.length → t.linePort = s.linePort) ∧
      SameRest s t ∧ SameLine s t ∧ t.headPort = s.headPort ∧ t.heads = s.heads ∧ t.travel = s.travel ∧
        t.strands = s.strands ∧ t.routes = s.routes)

/-- The end of a transmission (R16, R17). The Head Port takes its own frames first. The Line Port alternates, and an own-origin
entry that it frees goes to one waiting record: the waiting reply, else held advice, else a closed piece, each of the strand
whose turn it is. The piece is the oldest of its strand's closed list and leaves that list, and then the strand's close check runs
(R147), as O39 states it. The strand is the first, counted from the turn in cyclic order, that holds a record of the kind, and the turn
is then the strand after it (R16). That the entry is given before any new record is the model's choice (entry 28). -/
def Obligations.TransmittersSelect : Prop :=
  (∀ s : State,
    (∀ i a, s.adviceStrand = some (i, a) ↔ (s.strand i).held.head? = some a ∧
      ∃ d : Fin 4, i = s.linePort.adviceTurn + d ∧ ∀ c, c < d → (s.strand (s.linePort.adviceTurn + c)).held = []) ∧
    (s.adviceStrand = none ↔ ∀ i, (s.strand i).held = []) ∧
    (∀ i p, s.pieceStrand = some (i, p) ↔ (s.strand i).closed.head? = some p ∧
      ∃ d : Fin 4, i = s.linePort.pieceTurn + d ∧ ∀ c, c < d → (s.strand (s.linePort.pieceTurn + c)).closed = []) ∧
    (s.pieceStrand = none ↔ ∀ i, (s.strand i).closed = [])) ∧
  (∀ (s : State) (x : HeadSending), s.headPort.tx = some x →
    let sent : HeadPort := { s.headPort with tx := none, counters.framesSent := inc s.headPort.counters.framesSent }
    (∀ f rest, s.headPort.own = f :: rest → exec (.frameTransmitted .head) s =
      .next { s with headPort := { sent with tx := some (.own f), own := rest } }) ∧
    (∀ f rest, s.headPort.own = [] → s.headPort.forward = f :: rest → exec (.frameTransmitted .head) s =
      .next { s with headPort := { sent with tx := some (.forwarded f), forward := rest } }) ∧
    (s.headPort.own = [] → s.headPort.forward = [] → exec (.frameTransmitted .head) s = .next { s with headPort := sent })) ∧
  (∀ (s : State) (x : LineSending), s.linePort.tx = some x → s.isRestartReply x = false →
    ∃ t, exec (.frameTransmitted .line) s = .next t ∧
      t.linePort.counters = { s.linePort.counters with framesSent := inc s.linePort.counters.framesSent } ∧
      (SameRest s t ∧ SameHandling s t ∧ t.headPort = s.headPort ∧ t.heads = s.heads ∧ t.travel = s.travel ∧
        t.routes = s.routes ∧ t.linePort.parser = s.linePort.parser) ∧
      (s.linePort.own = [] → s.linePort.forward = [] →
        t = { s with
              linePort := { s.linePort with counters.framesSent := inc s.linePort.counters.framesSent, tx := none } }) ∧
      (∀ f rest, s.linePort.forward = f :: rest → s.linePort.own = [] ∨ s.linePort.prefer = .forward →
        t = { s with
              linePort := { s.linePort with
                counters.framesSent := inc s.linePort.counters.framesSent, tx := some (.forwarded f), forward := rest,
                prefer := .own } }) ∧
      (∀ r rest, s.linePort.own = r :: rest → s.linePort.forward = [] ∨ s.linePort.prefer = .own →
        t.linePort.tx = some (.own r) ∧ t.linePort.prefer = .forward ∧ t.linePort.forward = s.linePort.forward ∧
        (∀ y, s.handler.waiting = some y → t.handler.waiting = none ∧ t.handler.requests = s.handler.requests.tail ∧
          t.linePort.own = rest ++ [.reply y] ∧ t.strands = s.strands) ∧
        (s.handler.waiting = none → ∀ i a, s.adviceStrand = some (i, a) → t.linePort.own = rest ++ [.advice a] ∧
          t.linePort.adviceTurn = i + 1 ∧ t.strand i = { s.strand i with held := (s.strand i).held.tail } ∧
          t.linePort.pieceTurn = s.linePort.pieceTurn ∧ OtherStrands s t i ∧ t.handler = s.handler) ∧
        (s.handler.waiting = none → s.adviceStrand = none → ∀ i p, s.pieceStrand = some (i, p) →
          (rest ++ [.piece p]) <+: t.linePort.own ∧ t.linePort.pieceTurn = i + 1 ∧
          t.linePort.adviceTurn = s.linePort.adviceTurn ∧ OtherStrands s t i ∧ SameHandler s t ∧
          t = (State.modStrand { s with
            linePort := { s.linePort with
              counters.framesSent := inc s.linePort.counters.framesSent, tx := some (.own r), prefer := .forward,
              own := rest ++ [.piece p], pieceTurn := i + 1 } } i fun a => { a with closed := a.closed.tail }).closeCheck i ∧
          (s.strand i).closed.head? = some p) ∧
        (s.handler.waiting = none → s.adviceStrand = none → s.pieceStrand = none →
          t.linePort.own = rest ∧ t.strands = s.strands ∧ t.handler = s.handler)))

/-- A raised notice takes the present number, which then rises by one and wraps, and is counted; it enters the Line Port queue,
addressed to the notice target of this moment, as the one record that joins, where at least 4 entries are free, and is dropped and counted otherwise (R15,
R163). -/
def Obligations.NoticeRaised : Prop :=
  ∀ (s : State) (n : Notice),
    let t := s.raise n
    t.handler = { s.handler with
      noticeSeq := s.handler.noticeSeq + 1,
      counters := { s.handler.counters with noticesRaised := inc s.handler.counters.noticesRaised } } ∧
    (s.linePort.own.length ≤ 28 → Entered s (.notice s.handler.noticeTarget s.handler.noticeSeq n) t.linePort ∧
      t.latestRecord = some (.notice s.handler.noticeTarget s.handler.noticeSeq n) ∧ t.linePort.noticeDrop = s.linePort.noticeDrop ∧ SameLine s t) ∧
    (29 ≤ s.linePort.own.length →
      t.linePort = { s.linePort with noticeDrop := inc s.linePort.noticeDrop }) ∧
    SameRest s t ∧ t.headPort = s.headPort ∧ t.heads = s.heads ∧ t.travel = s.travel ∧ t.strands = s.strands ∧
      t.routes = s.routes

/-! ### The Travel Unit and the strands -/

/-- A record of a puller moves its reference and is counted; one without a reference before, one of a puller that is not
driving, and one that does not move the count do nothing more. A jump adds no length and is counted and noticed, and a reversal
adds to the debt, which holds at 65,535 (R42 to R44). -/
def Obligations.TravelRecordJudged : Prop :=
  ∀ (s : State) (p : Puller) (count : Word32),
    let u := { s with travel := (s.travel.countRecord p).setRef p count }
    (s.travel.ref p = none → s.travelRecord p count = u) ∧
    (∀ ref, s.travel.ref p = some ref →
      let delta := (count - ref).toInt
      (s.travel.driving ≠ p → s.travelRecord p count = u) ∧
      (s.travel.driving = p →
        (delta = 0 → s.travelRecord p count = u) ∧
        (s.travel.config.maxStep < delta.natAbs → s.travelRecord p count =
          State.raise { u with travel := { u.travel with counters.jumps := inc u.travel.counters.jumps } }
            (.travelJump p count delta)) ∧
        (delta < 0 → delta.natAbs ≤ s.travel.config.maxStep → s.travelRecord p count =
          { u with travel := { u.travel with debt := min (s.travel.debt + delta.natAbs) 65535 } })))

/-- An advance pays the debt first; the effective count, scaled by num/den with the residue carried, adds to L, which holds at
2^40 − 1 (R45). The record is counted and becomes the reference (R42), and where L has risen the advance is an increase of L, which
acts as O23 says (R46); where L is unchanged nothing else happens. -/
def Obligations.AdvanceMovesLength : Prop :=
  ∀ (s : State) (p : Puller) (count ref : Word32) (d : Nat), s.travel.ref p = some ref → s.travel.driving = p →
    (count - ref).toInt = d → 0 < d → d ≤ s.travel.config.maxStep →
    let t := (s.travelRecord p count).travel
    let total := (d - s.travel.debt) * s.travel.config.num + s.travel.residue
    t.debt = s.travel.debt - d ∧
    (d ≤ s.travel.debt → t.length = s.travel.length ∧ t.residue = s.travel.residue) ∧
    (s.travel.debt < d → t.residue = total % s.travel.config.den ∧
      (s.travel.length < 1099511627775 →
        t.length = min (s.travel.length + total / s.travel.config.den) 1099511627775) ∧
      (1099511627775 ≤ s.travel.length → t.length = s.travel.length)) ∧
    let moved : Travel := { s.travel with
      refA := if p = .a then some count else s.travel.refA, refB := if p = .b then some count else s.travel.refB,
      debt := t.debt, length := t.length, residue := t.residue,
      counters := { s.travel.counters with
        recordsA := if p = .a then inc s.travel.counters.recordsA else s.travel.counters.recordsA,
        recordsB := if p = .b then inc s.travel.counters.recordsB else s.travel.counters.recordsB } }
    s.travelRecord p count =
      if s.travel.length < t.length then State.increase { s with travel := moved } else { s with travel := moved }

/-- An increase of L makes the motion MOVING, records its time and informs the strands, one after the other in increasing strand
number: those in ARMED, RUNNING or STALLED are RUNNING and apply the crossing rule, and the others are as they were. An increase
that takes L to its limit then sets the flag, raises LENGTH_LIMIT and ends the run of each in increasing strand number (R46, R48,
R53, R58). That LENGTH_LIMIT is raised before the runs end is the model's choice (entry 29): R48 does not order its list. -/
def Obligations.IncreaseInformsStrands : Prop :=
  ∀ s : State,
    let t := s.increase
    SameWorld s t ∧ t.now = s.now ∧
    t.travel = { s.travel with
      moving := true, lastAdvance := some s.now,
      limitReached := s.travel.limitReached || s.travel.length == 1099511627775 } ∧
    (∀ i, (s.strand i).state.live = false → t.strand i = s.strand i) ∧
    (s.travel.length < 1099511627775 ∨ s.travel.limitReached = true →
      ∀ i, (s.strand i).state.live = true → (t.strand i).state = .running) ∧
    (s.travel.length = 1099511627775 → s.travel.limitReached = false → ∀ i, (t.strand i).state.live = false) ∧
    (let told := [0, 1, 2, 3].foldl State.informStrand
      { s with travel := { s.travel with moving := true, lastAdvance := some s.now } }
     t = if s.travel.length = 1099511627775 ∧ s.travel.limitReached = false then
        [0, 1, 2, 3].foldl State.endRun
          (State.raise { told with travel := { told.travel with limitReached := true } } (.lengthLimit s.travel.length))
      else told) ∧
    ∀ i, s.informStrand i =
      if (s.strand i).state = .armed ∨ (s.strand i).state = .stalled then (s.changeStrand i .running).crossing i
      else if (s.strand i).state = .running then s.crossing i
      else s

/-- HANDOVER (R47): a value that is neither puller is counted; the driving puller's own changes nothing; another puller drives
from now on, with no debt, and everything else is kept. -/
def Obligations.HandoverChangesDriver : Prop :=
  ∀ (s : State) (code : Nat),
    (2 ≤ code → s.handover code =
      { s with travel := { s.travel with counters.handoverInvalid := inc s.travel.counters.handoverInvalid } }) ∧
    (∀ p : Puller, code = p.code →
      (s.travel.driving = p → s.handover code = s) ∧
      (s.travel.driving ≠ p → s.handover code =
        { s with travel := { s.travel with
          driving := p, debt := 0, counters.handovers := inc s.travel.counters.handovers } }))

/-- The state of a strand changes with one notice STRAND_STATE of the strand, its old and its new state, and a change to the state
that it has already is none and raises no notice (R57). The stall time passes after the last advance (R46): the motion is STILL, and exactly the RUNNING strands are STALLED, with
nothing else of them changed; each raises its notice, in increasing strand number. That the command moves the clock to that moment is the model's choice (entry 3). -/
def Obligations.StallTimeExpires : Prop :=
  (∀ (s : State) (i : Fin 4) (new : StrandState), let old := (s.strand i).state
    (old = new → s.changeStrand i new = s) ∧
    (old ≠ new → s.changeStrand i new =
      (s.modStrand i fun x => { x with state := new }).raise (.strandState i old new))) ∧
  ∀ (s : State) (a : Nat), s.travel.moving = true → s.travel.lastAdvance = some a →
    ∃ t, exec .stallTimeExpiry s = .next t ∧ t.now = max s.now (a + 1000 * s.travel.config.stallTime) ∧
      t.travel = { s.travel with moving := false } ∧
      (∀ i, t.strand i =
        if (s.strand i).state = .running then { s.strand i with state := .stalled } else s.strand i) ∧
      t.heads = s.heads ∧ t.headPort = s.headPort ∧ SameWorld s t ∧
      t = [(0 : Fin 4), 1, 2, 3].foldl
        (fun v i => if (v.strand i).state = .running then
            (v.modStrand i fun x => { x with state := .stalled }).raise (.strandState i .running .stalled)
          else v)
        { s with
          now := max s.now (a + 1000 * s.travel.config.stallTime), travel := { s.travel with moving := false } }

/-- The crossing rule (R58), run by an increase that informs a strand in ARMED, RUNNING or STALLED: an index not above the last
triggered one does nothing more; a new crossing is withheld while the guard has not passed, and else its trigger is issued. A
TRIGGER joins the Head Port's queue, or is dropped at a full one (R14). The set of an issued trigger joins the list (R65); in a
full list the oldest set is forced READY and released where the engine is FREE, and the new set is refused where it is not
(R66): its misses come first, in slot order (entry 11), and then the release rule, as O30 and O31 state them. The head mask holds a head, and the expected slots a slot, exactly where a slot of the strand names a head that is ONLINE
(R59, R65). That a transmitter which sends idle symbols takes the TRIGGER within the same command is the model's deduction (entry
22). -/
def Obligations.CrossingRule : Prop :=
  (∀ (s : State) (i : Fin 4),
    (∀ h : Fin 16, (s.headMask i).getLsbD h.val = true ↔
      (s.head h).state = .online ∧ ∃ k : Fin 6, (s.strand i).slots[k] = some h) ∧
    ∀ k : Fin 6, (s.onlineSlots i).getLsbD k.val = true ↔
      ∃ h : Fin 16, (s.strand i).slots[k] = some h ∧ (s.head h).state = .online) ∧
  (∀ (s : State) (i : Fin 4), (s.strand i).state.live = true →
    let u := if (s.strand i).state = .running then s else s.changeStrand i .running
    let k := s.ell i / (s.strand i).params.pitch
    let v := u.modStrand i fun st => { st with sliceIndex := k }
    (∀ l, (s.strand i).lastTriggered = some l → k ≤ l → s.informStrand i = v) ∧
    ((∀ l, (s.strand i).lastTriggered = some l → l < k) →
      (∀ m, (s.strand i).lastTriggerTime = some m → s.now < m + (s.strand i).params.triggerGuard →
        s.informStrand i = v.modStrand i fun st =>
          { st with lastTriggered := some k, counters.triggerWithheld := inc st.counters.triggerWithheld }) ∧
      ((∀ m, (s.strand i).lastTriggerTime = some m → m + (s.strand i).params.triggerGuard ≤ s.now) →
        s.informStrand i =
          (State.enqueueTrigger (v.modStrand i fun st =>
            { st with
              lastTriggered := some k, lastTriggerTime := some s.now,
              counters.triggersIssued := inc st.counters.triggersIssued })
            (.trigger i k (s.headMask i))).openSet i k (s.onlineSlots i)))) ∧
  (∀ (p : HeadPort) (f : HeadFrame),
    (p.own.length < 8 → Joined p f (p.enqueueTrigger f)) ∧
    (8 ≤ p.own.length → p.enqueueTrigger f = { p with triggerDrop := inc p.triggerDrop })) ∧
  (∀ (s : State) (i : Fin 4) (k : Nat) (expected : BitVec 6),
    let st := s.strand i
    let fresh : SliceSet :=
      { slice := k, openTime := s.now, deadline := s.now + st.params.scanWait, expected := expected,
        scans := Vector.replicate 6 none, ready := false }
    let t := s.openSet i k expected
    (st.sets.length < 8 → t = s.modStrand i fun a =>
      { a with sets := a.sets ++ [fresh], asmCounters.setsOpened := inc a.asmCounters.setsOpened }) ∧
    (∀ x rest, st.sets = x :: rest → st.sets.length = 8 → (∀ y ∈ rest, y.slice ≠ x.slice) →
      let count := st.asmCounters
      let forced := if x.ready then count.forcedClose else inc count.forcedClose
      SameWorld s t ∧ t.now = s.now ∧ OtherStrands s t i ∧ t.travel = s.travel ∧ t.headPort = s.headPort ∧
      (∀ h, MissesReported s h (if x.ready then 0 else missesOf st x h) (t.head h)) ∧
      (st.eval ≠ none → (t.strand i).sets = { x with ready := true } :: rest ∧ (t.strand i).eval = st.eval ∧
        (t.strand i).asmCounters = { count with forcedClose := forced, setRefused := inc count.setRefused }) ∧
      (st.eval = none → (t.strand i).sets = rest ++ [fresh] ∧
        (∃ ev, (t.strand i).eval = some ev ∧ ev.set = { x with ready := true }) ∧
        (t.strand i).asmCounters = { count with
          forcedClose := forced, slicesReleased := inc count.slicesReleased, setsOpened := inc count.setsOpened }) ∧
      let missed := fun (v : State) (k : Fin 6) =>
        match st.slots[k] with
        | some h => if x.expected.getLsbD k.val = true ∧ x.scans[k] = none then v.reportMiss h else v
        | none => v
      let released := State.releaseRule (if x.ready then s else
        [(0 : Fin 6), 1, 2, 3, 4, 5].foldl missed (s.modStrand i fun a =>
          { a with sets := { x with ready := true } :: rest, asmCounters.forcedClose := inc a.asmCounters.forcedClose })) i
      t = released.modStrand i fun a =>
        if st.eval = none then
          { a with sets := a.sets ++ [fresh], asmCounters.setsOpened := inc a.asmCounters.setsOpened }
        else { a with asmCounters.setRefused := inc a.asmCounters.setRefused }))

/-- A strand that takes a press notice acts on its kind (R61): PRESS_STOP and BILLET_CHANGE give marks at the point that passes
the inspection plane later by the plane offset, BILLET_CHANGE fixes the length of a pending switch that has none, PRESS_RUN is
only counted, RUN_END ends the run as STRAND_STOP does, which O56 states (R54). A strand in IDLE, DRAINING or CLOSED takes none (R60). A mark is counted and advised, is
applied to the runs where it begins behind the front, and joins the queue of 4 marks where it ends beyond the front: alone,
merged with the last mark where it meets it, or widening the last mark of a full queue, which alone is counted MARK_MERGED (R127,
R128, R132). Advice covers the
stretch widened by the margin, from the retired point on; at a full Line Port it is held, and a third record pushes the oldest
out (R148, R149). The notice is taken by the strands one after the other in increasing strand number, each with its own strand
length; a kind outside the four of R167 counts PRESS_UNKNOWN and changes nothing else (R60). -/
def Obligations.PressNoticeTaken : Prop :=
  (∀ s : State,
    let taken := fun k : PressKind => State.takePress k (State.takePress k (State.takePress k (State.takePress k s 0) 1) 2) 3
    s.pressNotice 0 = taken .pressStop ∧ s.pressNotice 1 = taken .billetChange ∧ s.pressNotice 2 = taken .pressRun ∧
      s.pressNotice 3 = taken .runEnd ∧ ∀ code, 4 ≤ code → s.pressNotice code = { s with pressUnknown := inc s.pressUnknown }) ∧
  (∀ (s : State) (i : Fin 4),
    let st := s.strand i
    let x := s.ell i + st.params.planeOffset
    (st.state.live = false → ∀ k, State.takePress k s i = s) ∧
    (st.state.live = true →
      State.takePress .pressStop s i =
        (s.modStrand i fun a => { a with counters.pressStopTaken := inc a.counters.pressStopTaken }).giveMark i
          { kind := .stopMark, start := x,
            stop := x + if st.params.stopMarkLength = 0 then 1 else st.params.stopMarkLength } ∧
      (let counted := s.modStrand i fun a => { a with counters.billetChangeTaken := inc a.counters.billetChangeTaken }
       let marked := if st.params.weldLength = 0 then counted
         else counted.giveMark i { kind := .weldZone, start := x, stop := x + st.params.weldLength }
       let t := State.takePress .billetChange s i
       t = (marked.modStrand i fun a =>
          { a with pendingSwitch := a.pendingSwitch.map fun p =>
              { p with switchLength := some (match p.switchLength with | some n => n | none => x) } }) ∧
       (∀ p, st.pendingSwitch = some p → ∃ q, (t.strand i).pendingSwitch = some q ∧ q.target = p.target ∧
          (p.switchLength = none → q.switchLength = some x) ∧ (∀ n, p.switchLength = some n → q.switchLength = some n)) ∧
        (st.pendingSwitch = none → (t.strand i).pendingSwitch = none) ∧
        (st.params.weldLength = 0 → (t.strand i).marks = st.marks ∧ (t.strand i).runs = st.runs) ∧
        (st.params.weldLength ≠ 0 → (t.strand i).mapCounters.marksMade = inc st.mapCounters.marksMade) ∧
        (t.strand i).counters = { st.counters with billetChangeTaken := inc st.counters.billetChangeTaken } ∧
        OtherStrands s t i ∧ t.heads = s.heads ∧ t.travel = s.travel ∧ t.headPort = s.headPort ∧ SameWorld s t) ∧
      State.takePress .pressRun s i =
        (s.modStrand i fun a => { a with counters.pressRunTaken := inc a.counters.pressRunTaken }) ∧
      (let t := State.takePress .runEnd s i
       t = (s.modStrand i fun a => { a with counters.runEndTaken := inc a.counters.runEndTaken }).endRun i ∧
         (t.strand i).state.live = false ∧
         (t.strand i).counters = { st.counters with runEndTaken := inc st.counters.runEndTaken } ∧
         OtherStrands s t i ∧ t.travel = s.travel ∧ t.headPort = s.headPort ∧ SameWorld s t))) ∧
  (∀ (s : State) (i : Fin 4) (m : Mark),
    let st := s.strand i
    let advised := s.issueAdvice i (if m.kind = .stopMark then .stop else .weld)
      (if m.kind = .stopMark then .stopMark else .weldZone) m.start m.stop
    let t := s.giveMark i m
    SameWorld s t ∧ t.now = s.now ∧ t.heads = s.heads ∧ t.travel = s.travel ∧ t.headPort = s.headPort ∧
    OtherStrands s t i ∧ (t.strand i).mapCounters.marksMade = inc st.mapCounters.marksMade ∧
    (st.front ≤ m.start → t.linePort = advised.linePort ∧ (t.strand i).held = (advised.strand i).held ∧
      (t.strand i).runs = st.runs ∧ (t.strand i).settle = st.settle) ∧
    (t =
      let given := advised.modStrand i fun a => { a with mapCounters.marksMade := inc a.mapCounters.marksMade }
      let u := if m.start < st.front then given.applyBack i m else given
      if m.stop ≤ st.front then u
      else u.modStrand i fun a =>
        { a with marks := (t.strand i).marks, mapCounters.markMerged := (t.strand i).mapCounters.markMerged }) ∧
    (m.stop ≤ st.front → (t.strand i).marks = st.marks) ∧
    (m.stop ≤ st.front ∨ st.marks.length < 4 ∨ (∃ before l, st.marks = before ++ [l] ∧ m.start ≤ l.stop) →
      (t.strand i).mapCounters.markMerged = st.mapCounters.markMerged) ∧
    (st.front < m.stop →
      (st.marks = [] → (t.strand i).marks = [m]) ∧
      (∀ before l, st.marks = before ++ [l] →
        let worse : MarkKind := if l.kind = .weldZone ∨ m.kind = .weldZone then .weldZone else .stopMark
        (m.start ≤ l.stop → (t.strand i).marks = before ++ [{ l with stop := max l.stop m.stop, kind := worse }]) ∧
        (l.stop < m.start → st.marks.length < 4 → (t.strand i).marks = st.marks ++ [m]) ∧
        (l.stop < m.start → 4 ≤ st.marks.length →
          (t.strand i).marks = before ++ [{ l with stop := m.stop, kind := worse }] ∧
          (t.strand i).mapCounters.markMerged = inc st.mapCounters.markMerged)))) ∧
  (∀ (s : State) (i : Fin 4) (kind : AdviceKind) (cls : ConditionClass) (start stop : Nat),
    let st := s.strand i
    let margin := st.activeBank.header.adviceMargin
    let lo := max (start - margin) st.retired
    let a : Advice := { strand := i, kind := kind, cls := cls, lo := lo, hi := max lo (stop + margin) }
    let t := s.issueAdvice i kind cls start stop
    let issued := inc st.pieceCounters.adviceIssued
    SameWorld s t ∧ t.now = s.now ∧ t.heads = s.heads ∧ t.travel = s.travel ∧ t.headPort = s.headPort ∧
    OtherStrands s t i ∧
    (s.linePort.own.length < 32 → Entered s (.advice a) t.linePort ∧ t.latestRecord = some (.advice a) ∧
      t.strand i = { st with pieceCounters.adviceIssued := issued }) ∧
    (32 ≤ s.linePort.own.length → t.linePort = s.linePort ∧
      (st.held.length < 2 → t.strand i = { st with held := st.held ++ [a], pieceCounters.adviceIssued := issued }) ∧
      (2 ≤ st.held.length → t.strand i = { st with
        held := st.held.tail ++ [a],
        pieceCounters := { st.pieceCounters with
          adviceIssued := issued, adviceLost := inc st.pieceCounters.adviceLost } })))

/-! ### Slice assembly and evaluation -/

/-- A scan is judged in the order of R67 to R69; a discarded scan changes nothing but the counter of its reason and the head's
SCANS_DISCARDED (R70). A SCAN carries its strand in byte 0, its slice index in bytes 1 to 4, eleven bytes of head data that are
not read, and from byte 16 on its samples of two bytes each, all with the most significant byte first (R165, R167). -/
def Obligations.ScanDiscarded : Prop :=
  (∀ (strand k3 k2 k1 k0 : Byte) (data : List Byte) (samples : List (BitVec 16)), data.length = 11 →
    let p := [strand, k3, k2, k1, k0] ++ data ++ samples.flatMap fun x => [x.extractLsb' 8 8, x.extractLsb' 0 8]
    beNat (p.take 1) = strand.toNat ∧
    scanSlice p = ((k3.toNat * 256 + k2.toNat) * 256 + k1.toNat) * 256 + k0.toNat ∧ scanSamples p = samples ∧
    p.length = 16 + 2 * samples.length) ∧
  ∀ (s : State) (h : Fin 16) (p : List Byte),
    let r := s.head h
    let serves := fun (i : Fin 4) (t : Fin 6) =>
      (r.state = .online ∨ r.state = .silent) ∧ r.assignment = some (i, t) ∧ beNat (p.take 1) = i
    let fits := ∃ a, r.announced = some a ∧ a.width = (scanSamples p).length
    let discarded := fun c : ScanCounters =>
      s.scan h p = ({ s with scans := c } : State).modHead h fun x =>
        { x with counters := { x.counters with scansDiscarded := inc x.counters.scansDiscarded } }
    ((∀ i t, ¬serves i t) → discarded { s.scans with stray := inc s.scans.stray }) ∧
    (∀ i t, serves i t →
      (¬fits → discarded { s.scans with malformed := inc s.scans.malformed }) ∧
      (fits →
        ((∀ x ∈ (s.strand i).sets, x.slice = scanSlice p → x.ready = true) →
          discarded { s.scans with late := inc s.scans.late }) ∧
        (∀ x, (s.strand i).openSet (scanSlice p) = some x →
          (x.scans[t] ≠ none → discarded { s.scans with duplicate := inc s.scans.duplicate }) ∧
          (x.scans[t] = none → s.buffersFree = 0 → discarded { s.scans with noBuffer := inc s.scans.noBuffer }))))

/-- A scan that passes the checks fills a buffer with the head's conventions of this moment, held at the head's slot of the set,
and clears the head's counts; a SILENT head is ONLINE again. The return of a SILENT head is noticed, and no
other notice is raised. Where another expected slot is still missing, or none is expected, nothing else happens. Where every
expected slot has now been received the set becomes READY, SETS_COMPLETED is counted, and the release rule, as O31 states it, runs
(R64, R69, R70, R71, R33, R74). The slice index and the samples of a SCAN are read as O28 states (R167). That the head is told before the set is checked is the model's deduction (entry 12). -/
def Obligations.ScanAccepted : Prop :=
  ∀ (s : State) (h : Fin 16) (p : List Byte) (i : Fin 4) (t : Fin 6) (a : Announced) (x : SliceSet),
    (s.head h).state = .online ∨ (s.head h).state = .silent → (s.head h).assignment = some (i, t) →
    beNat (p.take 1) = i → (s.head h).announced = some a → a.width = (scanSamples p).length →
    (s.strand i).openSet (scanSlice p) = some x → x.scans[t] = none → s.buffersFree ≠ 0 →
    (∀ y ∈ (s.strand i).sets, y.slice = scanSlice p → y = x) →
    let b : Buffer :=
      { head := h, slot := t, samples := scanSamples p, order := a.order, sign := a.sign, scaleCode := a.scaleCode }
    let filled := { x with scans := x.scans.set t (some b) }
    let u := s.scan h p
    (u.head h).state = .online ∧ (u.head h).checkErrors = 0 ∧ (u.head h).misses = 0 ∧
    (u.head h).counters = { (s.head h).counters with scansAccepted := inc (s.head h).counters.scansAccepted } ∧
    SameWorld s u ∧ u.now = s.now ∧ u.travel = s.travel ∧ u.headPort = s.headPort ∧ OtherStrands s u i ∧
    (x.expected = 0 ∨ filled.allReceived = false →
      u.strand i = { s.strand i with sets := (s.strand i).sets.map fun y => if y = x then filled else y } ∧
      OtherHeads s u h) ∧
    (x.expected ≠ 0 → filled.allReceived = true →
      (u.strand i).asmCounters.setsCompleted = inc (s.strand i).asmCounters.setsCompleted) ∧
    let put := fun (z : SliceSet) (a : Strand) => { a with sets := a.sets.map fun y => if y = x then z else y }
    let told := fun v : State => v.setHead h { s.head h with
      state := .online, checkErrors := 0, misses := 0,
      counters := { (s.head h).counters with scansAccepted := inc (s.head h).counters.scansAccepted } }
    let noticed := fun v : State => if (s.head h).state = .silent then
      (told v).raise (.headState h .silent .online none) else told v
    (x.expected = 0 ∨ filled.allReceived = false → u = noticed (s.modStrand i (put filled)) ∧
      ((s.head h).state = .online → NoNotice s u)) ∧
    (x.expected ≠ 0 → filled.allReceived = true →
      let ready := (s.strand i).sets.map fun y => if y = x then { filled with ready := true } else y
      u = (noticed (s.modStrand i fun a =>
        { put { filled with ready := true } a with
          asmCounters := { a.asmCounters with setsCompleted := inc a.asmCounters.setsCompleted } })).releaseRule i ∧
      ((s.strand i).eval ≠ none → (u.strand i).sets = ready ∧ (u.strand i).eval = (s.strand i).eval) ∧
      ∀ y rest, (s.strand i).eval = none → ready = y :: rest →
        (y.ready = true → (u.strand i).sets = rest ∧ ∃ ev, (u.strand i).eval = some ev ∧ ev.set = y) ∧
        (y.ready = false → (u.strand i).sets = ready ∧ (u.strand i).eval = none))

/-- The deadline of a strand's oldest OPEN set passes (R72): the set is READY, and is released where it is the oldest of the
list and the engine is FREE; each expected slot that was not received is a miss of its head. A miss raises the count of a head in
service, and an ONLINE head whose count reaches the miss limit of its strand is SILENT, with a notice HEAD_STATE from ONLINE to SILENT (R34, R37).
The misses are reported in slot order, which is the model's choice (entry 11), and the release rule follows. That the command moves the clock to
the deadline is the model's choice (entry 3). -/
def Obligations.ScanWaitExpires : Prop :=
  (∀ (s : State) (h : Fin 16), let r := s.head h
    let count := min (r.misses + 1) 255
    let counters := { r.counters with misses := inc r.counters.misses }
    let reached := ∃ i k, r.assignment = some (i, k) ∧ (s.strand i).params.missLimit ≤ count
    let t := s.reportMiss h
    (r.state = .online → reached → t =
      (s.setHead h { r with
        state := .silent, misses := count, counters := { counters with silences := inc r.counters.silences } }).raise
        (.headState h .online .silent none)) ∧
    (r.state = .online ∧ ¬reached ∨ r.state = .silent → t = s.setHead h { r with misses := count, counters := counters }) ∧
    (r.state ≠ .online → r.state ≠ .silent → t = s.setHead h { r with counters := counters })) ∧
  ∀ (s : State) (i : Fin 4) (x : SliceSet), (s.strand i).oldestOpen = some x →
    (∀ y ∈ (s.strand i).sets, y.slice = x.slice → y = x) →
    ∃ t, exec (.scanWaitExpiry i) s = .next t ∧ t.now = max s.now x.deadline ∧
      (t.strand i).asmCounters.setsTimedOut = inc (s.strand i).asmCounters.setsTimedOut ∧ OtherStrands s t i ∧
      t.travel = s.travel ∧ t.headPort = s.headPort ∧ SameWorld s t ∧
      (let ready := (s.strand i).sets.map fun y => if y = x then { x with ready := true } else y
       ((s.strand i).eval ≠ none → (t.strand i).sets = ready ∧ (t.strand i).eval = (s.strand i).eval) ∧
       (∀ y rest, (s.strand i).eval = none → ready = y :: rest →
         (y.ready = true → (t.strand i).sets = rest ∧ ∃ ev, (t.strand i).eval = some ev ∧ ev.set = y) ∧
         (y.ready = false → (t.strand i).sets = ready ∧ (t.strand i).eval = none))) ∧
      (∀ h, MissesReported s h (missesOf (s.strand i) x h) (t.head h)) ∧
      t = State.releaseRule ([(0 : Fin 6), 1, 2, 3, 4, 5].foldl
        (fun v k =>
          match (s.strand i).slots[k] with
          | some h => if x.expected.getLsbD k.val = true ∧ x.scans[k] = none then v.reportMiss h else v
          | none => v)
        (State.modStrand { s with now := max s.now x.deadline } i fun a =>
          { a with
            sets := a.sets.map fun y => if y = x then { x with ready := true } else y,
            asmCounters := { a.asmCounters with setsTimedOut := inc a.asmCounters.setsTimedOut } })) i

/-- The evaluation in flight completes (R101, R75): its result is the last result record and is counted, and the next READY set
of the list, if there is one, is evaluated. INSTANCES_VOID and SAMPLES_CLIPPED count
(R118). The filters take the trends of the judged instances, and then those of the pending unseed slots are unseeded (R102, R110).
The slice with its evaluated class, cause and area is handed to the Length Map with the skipped indices before it, as O36 states;
the last released index and the front move, the marks that the front has passed leave, and the close check, the release rule and
the check of a DRAINING strand follow, as O39, the last clause here and O56 state. Unless the strand is DRAINING, the slice is the
last released one and the front is its end. An evaluation begins where the oldest set is READY and the engine is FREE (R74): a pending switch whose length the
slice's start has reached is taken first, which unseeds the filters, re-evaluates the mismatch flags of the strand's heads and
is noticed (R95, R96); then the bank, the flags and the offsets are fixed as they stand (R100). The moment `began` that the
evaluation holds is the model's own field (entry 2). -/
def Obligations.EvaluationCompletes : Prop :=
  (∀ (s : State) (i : Fin 4) (ev : Evaluation), (s.strand i).eval = some ev → (s.strand i).state.live = true ∨
      (s.strand i).state = .draining →
    ∃ t, exec (.evaluationComplete i) s = .next t ∧ (t.strand i).last = some ((s.strand i).evaluate ev) ∧
      (t.strand i).engCounters.slicesEvaluated = inc (s.strand i).engCounters.slicesEvaluated ∧ (t.strand i).unseed = 0 ∧
      OtherStrands s t i ∧ t.travel = s.travel ∧ t.headPort = s.headPort ∧ SameWorld s t ∧ t.now = s.now ∧
      ((s.strand i).state ≠ .draining →
        (t.strand i).state = (s.strand i).state ∧ (t.strand i).lastReleased = some ev.set.slice ∧
        (t.strand i).front = (ev.set.slice + 1) * (s.strand i).params.pitch) ∧
      (∀ x rest, (s.strand i).sets = x :: rest →
        (x.ready = true → (t.strand i).sets = rest ∧ ∃ next, (t.strand i).eval = some next ∧ next.set = x) ∧
        (x.ready = false → (t.strand i).sets = (s.strand i).sets ∧ (t.strand i).eval = none)) ∧
      ((s.strand i).sets = [] → (t.strand i).eval = none ∧
        ((s.strand i).state = .draining → (t.strand i).state = .closed ∨ (t.strand i).state = .idle)) ∧
      let st := s.strand i
      let js := ev.judgeAll (st.bank ev.bank) (st.bank ev.bank).placements st.filters.toList
      let result := st.evaluate ev
      let counters := { st.engCounters with
        slicesEvaluated := inc st.engCounters.slicesEvaluated,
        instancesVoid := satAdd st.engCounters.instancesVoid (js.countP Option.isNone),
        samplesClipped := satAdd st.engCounters.samplesClipped
          ((js.filterMap id).map fun j => j.stats.clipped).sum }
      let stop := (ev.set.slice + 1) * st.params.pitch
      (t.strand i).engCounters = counters ∧
      ∃ filters : Vector (Option Int) 256,
        (∀ n : Fin 256,
          let trend := match js[n.val]? with | some (some j) => some j.trend | _ => st.filters[n]
          filters[n] = match st.activeBank.placements[n.val]? with
            | some p => if st.unseed.getLsbD p.entry.geo.slot = true then none else trend
            | none => trend) ∧
        let written := s.modStrand i fun a =>
          { a with filters := filters, last := some result, engCounters := counters, unseed := 0, eval := none }
        let handed := written.handOver i
          { slice := ev.set.slice, cls := result.cls, cause := result.cause, area := result.area }
        let moved := handed.modStrand i fun a =>
          { a with
            lastReleased := some ev.set.slice, front := stop, marks := a.marks.filter fun m => stop < m.stop }
        t = ((moved.closeCheck i).releaseRule i).drainCheck i ∧
        (st.pendingSwitch = none → (t.strand i).filters = filters) ∧
        (st.state ≠ .draining → st.cuts = [] → (t.strand i).runs = (handed.strand i).runs ∧
          (t.strand i).settle = (handed.strand i).settle) ∧
        (st.state = .draining → st.sets = [] → t = (moved.closeCheck i).leaveDraining i)) ∧
  (∀ (s : State) (i : Fin 4),
    let st := s.strand i
    let t := s.releaseRule i
    ((st.sets = [] ∨ (∃ x rest, st.sets = x :: rest ∧ x.ready = false) ∨ st.eval ≠ none) → t = s) ∧
    (∀ x rest, st.sets = x :: rest → x.ready = true → st.eval = none →
      SameWorld s t ∧ t.now = s.now ∧ OtherStrands s t i ∧ t.travel = s.travel ∧ t.headPort = s.headPort ∧
      (t.strand i).sets = rest ∧
      (t.strand i).asmCounters = { st.asmCounters with slicesReleased := inc st.asmCounters.slicesReleased } ∧
      (∃ ev, (t.strand i).eval = some ev ∧ ev.set = x ∧ ev.bank = (t.strand i).active ∧ ev.began = s.now ∧
        ∀ k : Fin 6,
          (hasSlot ev.mismatch k = match st.slots[k] with | some h => (t.head h).mismatch | none => false) ∧
          (ev.offsets[k] = match st.slots[k] with | some h => (s.head h).offset | none => 0)) ∧
      (∀ p n, st.pendingSwitch = some p → p.switchLength = some n → n ≤ x.slice * st.params.pitch →
        let bank := st.bank st.active.other
        (t.strand i).active = st.active.other ∧ (t.strand i).pendingSwitch = none ∧
        (t.strand i).filters = Vector.replicate 256 none ∧
        (t.strand i).tplCounters = { st.tplCounters with bankSwitches := inc st.tplCounters.bankSwitches } ∧
        (∀ h : Fin 16, t.head h = { s.head h with
          mismatch := match (s.head h).assignment, (s.head h).announced with
            | some (j, k), some a => if j = i then a.width != bank.header.widths[k] else (s.head h).mismatch
            | some (j, _), none => if j = i then false else (s.head h).mismatch
            | none, _ => (s.head h).mismatch }) ∧
        t.handler.noticeSeq = s.handler.noticeSeq + 1 ∧
        t.linePort = (s.raise (.bankTaken i st.active.other bank.generation (some n) (some x.slice))).linePort ∧
        (s.linePort.own.length ≤ 28 → t.latestRecord = some (.notice s.handler.noticeTarget s.handler.noticeSeq
          (.bankTaken i st.active.other bank.generation (some n) (some x.slice))))) ∧
      ((∀ p n, st.pendingSwitch = some p → p.switchLength = some n → x.slice * st.params.pitch < n) →
        (t.strand i).active = st.active ∧ (t.strand i).pendingSwitch = st.pendingSwitch ∧
        (t.strand i).filters = st.filters ∧ (t.strand i).tplCounters = st.tplCounters ∧ t.heads = s.heads ∧
        t.linePort = s.linePort ∧ t.handler = s.handler)))

/-- The mean is the exact mean rounded to the nearest micrometre with halves away from zero, and lies between the least and the
greatest deviation (R108). A trend filter is seeded with its first target, and a later target moves T by the floor of
(Δ + 2^(k−1)) / 2^k, Δ the target less T: T lies between its old value and the target, and so within any range that holds the
targets taken (R110). An instance is VOID where its slot gives no usable
buffer (R104) or too few of its samples are valid (R108), and its filter is then as it was (R109, R110). The window is read in
normalised order (R106): its statistics are those of R107, a VOID sample is not counted and ends a run, and a CLIPPED one is out
of band whatever its deviation (R105). -/
def Obligations.MeanAndTrendInRange : Prop :=
  (∀ (es : List Int) (lo hi : Int), es ≠ [] → (∀ e ∈ es, lo ≤ e ∧ e ≤ hi) →
    let n : Int := es.length
    let m := meanOf es.sum es.length
    2 * (es.sum - n * m) ≤ n ∧ -n ≤ 2 * (es.sum - n * m) ∧
      (2 * (es.sum - n * m) = n → es.sum < 0) ∧ (2 * (es.sum - n * m) = -n → 0 < es.sum) ∧ lo ≤ m ∧ m ≤ hi) ∧
  (∀ (k : Nat) (lo hi : Int), 1 ≤ k → ∀ means : List Int, means ≠ [] → (∀ m ∈ means, lo ≤ m * 256 ∧ m * 256 ≤ hi) →
    ∃ t, means.foldl (fun f m => some (trendAfter f k m)) none = some t ∧ lo ≤ t ∧ t ≤ hi) ∧
  (∀ (k : Nat) (t mean : Int), 1 ≤ k → trendAfter none k mean = mean * 256 ∧
    min t (mean * 256) ≤ trendAfter (some t) k mean ∧ trendAfter (some t) k mean ≤ max t (mean * 256) ∧
    let half := mean * 256 - t + 2 ^ (k - 1)
    let moved := half / 2 ^ k
    trendAfter (some t) k mean = t + moved ∧ moved * 2 ^ k ≤ half ∧ half < (moved + 1) * 2 ^ k) ∧
  (∀ (ev : Evaluation) (bank : Bank) (p : Placement) (t : Fin 6) (filter : Option Int), p.entry.geo.slot = t →
    ((ev.set.scans[t] = none ∨ hasSlot ev.mismatch t = true ∨
        ∃ b, ev.set.scans[t] = some b ∧ b.samples.length ≠ bank.header.widths[t]) →
      ev.judge bank p filter = none) ∧
    (∀ b, ev.set.scans[t] = some b → hasSlot ev.mismatch t = false → b.samples.length = bank.header.widths[t] →
      let w := p.stats b ev.offsets[t]
      let mean := meanOf w.sum w.n
      let trend := trendAfter filter p.entry.tol.smoothing mean
      (w.n < p.entry.geo.minValid → ev.judge bank p filter = none) ∧
      (p.entry.geo.minValid ≤ w.n → ev.judge bank p filter = some
        { placement := p, stats := w, mean := mean, trend := trend, verdict := verdictOf p.entry mean w.longest trend,
          excess := excessOf p.entry.tol mean }))) ∧
  (∀ (js : List (Option Judged)) (fs : List (Option Int)) (n : Nat), js.length ≤ fs.length →
    (filtersAfter js fs)[n]? = match js[n]? with | some (some j) => some (some j.trend) | _ => fs[n]?) ∧
  (∀ (p : Placement) (b : Buffer) (offset q : Int), [1, 2, 4, 5, 8, 10, 16, 20][b.scaleCode]? = some q →
    p.first ≤ p.last → p.last < b.samples.length →
    let sent := b.samples.map BitVec.toInt
    let raw := ((if b.order = .forward then sent else sent.reverse).drop p.first).take (p.last + 1 - p.first)
    let valid := raw.filter fun r => r != -32768
    let dev := fun r : Int => (if b.sign = .up then r else -r) * q + offset - p.entry.geo.nominal
    let clipped := fun r : Int => r == 32767 || r == -32767
    let out := fun r : Int =>
      r != -32768 && (clipped r || decide (dev r < p.entry.tol.lower) || decide (p.entry.tol.upper < dev r))
    let w := p.stats b offset
    raw.length = p.last + 1 - p.first ∧ w.n = valid.length ∧ w.sum = (valid.map dev).sum ∧ w.outOfBand = raw.countP out ∧
    w.clipped = raw.countP clipped ∧
    (∀ l m n, raw = l ++ m ++ n → (∀ r ∈ m, out r = true) → m.length ≤ w.longest) ∧
    (∃ l m n, raw = l ++ m ++ n ∧ (∀ r ∈ m, out r = true) ∧ m.length = w.longest) ∧
    (valid = [] → w.peak = none) ∧
    (valid ≠ [] → ∃ l r n, valid = l ++ r :: n ∧ w.peak = some (dev r) ∧
      (∀ x ∈ l, (dev x).natAbs < (dev r).natAbs) ∧ ∀ x ∈ n, (dev x).natAbs ≤ (dev r).natAbs))

/-- The signed excess is m − Ut above the band, m − Lt below it and 0 inside; it is nonzero exactly when the verdict is
DIMENSION, and its magnitude is at most 2,655,340 (R112). The verdict is the worst that applies: DIMENSION for a mean outside
the band; else SURFACE for a longest run that reaches the surface width; else DRIFT for w > 0 and a T outside the warn limits;
else SOUND (R111). The warn limits are at most 25,600,000 in magnitude, and are the tolerance times 256 for w = 16. With
Lt = Ut = 0 every nonzero mean is DIMENSION, and for w > 0 every T but 0 meets the condition of DRIFT (R111). An instance that is
not VOID has this verdict and this excess, by its mean, its longest run and its filter after the update of R110. -/
def Obligations.ExcessIffDimension : Prop :=
  (∀ (ev : Evaluation) (b : Bank) (p : Placement) (filter : Option Int) (j : Judged), ev.judge b p filter = some j →
    j.trend = trendAfter filter p.entry.tol.smoothing j.mean ∧
    j.verdict = verdictOf p.entry j.mean j.stats.longest j.trend ∧ j.excess = excessOf p.entry.tol j.mean) ∧
  ∀ (e : GaugeEntry) (mean trend : Int) (longest : Nat), e.tol.lower ≤ 0 → 0 ≤ e.tol.upper →
    (e.tol.upper < mean → excessOf e.tol mean = mean - e.tol.upper) ∧
    (mean < e.tol.lower → excessOf e.tol mean = mean - e.tol.lower) ∧
    (e.tol.lower ≤ mean → mean ≤ e.tol.upper → excessOf e.tol mean = 0) ∧
    (excessOf e.tol mean ≠ 0 ↔ verdictOf e mean longest trend = .dimension) ∧
    (mean.natAbs ≤ 2655340 → (excessOf e.tol mean).natAbs ≤ 2655340) ∧
    let outside := mean < e.tol.lower ∨ e.tol.upper < mean
    let long := e.geo.surfaceWidth ≤ longest
    let drifts := 0 < e.tol.warn ∧
      (e.tol.upper * e.tol.warn * 16 < trend ∨ trend < e.tol.lower * e.tol.warn * 16)
    let v := verdictOf e mean longest trend
    (v = .dimension ↔ outside) ∧ (v = .surface ↔ ¬outside ∧ long) ∧ (v = .drift ↔ ¬outside ∧ ¬long ∧ drifts) ∧
      (v = .sound ↔ ¬outside ∧ ¬long ∧ ¬drifts) ∧
      (-100000 ≤ e.tol.lower → e.tol.upper ≤ 100000 → e.tol.warn ≤ 16 →
        (e.tol.upper * e.tol.warn * 16).natAbs ≤ 25600000 ∧ (e.tol.lower * e.tol.warn * 16).natAbs ≤ 25600000) ∧
      (e.tol.warn = 16 →
        e.tol.upper * e.tol.warn * 16 = e.tol.upper * 256 ∧ e.tol.lower * e.tol.warn * 16 = e.tol.lower * 256) ∧
      (e.tol.warn = 0 → v ≠ .drift) ∧
      (e.tol.lower = 0 → e.tol.upper = 0 →
        (mean ≠ 0 → v = .dimension) ∧ (0 < e.tol.warn → (drifts ↔ trend ≠ 0)))

/-- The result of a slice (R113 to R117). A mark that meets it gives its class and cause. Else its class is the worst verdict,
raised to UNSEEN, without a cause, where more instances are VOID than the bank allows and the verdicts are below UNSEEN; and its
cause is the label of the first instance with that verdict. The cause instance is that instance, with its number, n, m, x, longest
run, peak and T. The area is the sum of the excesses of the instances that are not VOID, and stays within 679,767,040; each of the
five counts is the number of instances that are VOID or have its verdict, and they add up. The mark is the worst kind among the marks of the strand's queue that intersect the slice, [j·pitch, (j + 1)·pitch) (R115), and the judged
instances are those of the evaluation's bank, in instance order, each with the filter of its own number (R82, R109). -/
def Obligations.SliceResultFormed : Prop :=
  ∀ (ev : Evaluation) (b : Bank) (js : List (Option Judged)),
    (∀ k, (ev.result b (some k) js).cls = k.cls ∧ (ev.result b (some k) js).cause = some (.mark k) ∧
      (ev.result b (some k) js).causeInstance = none) ∧
    (∀ c : ConditionClass, (c = .sound ∨ ∃ j, some j ∈ js ∧ j.verdict.cls = c) →
      (∀ j, some j ∈ js → j.verdict.cls.severity ≤ c.severity) →
      let r := ev.result b none js
      let kept := voidCountOf js ≤ b.header.voidAllowance ∨ 2 ≤ c.severity
      (¬kept → r.cls = .unseen ∧ r.cause = none ∧ r.causeInstance = none) ∧
      (kept → r.cls = c ∧ ((∀ j, some j ∈ js → j.verdict.cls ≠ c) → r.cause = none) ∧
        ∀ before j after, js = before ++ some j :: after → (∀ x, some x ∈ before → x.verdict.cls ≠ c) →
          j.verdict.cls = c → r.cause = some (.label j.placement.entry.geo.label) ∧
            r.causeInstance = some
              { number := before.length, n := j.stats.n, mean := j.mean, outOfBand := j.stats.outOfBand,
                longestRun := j.stats.longest, peak := j.stats.peak.getD 0, trend := j.trend })) ∧
    (∀ k, let r := ev.result b k js
      r.slice = ev.set.slice ∧ r.bank = ev.bank ∧ r.generation = b.generation ∧ r.instanceCount = js.length ∧
        r.voidCount + r.soundCount + r.driftCount + r.surfaceCount + r.dimensionCount = js.length ∧
        (let judged := js.filterMap id
         let number := fun v : GaugeVerdict => judged.countP fun j => j.verdict = v
         r.area = (judged.map Judged.excess).sum ∧ r.voidCount = js.countP Option.isNone ∧ r.soundCount = number .sound ∧
           r.driftCount = number .drift ∧ r.surfaceCount = number .surface ∧ r.dimensionCount = number .dimension) ∧
        ((∀ j, some j ∈ js → j.excess = 0) → r.area = 0) ∧
        (js.length ≤ 256 → (∀ j, some j ∈ js → j.excess.natAbs ≤ 2655340) → r.area.natAbs ≤ 679767040)) ∧
    (∀ (ps : List Placement) (fs : List (Option Int)), (ev.judgeAll b ps fs).length = ps.length ∧
      ∀ (n : Nat) (x : Placement), ps[n]? = some x →
        (∀ f, fs[n]? = some f → (ev.judgeAll b ps fs)[n]? = some (ev.judge b x f)) ∧
        (fs[n]? = none → (ev.judgeAll b ps fs)[n]? = some (ev.judge b x none))) ∧
    ∀ st : Strand,
      let start := ev.set.slice * st.params.pitch
      let stop := (ev.set.slice + 1) * st.params.pitch
      let meets := fun k : MarkKind => ∃ m ∈ st.marks, m.kind = k ∧ m.start < stop ∧ start < m.stop
      let judged := ev.judgeAll (st.bank ev.bank) (st.bank ev.bank).placements st.filters.toList
      (meets .weldZone → st.evaluate ev = ev.result (st.bank ev.bank) (some .weldZone) judged) ∧
      (¬meets .weldZone → meets .stopMark → st.evaluate ev = ev.result (st.bank ev.bank) (some .stopMark) judged) ∧
      (¬meets .weldZone → ¬meets .stopMark → st.evaluate ev = ev.result (st.bank ev.bank) none judged)

/-- Validation passes exactly the banks that have an entry, whose entries each pass the checks of R91, and whose instances are
at most 256; every instance then lies within the expected width of its slot. A bank without entries fails with EMPTY and entry
0. Any other failure is reported with the number of the first entry that fails a check, and with the first check that it fails in
the order SLOT, WINDOW, BAND, MINVALID, INSTANCES (R91). The template is the first entries of the bank, and expands in entry order:
instance j of an entry covers [first + j·stride, last + j·stride] (R82). -/
def Obligations.ValidationPasses : Prop :=
  ∀ (st : Strand) (b : Bank),
    (st.validate b = none ↔ b.template ≠ [] ∧ b.placements.length ≤ 256 ∧ ∀ e ∈ b.template,
      (st.headAt e.geo.slot).isSome ∧ e.geo.first ≤ e.geo.last ∧
      e.geo.last + e.geo.repeats * e.geo.stride < widthAt b.header e.geo.slot ∧ e.tol.lower ≤ 0 ∧ 0 ≤ e.tol.upper ∧
      e.geo.floor ≤ e.tol.lower ∧ e.tol.upper ≤ e.geo.ceiling ∧ e.geo.minValid ≤ e.geo.last - e.geo.first + 1) ∧
    (st.validate b = none → ∀ p ∈ b.placements,
      p.first ≤ p.last ∧ p.last < widthAt b.header p.entry.geo.slot ∧ p.last - p.first = p.entry.geo.last - p.entry.geo.first) ∧
    (∀ k : Fin 6, st.headAt k.val = st.slots[k] ∧ widthAt b.header k.val = b.header.widths[k]) ∧
    b.template = b.entries.toList.take b.header.entryCount ∧
    b.placements = b.template.flatMap (fun e => (List.range (e.geo.repeats + 1)).map fun j =>
      { entry := e, first := e.geo.first + j * e.geo.stride, last := e.geo.last + j * e.geo.stride }) ∧
    let fails := fun (before : List GaugeEntry) (e : GaugeEntry) (why : InvalidReason) =>
      why = .slot ∧ st.headAt e.geo.slot = none ∨
      why = .window ∧ (e.geo.last < e.geo.first ∨
        widthAt b.header e.geo.slot ≤ e.geo.last + e.geo.repeats * e.geo.stride) ∨
      why = .band ∧ (0 < e.tol.lower ∨ e.tol.upper < 0 ∨ e.tol.lower < e.geo.floor ∨ e.geo.ceiling < e.tol.upper) ∨
      why = .minValid ∧ (e.geo.last : Int) - e.geo.first + 1 < e.geo.minValid ∨
      why = .instances ∧ 256 < (before.map fun x => x.geo.repeats + 1).sum + (e.geo.repeats + 1)
    (b.template = [] → st.validate b = some (0, .empty)) ∧
    ∀ n why, b.template ≠ [] → (st.validate b = some (n, why) ↔ ∃ before e after, b.template = before ++ e :: after ∧
      n = before.length ∧ (∀ pre x post, before = pre ++ x :: post → ∀ q, ¬fails pre x q) ∧ fails before e why ∧
      ∃ earlier later, [InvalidReason.slot, .window, .band, .minValid, .instances] = earlier ++ why :: later ∧
        ∀ q ∈ earlier, ¬fails before e q)

/-! ### The Length Map and the pieces -/

/-- A slice that begins at the front extends the cover of the strand by its own length, whatever its class (R120 to R122, R124).
The batch of a released slice enters every skipped index before it, in order, as an UNSEEN slice without area that the marks
which meet it raise, and then the slice itself (R75, R121): the cover then reaches to the slice's end. Each slice is placed by R122.
With no open run a run opens at the slice's start with its class and cause. The open run takes a slice of its own class, and one of
a lower class as long as the settle counter plus 1 is below the settle count, which is then counted SLICES_ABSORBED. Any other slice
closes the open run at its start, with RUN advice for a class of SURFACE or worse (R123, R133), and opens a run; where the map holds
96 runs the open run is merged instead, and noticed the first time (R124). The settle counter is 0 after every case but the
absorbing one. At the end of draining the open run closes at the front, and the settle counter is 0 (R123). -/
def Obligations.SliceExtendsCover : Prop :=
  (∀ (s : State) (i : Fin 4) (e : Entry), let st := s.strand i
    let front := e.slice * st.params.pitch
    let stop := (e.slice + 1) * st.params.pitch
    MapLaw st → st.state ≠ .closed → 1 ≤ st.params.pitch → Tiles st.runs st.retired front →
    Tiles ((s.enterSlice i e).strand i).runs st.retired stop ∧
      ∃ r, ((s.enterSlice i e).strand i).openRun = some r ∧ e.cls.severity ≤ r.cls.severity) ∧
  (∀ (s : State) (i : Fin 4) (e : Entry), let st := s.strand i
    let first := st.nextIndex
    let pitch := st.params.pitch
    let skipped := List.range' first (e.slice - first)
    let t := s.handOver i e
    t = ((skipped.map fun k =>
        let u := unseenUnder st.marks (k * pitch) ((k + 1) * pitch)
        ({ slice := k, cls := u.1, cause := u.2, area := 0 } : Entry)) ++ [e]).foldl (fun u x => u.enterSlice i x)
      (s.modStrand i fun a =>
        { a with asmCounters.slicesSkipped := satAdd a.asmCounters.slicesSkipped skipped.length }) ∧
    (MapLaw st → st.state ≠ .closed → 1 ≤ pitch → first ≤ e.slice → Tiles st.runs st.retired (first * pitch) →
      Tiles (t.strand i).runs st.retired ((e.slice + 1) * pitch))) ∧
  (∀ (s : State) (i : Fin 4) (e : Entry), let st := s.strand i
    let start := e.slice * st.params.pitch
    let opened : Run :=
      { start := start, body := .running (addArea 0 0 e.area).1 (addArea 0 0 e.area).2, cls := e.cls, cause := e.cause,
        sliceCount := 1 }
    let t := s.enterSlice i e
    ((∀ r, st.runs.getLast? = some r → r.isOpen = false) → t = s.modStrand i fun a =>
      { a with
        runs := a.runs ++ [opened], settle := 0, mapCounters.runsOpened := inc a.mapCounters.runsOpened }) ∧
    ∀ before r acc folds, st.runs = before ++ [r] → r.body = .running acc folds →
      let sum := addArea acc folds e.area
      let taken : Run := { r with sliceCount := inc r.sliceCount, body := .running sum.1 sum.2 }
      let count := st.activeBank.header.settleCount
      let turns := r.cls.severity < e.cls.severity ∨ e.cls.severity < r.cls.severity ∧ count ≤ st.settle + 1
      (e.cls = r.cls → t = s.modStrand i fun a => { a with runs := before ++ [taken], settle := 0 }) ∧
      (e.cls.severity < r.cls.severity → st.settle + 1 < count → t = s.modStrand i fun a =>
        { a with
          runs := before ++ [taken], settle := st.settle + 1,
          mapCounters.slicesAbsorbed := inc a.mapCounters.slicesAbsorbed }) ∧
      (turns → st.runs.length < 96 →
        let closed : Run := { r with body := .closed start (reportArea acc folds).1 (reportArea acc folds).2 }
        let u := s.modStrand i fun a =>
          { a with runs := before ++ [closed], mapCounters.runsClosed := inc a.mapCounters.runsClosed }
        t = (if 3 ≤ r.cls.severity then u.issueAdvice i .run r.cls r.start start else u).modStrand i fun a =>
          { a with
            runs := before ++ [closed, opened], settle := 0, mapCounters.runsOpened := inc a.mapCounters.runsOpened }) ∧
      (turns → 96 ≤ st.runs.length →
        let raised := r.cls.severity < e.cls.severity
        let merged : Run := { taken with
          cls := if raised then e.cls else r.cls, cause := if raised then e.cause else r.cause, merged := true }
        let u := s.modStrand i fun a =>
          { a with
            runs := before ++ [merged], settle := 0, mapCounters.mapMerged := inc a.mapCounters.mapMerged }
        t = if r.merged then u else u.raise (.mapMerged i r.start merged.cls))) ∧
  (∀ (s : State) (i : Fin 4), let st := s.strand i
    let t := s.closeAtEnd i
    ((∀ r, st.runs.getLast? = some r → r.isOpen = false) → t = s) ∧
    ∀ before r acc folds, st.runs = before ++ [r] → r.body = .running acc folds →
      let u := s.modStrand i fun a =>
        { a with
          runs := before ++ [{ r with body := .closed st.front (reportArea acc folds).1 (reportArea acc folds).2 }],
          mapCounters.runsClosed := inc a.mapCounters.runsClosed }
      t = (if 3 ≤ r.cls.severity then u.issueAdvice i .run r.cls r.start st.front else u).modStrand i fun a =>
        { a with settle := 0 })

/-- A cut at X takes exactly [retired point, X) from the cover: the class lengths of the piece sum to its length, and the runs
that stay cover [X, front) (R141, R144). A run that ends at or before X is taken whole, with its reported area, and one that begins
at or after X stays as it is. The run that it splits is taken up to X with its area and the rest of its slice count;
its remainder is SPLIT, counts the slices that begin at or after X, and has area 0 (R141). A mark that begins behind the front
is applied to its stretch widened to whole slices between the retired point and the front: each run there of a lesser class is
split, the first part keeps the area and the rest of the slice count, and the later parts are SPLIT with area 0; every point of
that region takes the worse of its class and the mark's, the cover stays, and the settle counter becomes 0 where the open run
was raised (R130). Each closed part of a split open run is counted RUNS_CLOSED and, at SURFACE or worse, followed by RUN advice
(R123, R133), in order along the strand (the model's choice, entry 27). Where the list would exceed 96 runs, the runs in the region take the kind whole, and one notice MAP_MERGED
names the first of them (R131). That the formulas of the region decide for a mark behind the retired point (entry 26) and that
MARKS_APPLIED_BACK counts every region that is not empty (entry 16) are the model's choices. -/
def Obligations.CutTakesItsLength : Prop :=
  (∀ (x front pitch start : Nat) (runs : List Run), Tiles runs start front → start < x → x ≤ front →
    let split := takeRuns x front pitch runs
    (classLengths split.1).toList.sum = x - start ∧ Tiles split.2 x front) ∧
  (∀ (x front pitch : Nat) (r : Run) (rs : List Run), takeRuns x front pitch [] = ([], []) ∧
    (r.stopAt front ≤ x → takeRuns x front pitch (r :: rs) =
      ({ r with body := r.body.closedAt (r.stopAt front) } :: (takeRuns x front pitch rs).1, (takeRuns x front pitch rs).2)) ∧
    (x < r.stopAt front → x ≤ r.start → takeRuns x front pitch (r :: rs) = ([], r :: rs))) ∧
  (∀ pitch start stop : Nat, 1 ≤ pitch → slicesBetween pitch start stop =
    ((List.range stop).filter fun j => start ≤ j * pitch ∧ j * pitch < stop).length) ∧
  (∀ (x front pitch : Nat) (r : Run) (rs : List Run), r.start < x → x < r.stopAt front →
    let kept := slicesBetween pitch x (r.stopAt front)
    takeRuns x front pitch (r :: rs) =
      ([{ r with body := r.body.closedAt x, sliceCount := r.sliceCount - kept }],
       { r with
         start := x, split := true, sliceCount := kept,
         body := if r.isOpen then .running 0 0 else .closed (r.stopAt front) 0 false } :: rs)) ∧
  (∀ (r : Run) (kind : MarkKind) (a b front pitch : Nat), a < b → r.start < r.stopAt front →
    let stop := r.stopAt front
    let raised := { r with cls := kind.cls, cause := some (.mark kind) }
    let later := fun (x : Run) (start stop : Nat) (last : Bool) =>
      { x with
        start := start, split := true, sliceCount := (stop - start) / pitch,
        body := if r.isOpen && last then .running 0 0 else .closed stop 0 false }
    (¬r.Under kind a b front → r.splitBy kind (a, b) front pitch = [r]) ∧
    (r.Under kind a b front → r.splitBy kind (a, b) front pitch =
      if r.start < a then
        if b < stop then
          [{ r with body := r.body.closedAt a, sliceCount := r.sliceCount - ((b - a) / pitch + (stop - b) / pitch) },
            later raised a b false, later r b stop true]
        else [{ r with body := r.body.closedAt a, sliceCount := r.sliceCount - (stop - a) / pitch }, later raised a stop true]
      else if b < stop then
        [{ raised with body := r.body.closedAt b, sliceCount := r.sliceCount - (stop - b) / pitch }, later r b stop true]
      else [raised])) ∧
  (∀ (s : State) (i : Fin 4) (m : Mark),
    let st := s.strand i
    let pitch := st.params.pitch
    let a := max st.retired (m.start / pitch * pitch)
    let b := min st.front ((m.stop + pitch - 1) / pitch * pitch)
    let parts := st.runs.flatMap fun r => r.splitBy m.kind (a, b) st.front pitch
    let t := s.applyBack i m
    SameWorld s t ∧ t.now = s.now ∧ t.heads = s.heads ∧ t.travel = s.travel ∧ t.headPort = s.headPort ∧
    OtherStrands s t i ∧
    (t.strand i).mapCounters.markBehind =
      (if m.start < st.retired then inc st.mapCounters.markBehind else st.mapCounters.markBehind) ∧
    (let behind := (t.strand i).mapCounters.markBehind
     let gone := (st.runs.filter Run.isOpen).flatMap fun r =>
       (r.splitBy m.kind (a, b) st.front pitch).filter fun x => !x.isOpen
     (b ≤ a → t = s.modStrand i fun x => { x with mapCounters.markBehind := behind }) ∧
     (a < b → parts.length ≤ 96 → t =
        gone.foldl (fun v x => if 3 ≤ x.cls.severity then v.issueAdvice i .run x.cls x.start (x.stopAt x.start) else v)
          (s.modStrand i fun x =>
            { x with
              runs := parts, settle := (t.strand i).settle,
              mapCounters := { x.mapCounters with
                markBehind := behind, marksAppliedBack := inc x.mapCounters.marksAppliedBack,
                runsClosed := satAdd x.mapCounters.runsClosed gone.length } })) ∧
     (96 < parts.length → t.strand i = { st with
        runs := (t.strand i).runs, settle := (t.strand i).settle,
        mapCounters := { st.mapCounters with
          markBehind := behind, mapMerged := (t.strand i).mapCounters.mapMerged } })) ∧
    (b ≤ a → (t.strand i).runs = st.runs ∧ (t.strand i).settle = st.settle ∧ NoNotice s t ∧
      (t.strand i).mapCounters.marksAppliedBack = st.mapCounters.marksAppliedBack) ∧
    (a < b →
      ((∃ r ∈ st.runs, r.isOpen = true ∧ r.Under m.kind a b st.front) → (t.strand i).settle = 0) ∧
      ((∀ r ∈ st.runs, r.isOpen = true → ¬r.Under m.kind a b st.front) → (t.strand i).settle = st.settle) ∧
      (parts.length ≤ 96 → (t.strand i).runs = parts ∧ NoNotice s t ∧
        (t.strand i).mapCounters.marksAppliedBack = inc st.mapCounters.marksAppliedBack ∧
        (t.strand i).mapCounters.mapMerged = st.mapCounters.mapMerged ∧
        (Tiles st.runs st.retired st.front → Tiles parts st.retired st.front ∧
          ∀ y, classAt parts st.front y = (classAt st.runs st.front y).map fun c =>
            if a ≤ y ∧ y < b ∧ c.severity < m.kind.cls.severity then m.kind.cls else c)) ∧
      (96 < parts.length → st.runs.length ≤ 96 →
        (t.strand i).runs = (st.runs.map fun r =>
          if r.Under m.kind a b st.front then { r with cls := m.kind.cls, cause := some (.mark m.kind), merged := true }
          else r) ∧
        (t.strand i).mapCounters.mapMerged = inc st.mapCounters.mapMerged ∧
        t.handler.noticeSeq = s.handler.noticeSeq + 1 ∧
        ∀ before r after, st.runs = before ++ r :: after → (∀ x ∈ before, ¬x.Under m.kind a b st.front) →
          r.Under m.kind a b st.front →
          t.linePort = (s.raise (.mapMerged i r.start m.kind.cls)).linePort ∧
          (s.linePort.own.length ≤ 28 → t.latestRecord =
            some (.notice s.handler.noticeTarget s.handler.noticeSeq (.mapMerged i r.start m.kind.cls))))))

/-- A CUT_NOTICE is judged in the order of R138; a cut at a full list is dropped as an overrun (R139). -/
def Obligations.CutNoticeJudged : Prop :=
  ∀ (s : State) (n x : Nat),
    (4 ≤ n → s.cutNotice n x = { s with cutInvalid := inc s.cutInvalid }) ∧
    (∀ i : Fin 4, n = i →
      let st := s.strand i
      let backward := x ≤ st.retired ∨ ∃ before c, st.cuts = before ++ [c] ∧ x ≤ c.position
      (st.state = .idle → s.cutNotice n x =
        s.modStrand i fun a => { a with pieceCounters.cutIgnored := inc a.pieceCounters.cutIgnored }) ∧
      (st.state ≠ .idle →
        (backward → s.cutNotice n x =
          s.modStrand i fun a => { a with pieceCounters.backward := inc a.pieceCounters.backward }) ∧
        (¬backward →
          (4 ≤ st.cuts.length → s.cutNotice n x =
            (s.modStrand i fun a =>
              { a with overrun := true, pieceCounters.cutOverrun := inc a.pieceCounters.cutOverrun }).raise
              (.cutOverrun i x)) ∧
          (st.cuts.length < 4 → s.cutNotice n x =
            (s.modStrand i fun a =>
              { a with
                cuts := a.cuts ++ [{ position := x, merged := a.overrun }], overrun := false,
                pieceCounters.cutsAccepted := inc a.pieceCounters.cutsAccepted }).closeCheck i))))

/-- The close check (R140) closes nothing where the oldest cut lies beyond the front of a strand that is not CLOSED, or the
closed piece list is full; else the piece of the oldest cut is formed over [retired point, X), numbered one above the last, and
graded by the active bank. Each cut that closes is taken off the list and the check is made again, with the piece queued behind
the closed ones. A cut beyond the front of a CLOSED strand is closed over a tail: the length [front, X) is covered by runs
without slices, UNSEEN or of the marks that cover them, or at a full list by one run of their worst class; a CLOSED strand whose
map and cut list are then empty is IDLE (R140 to R143, R147, R55). Each run that leaves whole is counted RUNS_RETIRED, and the piece
PIECES_CLOSED and by its verdict (R151); the settle counter is 0 where the open run left. The records that join the Line Port are,
in this order, MAP_MERGED of a tail that was merged, the piece, and the STRAND_STATE of a strand that is IDLE. -/
def Obligations.CloseCheckClosesPiece : Prop :=
  (∀ (s : State) (i : Fin 4) (cut : Cut) (rest : List Cut), (s.strand i).cuts = cut :: rest →
    let st := s.strand i
    (8 ≤ st.closed.length ∨ st.front < cut.position ∧ st.state ≠ .closed → s.closeCheck i = s) ∧
    (rest = [] → st.closed = [] → cut.position ≤ st.front → st.state ≠ .closed →
      let taken := (takeRuns cut.position st.front st.params.pitch st.runs).1
      let t := s.closeCheck i
      (t.strand i).cuts = [] ∧ (t.strand i).retired = cut.position ∧ (t.strand i).pieceCounter = inc st.pieceCounter ∧
      (t.strand i).runs = (takeRuns cut.position st.front st.params.pitch st.runs).2 ∧ OtherStrands s t i ∧
      (t.strand i).state = st.state ∧ (t.strand i).front = st.front ∧ (t.strand i).setup = st.setup ∧
      (t.strand i).sets = st.sets ∧ (t.strand i).eval = st.eval ∧ (t.strand i).marks = st.marks ∧
      (t.strand i).held = st.held ∧ t.heads = s.heads ∧ t.travel = s.travel ∧ t.headPort = s.headPort ∧ SameWorld s t ∧
      t.now = s.now ∧
      (let p : Piece :=
        { strand := i, number := inc st.pieceCounter, start := st.retired, stop := cut.position,
          verdict := pieceVerdict st.activeBank.header taken, worst := worstClass taken,
          cause := causeOfClass (worstClass taken) taken, lengths := classLengths taken, area := (pieceArea taken).1,
          saturated := (pieceArea taken).2, mergedCut := cut.merged, unseenTail := false,
          mapMerged := taken.any Run.merged, bank := st.active, generation := st.activeBank.generation }
       (s.linePort.own.length < 32 → Entered s (.piece p) t.linePort ∧ t.latestRecord = some (.piece p) ∧
          (t.strand i).closed = []) ∧
       (32 ≤ s.linePort.own.length → (t.strand i).closed = [p] ∧ t.linePort = s.linePort)))) ∧
  (∀ (s : State) (i : Fin 4) (cut : Cut) (rest : List Cut), (s.strand i).cuts = cut :: rest →
    let st := s.strand i
    st.closed.length < 8 → cut.position ≤ st.front ∨ st.state = .closed →
    let u := if st.front < cut.position then s.addTail i cut.position else s
    let split := takeRuns cut.position (u.strand i).front st.params.pitch (u.strand i).runs
    let p : Piece :=
      { strand := i, number := inc st.pieceCounter, start := st.retired, stop := cut.position,
        verdict := pieceVerdict st.activeBank.header split.1, worst := worstClass split.1,
        cause := causeOfClass (worstClass split.1) split.1, lengths := classLengths split.1, area := (pieceArea split.1).1,
        saturated := (pieceArea split.1).2, mergedCut := cut.merged, unseenTail := decide (st.front < cut.position),
        mapMerged := split.1.any Run.merged, bank := st.active, generation := st.activeBank.generation }
    let t := s.closeCut i cut
    let done := st.state = .closed ∧ split.2 = [] ∧ rest = []
    s.closeCheck i = t.closeCheck i ∧ SameWorld s t ∧ t.now = s.now ∧ t.heads = s.heads ∧ t.travel = s.travel ∧
    t.headPort = s.headPort ∧ OtherStrands s t i ∧ (t.strand i).cuts = rest ∧
    (t.strand i).pieceCounter = inc st.pieceCounter ∧
    (t.strand i).pieceCounters.piecesClosed = inc st.pieceCounters.piecesClosed ∧
    (let whole := (u.strand i).runs.takeWhile fun r => r.stopAt (u.strand i).front ≤ cut.position
     let count := (u.strand i).pieceCounters
     let graded := fun (v : PieceVerdict) (n : Nat) => if p.verdict = v then inc n else n
     (t.strand i).settle = (if done ∨ ∃ r ∈ whole, r.isOpen = true then 0 else st.settle) ∧
     (t.strand i).pieceCounters = { count with
       piecesClosed := inc count.piecesClosed, runsRetired := satAdd count.runsRetired whole.length,
       piecesPrime := graded .prime count.piecesPrime, piecesHold := graded .hold count.piecesHold,
       piecesScrap := graded .scrap count.piecesScrap }) ∧
    (∃ q : LinePort, (st.closed = [] → u.linePort.own.length < 32 → Entered u (.piece p) q) ∧
      (st.closed ≠ [] ∨ 32 ≤ u.linePort.own.length → q = u.linePort) ∧ (¬done → t.linePort = q) ∧
      (done → t.linePort = (State.raise { u with linePort := q } (.strandState i .closed .idle)).linePort)) ∧
    (done → (t.strand i).state = .idle ∧ (t.strand i).origin = none ∧ (t.strand i).front = 0 ∧
      (t.strand i).retired = 0 ∧ (t.strand i).runs = []) ∧
    (¬done → (t.strand i).state = st.state ∧ (t.strand i).front = (u.strand i).front ∧
      (t.strand i).retired = cut.position ∧ (t.strand i).runs = split.2) ∧
    (st.closed = [] → u.linePort.own.length < 32 → (t.strand i).closed = [] ∧
      (.piece p ∈ t.linePort.own ∨ t.linePort.tx = some (.own (.piece p)))) ∧
    (st.closed ≠ [] ∨ 32 ≤ u.linePort.own.length → (t.strand i).closed = st.closed ++ [p])) ∧
  (∀ (s : State) (i : Fin 4) (x : Nat),
    let st := s.strand i
    st.front < x →
    let t := s.addTail i x
    SameWorld s t ∧ t.now = s.now ∧ t.heads = s.heads ∧ t.travel = s.travel ∧ t.headPort = s.headPort ∧
    OtherStrands s t i ∧ (t.strand i).front = x ∧ (t.strand i).marks = st.marks.filter (fun m => x < m.stop) ∧
    (t.strand i).pieceCounters.tailsAdded = inc st.pieceCounters.tailsAdded ∧
    ((∀ r ∈ st.runs, r.isOpen = false) → Tiles st.runs st.retired st.front → Tiles (t.strand i).runs st.retired x) ∧
    (st.runs.length + (st.tailRuns x).length ≤ 96 → NoNotice s t ∧ t.linePort = s.linePort ∧
      ∃ new, (t.strand i).runs = st.runs ++ new ∧ Tiles new st.front x ∧
        ∀ r ∈ new, r.tail = true ∧ r.merged = false ∧ r.split = false ∧ r.sliceCount = 0 ∧
          (∃ stop, r.body = .closed stop 0 false) ∧
          ∀ y, r.start ≤ y → y < r.stopAt x → (r.cls, r.cause) = unseenUnder st.marks y (y + 1)) ∧
    (96 < st.runs.length + (st.tailRuns x).length → (∀ m ∈ st.marks, m.start < m.stop) →
      let w := unseenUnder st.marks st.front x
      (t.strand i).mapCounters.mapMerged = inc st.mapCounters.mapMerged ∧
      t.handler.noticeSeq = s.handler.noticeSeq + 1 ∧
      (st.runs.length < 96 → t.linePort = (s.raise (.mapMerged i st.front w.1)).linePort ∧ (t.strand i).runs = st.runs ++
        [{ start := st.front, body := .closed x 0 false, cls := w.1, cause := w.2, sliceCount := 0, merged := true,
           split := false, tail := true }]) ∧
      (∀ before r stop area saturated, st.runs = before ++ [r] → 96 ≤ st.runs.length →
        r.body = .closed stop area saturated →
        t.linePort = (s.raise
          (.mapMerged i r.start (if r.cls.severity < w.1.severity then w.1 else r.cls))).linePort ∧
        (t.strand i).runs = before ++
          [{ r with
             body := .closed x area saturated, cls := if r.cls.severity < w.1.severity then w.1 else r.cls,
             cause := if r.cls.severity < w.1.severity then w.2 else r.cause, merged := true, tail := true }])))

/-- The verdict that a piece takes at its close, with the verdict parameters of the strand's active bank of that moment (R146):
SCRAP with any DIMENSION, STOP_MARK or WELD_ZONE length or a SURFACE length above its allowance; else HOLD with any SURFACE length
or an UNSEEN or DRIFT length above its allowance; else PRIME. It reads neither the area nor the flags. Each run taken adds its
length to that of its class; the worst class is the greatest among them, and the cause is that of the first run of the worst class
(R144). -/
def Obligations.PieceVerdictJudged : Prop :=
  ∀ (st : Strand) (i : Fin 4) (cut : Cut) (tail : Bool) (taken : List Run),
    let h := st.activeBank.header
    let verdict := (st.pieceOf i cut tail taken).verdict
    let length := fun c => classLength c taken
    let scrap := 0 < length .dimension + length .stopMark + length .weldZone ∨ h.surfaceAllowance < length .surface
    let hold :=
      0 < length .surface ∨ h.unseenAllowance < length .unseen ∨ h.driftAllowance < length .drift
    (verdict = .scrap ↔ scrap) ∧ (verdict = .hold ↔ ¬scrap ∧ hold) ∧ (verdict = .prime ↔ ¬scrap ∧ ¬hold) ∧
      ((∃ r ∈ taken, 4 ≤ r.cls.severity ∧ 0 < r.length) → verdict = .scrap) ∧
    let piece := st.pieceOf i cut tail taken
    (∀ c, length c = ((taken.filter fun r => r.cls = c).map Run.length).sum) ∧
    (∀ (r : Run) (stop : Nat) (area : Int) (saturated : Bool), r.body = .closed stop area saturated →
      r.length = stop - r.start) ∧
    piece.lengths = #v[length .sound, length .drift, length .unseen, length .surface, length .dimension, length .stopMark,
      length .weldZone] ∧
    (∀ r ∈ taken, r.cls.severity ≤ piece.worst.severity) ∧ (taken = [] → piece.worst = .sound ∧ piece.cause = none) ∧
    (taken ≠ [] → ∃ before r after, taken = before ++ r :: after ∧ r.cls = piece.worst ∧ r.cause = piece.cause ∧
      ∀ x ∈ before, x.cls ≠ piece.worst)

/-- While the overflow count cannot have held at a limit, adding areas keeps the true sum A + O·2^32 exact with A in 32 signed
bits (R125). An addition folds once, and the fold count holds at +31 and −32. The reported area is 2,147,483,647 for O above
0, −2,147,483,648 for O below 0, both saturated, and A for O = 0 (R126); a run that is taken open reports so, and a closed one keeps
its values. A piece folds the reported areas of the runs taken, in order, from A = 0 and O = 0, and reports in the same way
(R145). It lies in 32 signed bits, and carries the saturated flag exactly when the piece's own
fold count was nonzero at close or a run it took was saturated (R126, R145). -/
def Obligations.AreasFoldAndReport : Prop :=
  (∀ (vs : List Int) (acc folds : Int), (∀ v ∈ vs, -679767040 ≤ v ∧ v ≤ 679767040) → -2147483648 ≤ acc → acc ≤ 2147483647 →
    -32 + vs.length ≤ folds → folds + vs.length ≤ 31 →
    let a := vs.foldl (fun a v => addArea a.1 a.2 v) (acc, folds)
    a.1 + a.2 * 4294967296 = acc + folds * 4294967296 + vs.sum ∧ -2147483648 ≤ a.1 ∧ a.1 ≤ 2147483647) ∧
  (∀ acc folds v : Int,
    (2147483647 < acc + v → addArea acc folds v = (acc + v - 4294967296, if folds < 31 then folds + 1 else 31)) ∧
    (acc + v < -2147483648 → addArea acc folds v = (acc + v + 4294967296, if -32 < folds then folds - 1 else -32)) ∧
    (-2147483648 ≤ acc + v → acc + v ≤ 2147483647 → addArea acc folds v = (acc + v, folds)) ∧
    (0 < folds → reportArea acc folds = (2147483647, true)) ∧ (folds < 0 → reportArea acc folds = (-2147483648, true)) ∧
    (folds = 0 → reportArea acc folds = (acc, false))) ∧
  (∀ (r : Run) (acc folds : Int) (stop x : Nat) (area : Int) (saturated : Bool),
    (r.body = .running acc folds → r.reported = reportArea acc folds ∧
      r.body.closedAt x = .closed x (reportArea acc folds).1 (reportArea acc folds).2) ∧
    (r.body = .closed stop area saturated → r.reported = (area, saturated) ∧ r.body.closedAt x = .closed x area saturated)) ∧
  (∀ taken : List Run,
    let sum := (taken.map fun r => r.reported.1).foldl (fun a v => addArea a.1 a.2 v) (0, 0)
    foldedArea taken = sum ∧ (pieceArea taken).1 = (reportArea sum.1 sum.2).1) ∧
  (∀ taken : List Run, (∀ r ∈ taken, -2147483648 ≤ r.reported.1 ∧ r.reported.1 ≤ 2147483647) →
    -2147483648 ≤ (pieceArea taken).1 ∧ (pieceArea taken).1 ≤ 2147483647 ∧
      ((pieceArea taken).2 = true ↔ (foldedArea taken).2 ≠ 0 ∨ ∃ r ∈ taken, r.reported.2 = true) ∧
      ((foldedArea taken).2 = 0 → (pieceArea taken).1 = (foldedArea taken).1))

/-! ### The heads -/

/-- An announce to a HELD head is only counted; a valid announce writes the announced fields and brings any other head ONLINE;
an invalid one faults it and writes none of them (R27 to R31). The marker word gives the order and the sign, and comes before
the width, the scale code and the check mode (R27). Where the order, the sign, the scale code or the width differs from the
values held before, a head in service gives the notice HEAD_REANNOUNCED after HEAD_STATE, which a head that was not ONLINE raises
from its old state to ONLINE without a cause (R37), and no other record joins the Line Port, and the filters of an assigned
head's slot are unseeded, at once or after the evaluation in flight (R30, R102). That the first announce differs from nothing is
the model's choice (entry 15). -/
def Obligations.AnnounceJudged : Prop :=
  (∀ (s : State) (h : Fin 16) (p : List Byte), let r := s.head h
    (r.state = .held → s.announce h p = s.setHead h
      { r with counters.announcesIgnored := inc r.counters.announcesIgnored }) ∧
    (r.state ≠ .held →
      (∀ a, judgeAnnounce p = .ok a →
        let t := s.announce h p
        let changed := fun o : Announced =>
          o.order ≠ a.order ∨ o.sign ≠ a.sign ∨ o.scaleCode ≠ a.scaleCode ∨ o.width ≠ a.width
        t.head h =
          { r with
            announced := some a, checkErrors := 0, misses := 0, deadline := none, cause := none, state := .online,
            counters.announces := inc r.counters.announces,
            mismatch := match r.assignment with
              | some (i, t) => a.width != (s.strand i).activeBank.header.widths[t]
              | none => false } ∧ OtherHeads s t h ∧ SameWorld s t ∧ t.now = s.now ∧ t.travel = s.travel ∧
        t.headPort = s.headPort ∧
        (∀ i, (∀ t, r.assignment ≠ some (i, t)) → t.strand i = s.strand i) ∧
        ((∀ o, r.announced = some o → ¬changed o) → t.strands = s.strands) ∧
        (∀ o i k, r.announced = some o → changed o → r.assignment = some (i, k) →
          let st := s.strand i
          (st.eval ≠ none → t.strand i = { st with unseed := st.unseed ||| 1#6 <<< k.val }) ∧
          (st.eval = none → t.strand i = { st with filters := (t.strand i).filters } ∧
            ∀ n : Fin 256, (t.strand i).filters[n] =
              match st.activeBank.placements[n.val]? with
              | some x => if x.entry.geo.slot = k then none else st.filters[n]
              | none => st.filters[n])) ∧
        (let named := s.setHead h (t.head h)
         let noticed := if r.state = .online then named else named.raise (.headState h r.state .online none)
         ((∀ o, r.announced = some o → changed o → r.state ≠ .online ∧ r.state ≠ .silent) →
            t = { noticed with strands := t.strands }) ∧
         (∀ o, r.announced = some o → changed o → r.state = .online ∨ r.state = .silent →
            t = { noticed.raise (.headReannounced h o a) with strands := t.strands })) ∧
        ((∀ o, r.announced = some o → changed o → r.state ≠ .online ∧ r.state ≠ .silent) →
          t.handler.noticeSeq = s.handler.noticeSeq + (if r.state = .online then 0 else 1) ∧
          (r.state = .online → NoNotice s t)) ∧
        (∀ o, r.announced = some o → changed o → r.state = .online ∨ r.state = .silent →
          let seq := s.handler.noticeSeq + (if r.state = .online then 0 else 1)
          t.handler.noticeSeq = seq + 1 ∧ (s.linePort.own.length ≤ 27 →
            t.latestRecord = some (.notice s.handler.noticeTarget seq (.headReannounced h o a))))) ∧
      (∀ c, judgeAnnounce p = .error c → s.announce h p =
        (s.setHead h { r with
          state := .faulted, cause := some c, deadline := none, counters.faults := inc r.counters.faults }).raise
          (.headState h r.state .faulted (some c))))) ∧
  (∀ m1 m0 w1 w0 scale mode b3 b2 b1 b0 : Byte,
    let p := [m1, m0, w1, w0, scale, mode, b3, b2, b1, b0]
    let marker := m1.toNat * 256 + m0.toNat
    let width := w1.toNat * 256 + w0.toNat
    let names := fun (o : SampleOrder) (g : HeightSign) =>
      marker = 0xC3A5 ∧ o = .forward ∧ g = .up ∨ marker = 0xA5C3 ∧ o = .reversed ∧ g = .up ∨
        marker = 0x3C5A ∧ o = .forward ∧ g = .down ∨ marker = 0x5A3C ∧ o = .reversed ∧ g = .down
    ((∀ o g, ¬names o g) → judgeAnnounce p = .error .badMarker) ∧
    (∀ o g, names o g →
      (width < 64 ∨ 512 < width ∨ 7 < scale.toNat ∨ 1 < mode.toNat → judgeAnnounce p = .error .badAnnounce) ∧
      (64 ≤ width → width ≤ 512 → scale.toNat ≤ 7 → mode.toNat ≤ 1 → judgeAnnounce p = .ok
        { width := width, order := o, sign := g, scaleCode := scale.toNat,
          checkMode := if mode = 0 then .crc16 else .lrc8,
          serialTag := ((b3.toNat * 256 + b2.toNat) * 256 + b1.toNat) * 256 + b0.toNat })))

/-- The release delay of a RELEASING head expires: HEAD_RELEASE is offered to the Head Port, the deadline becomes the time of
expiry plus the announce timeout, and the head is AWAITING (R25). The announce timeout of an AWAITING head expires: the head is
FAULTED with cause MUTE and no deadline, and the announced fields are kept (R26). A HEAD_HOLD or HEAD_RELEASE joins the Head
Port's queue of 8; at a full queue it takes the place of the TRIGGER nearest the tail, and is dropped where there is none (R14).
That the command moves the clock to the deadline is the model's choice (entry 3). That a transmitter which sends idle symbols
takes a frame within the same command is the model's deduction (entry 22). -/
def Obligations.HeadWaitsExpire : Prop :=
  (∀ (s : State) (h : Fin 16) (d : Nat), (s.head h).deadline = some d → let r := s.head h
    let u := { s with now := max s.now d }
    (r.state = .releasing → exec (.releaseDelayExpiry h) s = .next
      (((u.enqueueControl (.release h)).setHead h
        { r with state := .awaiting, deadline := some (max s.now d + 1000 * r.announceTimeout) }).raise
        (.headState h .releasing .awaiting none))) ∧
    (r.state = .awaiting → exec (.announceTimeoutExpiry h) s = .next
      ((u.setHead h
        { r with state := .faulted, cause := some .mute, deadline := none, counters.faults := inc r.counters.faults }).raise
        (.headState h .awaiting .faulted (some .mute))))) ∧
  (∀ (p : HeadPort) (f : HeadFrame),
    let control := fun x : HeadFrame => ∀ i k mask, x ≠ .trigger i k mask
    (p.own.length < 8 → Joined p f (p.enqueueControl f)) ∧
    (8 ≤ p.own.length →
      (∀ before i k mask after, p.own = before ++ .trigger i k mask :: after → (∀ x ∈ after, control x) →
        Joined { p with own := before ++ after, triggerDrop := inc p.triggerDrop } f (p.enqueueControl f)) ∧
      ((∀ x ∈ p.own, control x) → p.enqueueControl f = { p with controlDrop := inc p.controlDrop })))

/-! ### Requests: what is common -/

/-- The checks common to every kind come first, and refuse with nothing changed: an unknown kind UNKNOWN_REQUEST whatever the
class, any other kind from the class NONE NOT_PERMITTED (R155). A kind that needs the class ENGINEERING refuses an OPERATOR
NOT_PERMITTED (R22, R41, R51, R83, R92, R161, R162). An index or a coded value outside its range is refused OUT_OF_RANGE after
the class check (R51, R83, R92, R156, R158, R161), from an OPERATOR for the kinds that an OPERATOR may send as well. Every answer is
one reply for the Line Port, whatever the state in which it is given, and nothing else changes by it (R154). That an ENTRY_WRITE with the code of neither group needs the class ENGINEERING
is the model's deduction (entry 7). -/
def Obligations.RequestRefusedUnchanged : Prop :=
  let engineers := fun c : Instr =>
    (∃ i b e g n f, c = .entryWriteGeometry i b e g n f) ∨ (∃ i b n x, c = .bankParamWrite i b n x) ∨
      (∃ i n, c = .bankCopy i n) ∨ (∃ i o, c = .bankSwitch i o) ∨ (∃ i, c = .bankSwitchCancel i) ∨
      (∃ i v p, c = .strandConfigWrite i v p) ∨ (∃ x, c = .travelConfigWrite x) ∨
      (∃ h o d w, c = .headCalWrite h o d w) ∨ (∃ n a k, c = .routeWrite n a k) ∨ (∃ n, c = .noticeTargetWrite n) ∨
      c = .restart
  (∀ (s : State) (r : Request) (a : Answer), s.handler.waiting = none → OnlyAnswered s (s.finish r a) r a) ∧
  (∀ (s : State) (r : Request) (c : Instr), Serves s r c →
    (∀ k, c = .unknownRequest k → ∃ t, exec c s = .next t ∧ OnlyAnswered s t r { status := .unknownRequest }) ∧
    (c.isRequest = true → (∀ k, c ≠ .unknownRequest k) → r.sourceClass = .none →
      ∃ t, exec c s = .next t ∧ OnlyAnswered s t r { status := .notPermitted }) ∧
    (r.sourceClass = .operator → engineers c →
      ∃ t, exec c s = .next t ∧ OnlyAnswered s t r { status := .notPermitted })) ∧
  (∀ (s : State) (r : Request) (c : Instr), Serves s r c →
    r.sourceClass = .engineering ∨ (r.sourceClass = .operator ∧ ¬engineers c) →
    ((∃ h, 15 < h ∧ (c = .headRead h ∨ c = .headHold h ∨ c = .headRelease h ∨ ∃ o d w, c = .headCalWrite h o d w)) ∨
      (∃ i, 3 < i ∧ (c = .strandRead i ∨ c = .strandStart i ∨ c = .strandStop i ∨ c = .strandReset i ∨
        c = .bankSwitchCancel i ∨ (∃ n, c = .bankCopy i n ∨ c = .bankSwitch i n ∨ c = .mapRead i n ∨ c = .bankRead i n) ∨
        (∃ v p, c = .strandConfigWrite i v p) ∨ (∃ b e, c = .entryRead i b e) ∨
        (∃ b e g n f, c = .entryWriteGeometry i b e g n f) ∨ (∃ b e n f, c = .entryWriteTolerance i b e n f) ∨
        ∃ b n x, c = .bankParamWrite i b n x)) ∨
      (∃ i b, 1 < b ∧ (c = .bankRead i b ∨ (∃ e, c = .entryRead i b e) ∨
        (∃ e g n f, c = .entryWriteGeometry i b e g n f) ∨ (∃ e n f, c = .entryWriteTolerance i b e n f) ∨
        ∃ n x, c = .bankParamWrite i b n x)) ∨
      (∃ i b e, 63 < e ∧ (c = .entryRead i b e ∨ (∃ g n f, c = .entryWriteGeometry i b e g n f) ∨
        ∃ n f, c = .entryWriteTolerance i b e n f)) ∨
      (∃ i b e g n f, (g ≠ 0 ∨ 5 < f.slot) ∧ c = .entryWriteGeometry i b e g n f) ∨
      (∃ i o, o ≠ 0 ∧ c = .bankSwitch i o) ∨ (∃ i n, 95 < n ∧ c = .mapRead i n) ∨ (∃ g, 5 < g ∧ c = .countersRead g) ∨
      (∃ n a k, (63 < n ∨ 1 < a ∨ 2 < k) ∧ c = .routeWrite n a k) ∨ (∃ n, 63 < n ∧ c = .noticeTargetWrite n) ∨
      (∃ (i : Nat) (v : Vector Nat 6) (p : StrandParams) (k : Fin 6), 15 < v[k] ∧ v[k] ≠ 255 ∧
        c = .strandConfigWrite i v p)) →
    ∃ t, exec c s = .next t ∧ OnlyAnswered s t r { status := .outOfRange })

/-- An accepted read answers ACCEPTED with what it reads at that moment, and changes nothing (R90, R157 to R159). Each body is the
bytes of its layout in R168: its fields in order, each of the size that R165 gives its type, optional fields after their presence
byte; a MAP_READ returns at most 32 runs; a COUNTERS_READ returns the counters of its group in the order of R159 and the owning
tables, one word each. That the counters of R62 stand in item 1 of a STRAND_READ as well as in item 7, and that a read is counted
after its body is formed, are the model's deductions (entries 14 and 13). -/
def Obligations.ReadsAnswerAndChangeNothing : Prop :=
  ∀ (s : State) (r : Request), r.sourceClass ≠ .none →
    let Answers := fun (c : Instr) (body : List Byte) =>
      Serves s r c → ∃ t, exec c s = .next t ∧ OnlyAnswered s t r { status := .accepted, body := body }
    (∀ h : Fin 16, Answers (.headRead h) (bytesOf (headLayout s h))) ∧
    (∀ i : Fin 4, Answers (.strandRead i) (bytesOf (strandLayout s i)) ∧
      (∀ id : BankId, Answers (.bankRead i id.code) (bytesOf (bankReadLayout (s.strand i) id)) ∧
        ∀ e : Fin 64, Answers (.entryRead i id.code e)
          (bytesOf (bankLayout (s.strand i) id ++ entryLayout ((s.strand i).bank id).entries[e]))) ∧
      (∀ first, first ≤ 95 → Answers (.mapRead i first) (bytesOf (mapLayout (s.strand i) first))) ∧
      Answers (.countersRead (2 + i.val)) (bytesOf (fieldsOf 4 (strandGroup (s.strand i))))) ∧
    Answers (.countersRead 0) (bytesOf (fieldsOf 4 (partGroup s))) ∧
    Answers (.countersRead 1) (bytesOf (fieldsOf 4 (s.heads.toList.flatMap fun r => headGroup r.counters))) ∧
    (∀ g l, s.counterGroup g = some l → Answers (.countersRead g) (encCounters l)) ∧
    Answers .routeRead (bytesOf (routeLayout s))

/-! ### Requests: templates -/

/-- A bank write to the active bank is refused ACTIVE_BANK, one to a pending bank PENDING, one whose expected generation differs
STALE, and one at the greatest generation OUT_OF_RANGE, in this order (R83, steps 3 and 4), from a source of class ENGINEERING,
and for the TOLERANCE group from an OPERATOR as well; the bank is unchanged, and all but
the last are counted in BANK_WRITES_REFUSED (R98). -/
def Obligations.BankWriteRefused : Prop :=
  ∀ (s : State) (r : Request) (c : Instr) (i : Fin 4) (id : BankId) (n : Nat), Serves s r c →
    r.sourceClass = .engineering ∨
      (r.sourceClass = .operator ∧ ∃ (e : Fin 64) (f : Tolerance), c = .entryWriteTolerance i id.code e n f) →
    ((∃ (e : Fin 64) (f : Geometry), f.slot ≤ 5 ∧ c = .entryWriteGeometry i id.code e 0 n f) ∨
      (∃ (e : Fin 64) (f : Tolerance), c = .entryWriteTolerance i id.code e n f) ∨
      (∃ x, c = .bankParamWrite i id.code n x) ∨ (c = .bankCopy i n ∧ id = (s.strand i).active.other)) →
    let st := s.strand i
    let refused := fun (status : Status) (counts : Bool) => ∃ t, exec c s = .next t ∧
      CarriedOutQuietly s t r { status := status } ∧ t.headPort = s.headPort ∧ t.heads = s.heads ∧ t.travel = s.travel ∧
      t.routes = s.routes ∧ OtherStrands s t i ∧ t.strand i = { st with
        tplCounters := { st.tplCounters with
          bankWritesRefused :=
            if counts then inc st.tplCounters.bankWritesRefused else st.tplCounters.bankWritesRefused } }
    (st.role id = .active → refused .activeBank true) ∧ (st.role id = .pending → refused .pending true) ∧
    (st.role id = .standby →
      ((st.bank id).generation ≠ n → refused .stale true) ∧
      ((st.bank id).generation = n → n = 4294967295 → refused .outOfRange false))

/-- An accepted bank write replaces exactly the part of the standby bank that its kind names, with each value clamped to its
range, raises the generation by one and is counted; an OPERATOR's tolerances are clamped into the entry's floor and ceiling as
well (R83, R85 to R89). A value below its range is stored as the lower end of the range of R80 or R81, and one above it as the upper
end (R86). -/
def Obligations.BankWriteAccepted : Prop :=
  (let near := fun lo hi n : Nat => if n < lo then lo else if hi < n then hi else n
   let nearest := fun lo hi z : Int => if z < lo then lo else if hi < z then hi else z
   (∀ lo hi n, lo ≤ hi → clampNat lo hi n = near lo hi n) ∧ (∀ lo hi z, lo ≤ hi → clampInt lo hi z = nearest lo hi z) ∧
   (∀ f : Geometry, clampGeometry f =
     { slot := f.slot, first := near 0 511 f.first, last := near 0 511 f.last, repeats := near 0 31 f.repeats,
       stride := near 1 511 f.stride, nominal := nearest (-1000000) 1000000 f.nominal,
       floor := nearest (-100000) 0 f.floor, ceiling := nearest 0 100000 f.ceiling, minValid := near 1 512 f.minValid,
       surfaceWidth := near 1 64 f.surfaceWidth, label := near 0 65535 f.label }) ∧
   (∀ f : Tolerance, clampTolerance f =
     { lower := nearest (-100000) 0 f.lower, upper := nearest 0 100000 f.upper, smoothing := near 1 8 f.smoothing,
       warn := near 0 16 f.warn }) ∧
   ∀ x : BankHeader, (∀ k : Fin 6, (clampHeader x).widths[k] = near 64 512 x.widths[k]) ∧ clampHeader x =
     { entryCount := near 0 64 x.entryCount, widths := (clampHeader x).widths, voidAllowance := near 0 255 x.voidAllowance,
       settleCount := near 1 255 x.settleCount, driftAllowance := near 0 100000000 x.driftAllowance,
       unseenAllowance := near 0 100000000 x.unseenAllowance, surfaceAllowance := near 0 100000000 x.surfaceAllowance,
       adviceMargin := near 0 2000000 x.adviceMargin }) ∧
  ∀ (s : State) (r : Request) (i : Fin 4) (id : BankId) (n : Nat), (s.strand i).role id = .standby →
    ((s.strand i).bank id).generation = n → n < 4294967295 →
    let st := s.strand i
    let b := st.bank id
    let written := fun (c : Instr) (clamped : Bool) (x : Bank) => ∃ t, exec c s = .next t ∧
      CarriedOutQuietly s t r { status := if clamped then .acceptedClamped else .accepted } ∧ t.headPort = s.headPort ∧
      t.heads = s.heads ∧ t.travel = s.travel ∧ t.routes = s.routes ∧ OtherStrands s t i ∧
      t.strand i = { st.setBank id { x with generation := n + 1 } with
        tplCounters.bankWrites := inc st.tplCounters.bankWrites }
    (∀ (e : Fin 64) (f : Geometry), let c := Instr.entryWriteGeometry i id.code e 0 n f
      Serves s r c → r.sourceClass = .engineering → f.slot ≤ 5 →
      written c (clampGeometry f ≠ f)
        { b with entries := b.entries.set e { geo := clampGeometry f, tol := b.entries[e].tol } }) ∧
    (∀ (e : Fin 64) (f : Tolerance), let c := Instr.entryWriteTolerance i id.code e n f
      Serves s r c → r.sourceClass ≠ .none →
      let g := b.entries[e].geo
      let own := clampTolerance f
      let stored := if r.sourceClass = .operator then
          { own with lower := clampInt g.floor 0 own.lower, upper := clampInt 0 g.ceiling own.upper }
        else own
      written c (stored ≠ f) { b with entries := b.entries.set e { geo := g, tol := stored } }) ∧
    (∀ x : BankHeader, let c := Instr.bankParamWrite i id.code n x
      Serves s r c → r.sourceClass = .engineering → written c (clampHeader x ≠ x) { b with header := clampHeader x }) ∧
    (let c := Instr.bankCopy i n
     Serves s r c → r.sourceClass = .engineering →
      written c false { header := st.activeBank.header, entries := st.activeBank.entries })

/-- BANK_SWITCH with the option SWITCH (R92, R93): refused PENDING while one is pending, WRONG_STATE in DRAINING, INVALID with
the first failure of the standby bank; else pending in RUNNING and STALLED, and immediate in IDLE, ARMED and CLOSED, where the
banks exchange roles, every filter is unseeded and the heads' mismatch flags are re-evaluated. -/
def Obligations.BankSwitchJudged : Prop :=
  ∀ (s : State) (r : Request) (i : Fin 4), Serves s r (.bankSwitch i 0) → r.sourceClass = .engineering →
    let st := s.strand i
    ∃ t, exec (.bankSwitch i 0) s = .next t ∧
      (st.pendingSwitch ≠ none → OnlyAnswered s t r { status := .pending }) ∧
      (st.pendingSwitch = none →
        (st.state = .draining → OnlyAnswered s t r { status := .wrongState }) ∧
        (st.state ≠ .draining →
          (∀ n reason, st.validate (st.bank st.active.other) = some (n, reason) → OnlyAnswered s t r
            { status := .invalid, body := encCode n ++ encCode reason.code }) ∧
          (st.validate (st.bank st.active.other) = none →
            (CarriedOutQuietly s t r { status := .accepted } ∧ t.headPort = s.headPort ∧ t.travel = s.travel ∧
              t.routes = s.routes ∧ OtherStrands s t i) ∧
            (st.state = .running ∨ st.state = .stalled → t.heads = s.heads ∧ t.strand i = { st with
              pendingSwitch := some { target := st.active.other, switchLength := none } }) ∧
            (st.state = .idle ∨ st.state = .armed ∨ st.state = .closed →
              t.strand i = { st with
                active := st.active.other, filters := Vector.replicate 256 none,
                tplCounters.bankSwitches := inc st.tplCounters.bankSwitches } ∧
              ∀ h : Fin 16, t.head h = { s.head h with
                mismatch := match (s.head h).assignment, (s.head h).announced with
                  | some (j, k), some a =>
                    if j = i then a.width != (st.bank st.active.other).header.widths[k] else (s.head h).mismatch
                  | some (j, _), none => if j = i then false else (s.head h).mismatch
                  | none, _ => (s.head h).mismatch }))))

/-- BANK_SWITCH with the option CANCEL is accepted in every strand state (R94): a pending switch is cleared, with its length;
the roles, the filters and the mismatch flags are not touched. -/
def Obligations.BankSwitchCancelled : Prop :=
  ∀ (s : State) (r : Request) (i : Fin 4), Serves s r (.bankSwitchCancel i) → r.sourceClass = .engineering →
    ∃ t, exec (.bankSwitchCancel i) s = .next t ∧ CarriedOutQuietly s t r { status := .accepted } ∧
      t.strand i = { s.strand i with pendingSwitch := none } ∧ OtherStrands s t i ∧ t.headPort = s.headPort ∧
      t.heads = s.heads ∧ t.travel = s.travel ∧ t.routes = s.routes ∧
      (∀ id, id ≠ (s.strand i).active → (t.strand i).role id = .standby)

/-! ### Requests: configuration -/

/-- STRAND_CONFIG_WRITE (R51): WRONG_STATE unless the strand is IDLE; INVALID with the first slot that holds a head named at two
slots, of this request or of another strand; else the whole configuration is replaced, clamped, and the heads named in the new
and old slots take their assignments (R21). A change of its assignment re-evaluates a head's mismatch flag: set where the announced
width is present and differs from the expected width of the active bank for its new slot, else clear (R31). Nothing else of a head
changes. A numeric value outside its range is stored as the nearer end of the range of R51. -/
def Obligations.StrandConfigured : Prop :=
  (∀ p : StrandParams,
    let near := fun lo hi n : Nat => if n < lo then lo else if hi < n then hi else n
    clampParams p =
      { pitch := near 1000 50000 p.pitch, planeOffset := near 0 20000000 p.planeOffset,
        weldLength := near 0 5000000 p.weldLength, stopMarkLength := near 0 500000 p.stopMarkLength,
        triggerGuard := near 100 10000 p.triggerGuard, scanWait := near 100 50000 p.scanWait,
        missLimit := near 1 255 p.missLimit }) ∧
  ∀ (s : State) (r : Request) (i : Fin 4) (bytes : Vector Nat 6) (p : StrandParams)
    (slots : Vector (Option (Fin 16)) 6), Serves s r (.strandConfigWrite i bytes p) → r.sourceClass = .engineering →
    (∀ k : Fin 6, (slots[k] = none ∧ bytes[k] = 255) ∨ ∃ h : Fin 16, slots[k] = some h ∧ bytes[k] = h) →
    let taken := fun k : Fin 6 => ∃ h : Fin 16, slots[k] = some h ∧
      ((∃ u : Fin 6, u ≠ k ∧ slots[u] = some h) ∨ ∃ (j : Fin 4) (u : Fin 6), j ≠ i ∧ (s.strand j).slots[u] = some h)
    ∃ t, exec (.strandConfigWrite i bytes p) s = .next t ∧
      ((s.strand i).state ≠ .idle → OnlyAnswered s t r { status := .wrongState }) ∧
      ((s.strand i).state = .idle →
        (∀ k, taken k → (∀ u, u < k → ¬taken u) → OnlyAnswered s t r
          { status := .invalid, body := encCode k ++ encCode InvalidReason.headTaken.code }) ∧
        ((∀ k, ¬taken k) →
          CarriedOutQuietly s t r { status := if clampParams p ≠ p then .acceptedClamped else .accepted } ∧
          t.strand i = { s.strand i with slots := slots, params := clampParams p } ∧ OtherStrands s t i ∧
          t.headPort = s.headPort ∧ t.travel = s.travel ∧ t.routes = s.routes ∧
          ∀ h : Fin 16,
            ((∀ u : Fin 6, slots[u] ≠ some h) → (∀ u : Fin 6, (s.strand i).slots[u] ≠ some h) → t.head h = s.head h) ∧
            (∀ k, slots[k] = some h → (t.head h).assignment = some (i, k)) ∧
            ((∀ u : Fin 6, slots[u] ≠ some h) → (∃ u : Fin 6, (s.strand i).slots[u] = some h) →
              (t.head h).assignment = none ∧ (t.head h).mismatch =
                if (s.head h).assignment = none then (s.head h).mismatch else false) ∧
            (∀ k, slots[k] = some h → t.head h = { s.head h with
              assignment := some (i, k),
              mismatch := if (s.head h).assignment = some (i, k) then (s.head h).mismatch
                else match (s.head h).announced with
                  | some a => a.width != (s.strand i).activeBank.header.widths[k]
                  | none => false }) ∧
            ((∀ u : Fin 6, slots[u] ≠ some h) → (∃ u : Fin 6, (s.strand i).slots[u] = some h) → t.head h = { s.head h with
              assignment := none,
              mismatch := if (s.head h).assignment = none then (s.head h).mismatch else false }) ∧
            (t.head h).state = (s.head h).state ∧ (t.head h).misses = (s.head h).misses ∧
            (t.head h).checkErrors = (s.head h).checkErrors ∧ (t.head h).counters = (s.head h).counters))

/-- TRAVEL_CONFIG_WRITE (R41): refused WRONG_STATE unless every strand is IDLE; else all four values are written, each clamped to
its range, and the residue becomes 0; the references, the debt, L, the motion and the driving puller are kept, and in motion the
stall time counts from the last advance with the new value. A source that is not of class ENGINEERING is refused
NOT_PERMITTED. -/
def Obligations.TravelConfigured : Prop :=
  ∀ (s : State) (r : Request) (c : TravelConfig), Serves s r (.travelConfigWrite c) →
    let stored : TravelConfig :=
      { num := clampNat 1 65535 c.num, den := clampNat 1 65535 c.den, maxStep := clampNat 1 65535 c.maxStep,
        stallTime := clampNat 1 10000 c.stallTime }
    ∃ t, exec (.travelConfigWrite c) s = .next t ∧
      (r.sourceClass ≠ .engineering → OnlyAnswered s t r { status := .notPermitted }) ∧
      (r.sourceClass = .engineering →
        ((∃ i, (s.strand i).state ≠ .idle) → OnlyAnswered s t r { status := .wrongState }) ∧
        ((∀ i, (s.strand i).state = .idle) →
          CarriedOutQuietly s t r { status := if stored ≠ c then .acceptedClamped else .accepted } ∧
          t.travel = { s.travel with config := stored, residue := 0 } ∧
          (∀ a, s.travel.moving = true → s.travel.lastAdvance = some a →
            t.travel.stallAt = some (a + 1000 * stored.stallTime)) ∧ t.headPort = s.headPort ∧ t.heads = s.heads ∧
          t.strands = s.strands ∧ t.routes = s.routes))

/-- HEAD_CAL_WRITE (R22) stores its three values, each clamped to its range; a wait that runs keeps its deadline, and nothing
else of the head changes. ROUTE_WRITE replaces the action and the class of the entry it names, and NOTICE_TARGET_WRITE the
notice target (R161); a request already queued keeps its class (R11). -/
def Obligations.CalibrationAndTablesWritten : Prop :=
  (∀ (s : State) (r : Request) (h : Fin 16) (offset : Int) (delay timeout : Nat),
    Serves s r (.headCalWrite h offset delay timeout) → r.sourceClass = .engineering →
    let kept := clampInt (-1000000) 1000000 offset = offset ∧ clampNat 0 255 delay = delay ∧ clampNat 1 1000 timeout = timeout
    ∃ t, exec (.headCalWrite h offset delay timeout) s = .next t ∧
      CarriedOutQuietly s t r { status := if kept then .accepted else .acceptedClamped } ∧
      t.head h = { s.head h with
        offset := clampInt (-1000000) 1000000 offset, releaseDelay := clampNat 0 255 delay,
        announceTimeout := clampNat 1 1000 timeout } ∧
      OtherHeads s t h ∧ t.headPort = s.headPort ∧ t.travel = s.travel ∧ t.strands = s.strands ∧ t.routes = s.routes) ∧
  (∀ (s : State) (r : Request), r.sourceClass = .engineering →
    (∀ (n : Fin 64) (a : RouteAction) (k : SourceClass), Serves s r (.routeWrite n a.code k.code) →
      ∃ t, exec (.routeWrite n a.code k.code) s = .next t ∧ CarriedOutQuietly s t r { status := .accepted } ∧
        t.routes = s.routes.set n { action := a, sourceClass := k } ∧ t.headPort = s.headPort ∧ t.heads = s.heads ∧
        t.travel = s.travel ∧ t.strands = s.strands) ∧
    (∀ n : Nat, n ≤ 63 → Serves s r (.noticeTargetWrite n) →
      ∃ t, exec (.noticeTargetWrite n) s = .next t ∧ CarriedOut s t r { status := .accepted } ∧ NoNotice s t ∧
        OneReply s t r { status := .accepted } ∧ t.handler.noticeTarget = n ∧ t.handler.restart = s.handler.restart ∧ t.headPort = s.headPort ∧
        t.heads = s.heads ∧ t.travel = s.travel ∧ t.strands = s.strands ∧ t.routes = s.routes))

/-! ### Requests: control -/

/-- HEAD_HOLD (R23): in every state of the head a HEAD_HOLD frame is offered to the Head Port, and the head is HELD with neither
deadline nor fault cause; its counts, announced fields and mismatch flag are kept, and a head already HELD raises no notice.
Any other raises HEAD_STATE with the head, its old state and HELD, without a cause (R37). -/
def Obligations.HeadHeld : Prop :=
  ∀ (s : State) (r : Request) (n : Nat), Serves s r (.headHold n) →
    ∃ t, exec (.headHold n) s = .next t ∧
      (r.sourceClass = .none → OnlyAnswered s t r { status := .notPermitted }) ∧
      (r.sourceClass ≠ .none → 15 < n → OnlyAnswered s t r { status := .outOfRange }) ∧
      (∀ h : Fin 16, r.sourceClass ≠ .none → n = h →
        CarriedOut s t r { status := .accepted } ∧ SameHandling s t ∧
        t.headPort = s.headPort.enqueueControl (.hold h) ∧
        t.head h = { s.head h with state := .held, deadline := none, cause := none } ∧ OtherHeads s t h ∧
        ((s.head h).state = .held → NoNotice s t) ∧
        ((s.head h).state ≠ .held → t.handler.noticeSeq = s.handler.noticeSeq + 1) ∧
        t.travel = s.travel ∧ t.strands = s.strands ∧ t.routes = s.routes ∧
        (let held := State.setHead { s with headPort := t.headPort } h (t.head h)
         t = (if (s.head h).state = .held then held else held.raise (.headState h (s.head h).state .held none)).finish r
          { status := .accepted }))

/-- HEAD_RELEASE (R24): a head in HELD, OFFLINE or FAULTED enters RELEASING with its deadline; one in ONLINE or SILENT is held
first; one in RELEASING or AWAITING is refused WRONG_STATE. With a release delay of 0 the head goes on to AWAITING (R25). Each
change of the state raises HEAD_STATE with the head, the old and the new state and no cause, in the order of the changes (R37). -/
def Obligations.HeadReleased : Prop :=
  ∀ (s : State) (r : Request) (h : Fin 16), Serves s r (.headRelease h) → r.sourceClass ≠ .none →
    let x := s.head h
    ∃ t, exec (.headRelease h) s = .next t ∧
      (x.state = .releasing ∨ x.state = .awaiting → OnlyAnswered s t r { status := .wrongState }) ∧
      (x.state ≠ .releasing ∧ x.state ≠ .awaiting →
        CarriedOut s t r { status := .accepted } ∧ SameHandling s t ∧ OtherHeads s t h ∧ t.travel = s.travel ∧
        t.strands = s.strands ∧ t.routes = s.routes ∧
        (let p := if x.state = .online ∨ x.state = .silent then s.headPort.enqueueControl (.hold h) else s.headPort
         let notices := if x.state = .online ∨ x.state = .silent then 2 else 1
         (x.releaseDelay ≠ 0 → t.headPort = p ∧ t.handler.noticeSeq = s.handler.noticeSeq + notices ∧
            t.head h = { x with state := .releasing, cause := none, deadline := some (s.now + 1000 * x.releaseDelay) }) ∧
         (x.releaseDelay = 0 → t.headPort = p.enqueueControl (.release h) ∧
            t.handler.noticeSeq = s.handler.noticeSeq + notices + 1 ∧
            t.head h = { x with
              state := .awaiting, cause := none, deadline := some (s.now + 1000 * x.announceTimeout) }) ∧
         let served := x.state = .online ∨ x.state = .silent
         let held := if served then
             (State.setHead { s with headPort := p } h { x with state := .held, cause := none, deadline := none }).raise
               (.headState h x.state .held none)
           else s
         let waits := (held.setHead h { x with
           state := .releasing, cause := none, deadline := some (s.now + 1000 * x.releaseDelay) }).raise
             (.headState h (if served then .held else x.state) .releasing none)
         t = State.finish
           (if x.releaseDelay = 0 then
              (State.setHead { waits with headPort := t.headPort } h (t.head h)).raise
                (.headState h .releasing .awaiting none)
            else waits) r { status := .accepted }))

/-- STRAND_START (R52): WRONG_STATE unless the strand is IDLE and the length limit flag clear; INVALID with the first failure of
the active bank; else the strand is ARMED with origin L, ℓ 0 and empty lists, its filters unseeded, and its heads refreshed
(R35). The closed pieces, the held advice and the piece counter are kept (R137, R149). Each head that returns from SILENT
raises its HEAD_STATE and the strand one STRAND_STATE from IDLE to ARMED (R37, R57). That the heads come first and in head order is
the model's choice (entries 11 and 25). -/
def Obligations.StrandStarted : Prop :=
  ∀ (s : State) (r : Request) (i : Fin 4), Serves s r (.strandStart i) → r.sourceClass ≠ .none →
    let st := s.strand i
    ∃ t, exec (.strandStart i) s = .next t ∧
      (st.state ≠ .idle ∨ s.travel.limitReached = true → OnlyAnswered s t r { status := .wrongState }) ∧
      (st.state = .idle → s.travel.limitReached = false →
        (∀ n reason, st.validate st.activeBank = some (n, reason) →
          OnlyAnswered s t r { status := .invalid, body := encCode n ++ encCode reason.code }) ∧
        (st.validate st.activeBank = none →
          CarriedOut s t r { status := .accepted } ∧ SameHandling s t ∧
          t.strand i = { st with
            state := .armed, origin := some s.travel.length, sliceIndex := 0, lastTriggered := none,
            lastTriggerTime := none, lastReleased := none, front := 0, retired := 0, pendingSwitch := none, sets := [],
            runs := [], marks := [], settle := 0, cuts := [], overrun := false, last := none,
            filters := Vector.replicate 256 none } ∧ t.ell i = 0 ∧ OtherStrands s t i ∧
          (∀ h : Fin 16, t.head h =
            if (s.head h).assignedTo i then
              { s.head h with
                misses := 0, state := if (s.head h).state = .silent then .online else (s.head h).state }
            else s.head h) ∧
          t.headPort = s.headPort ∧ t.travel = s.travel ∧ t.routes = s.routes ∧
          t = State.finish (((List.finRange 16).foldl
            (fun v h =>
              if (s.head h).assignedTo i then
                if (s.head h).state = .silent then (v.setHead h (t.head h)).raise (.headState h .silent .online none)
                else v.setHead h (t.head h)
              else v)
            (s.setStrand i (t.strand i))).raise (.strandState i .idle .armed)) r { status := .accepted }))

/-- STRAND_STOP (R54, R55): refused WRONG_STATE in IDLE, DRAINING and CLOSED; else the strand is DRAINING, and leaves DRAINING at
once where it holds no set and no evaluation: for CLOSED, or for IDLE where its map and its cut list are empty. Leaving DRAINING
closes the open run at the front, as O36 states, then takes a pending switch, whether or not its length is fixed, with BANK_TAKEN
that carries the switch length, if it is fixed, and no slice (R97), and then the state is CLOSED; the close check and the check for
IDLE follow. With runs left and no pending cut the strand stays CLOSED. Each change of the state raises its STRAND_STATE (R57). -/
def Obligations.StrandStopped : Prop :=
  (∀ (s : State) (i : Fin 4),
    let st := s.strand i
    ((s.drainCheck i = if st.state = .draining ∧ st.sets = [] ∧ st.eval = none then s.leaveDraining i else s) ∧
     (s.idleCheck i = if st.state = .closed ∧ st.runs = [] ∧ st.cuts = [] then
        (s.modStrand i fun a =>
          { a with
            state := .idle, origin := none, sliceIndex := 0, lastTriggered := none, lastTriggerTime := none,
            lastReleased := none, front := 0, retired := 0, pendingSwitch := none, runs := [], marks := [],
            settle := 0 }).raise (.strandState i .closed .idle)
      else s) ∧
     (let t := s.switchBanks i
      t = { s with heads := t.heads, strands := t.strands } ∧ OtherStrands s t i ∧
      t.strand i = { st with
        active := st.active.other, pendingSwitch := none, filters := Vector.replicate 256 none,
        tplCounters := { st.tplCounters with bankSwitches := inc st.tplCounters.bankSwitches } } ∧
      ∀ h : Fin 16, t.head h = { s.head h with
        mismatch := match (s.head h).assignment, (s.head h).announced with
          | some (j, k), some a =>
            if j = i then a.width != (st.bank st.active.other).header.widths[k] else (s.head h).mismatch
          | some (j, _), none => if j = i then false else (s.head h).mismatch
          | none, _ => (s.head h).mismatch })) ∧
    (st.state.live = false → s.endRun i = s) ∧
    (st.state.live = true → s.endRun i =
      ((s.modStrand i fun a => { a with state := .draining }).raise (.strandState i st.state .draining)).drainCheck i) ∧
    (st.state = .draining →
      let ended := s.closeAtEnd i
      let switched := match st.pendingSwitch with
        | some p => (ended.switchBanks i).raise
            (.bankTaken i st.active.other (st.bank st.active.other).generation p.switchLength none)
        | none => ended
      let closed := (switched.modStrand i fun a => { a with state := .closed }).raise (.strandState i .draining .closed)
      s.leaveDraining i = (closed.closeCheck i).idleCheck i ∧
      (st.runs ≠ [] → st.cuts = [] → s.leaveDraining i = closed) ∧
      (st.runs = [] → st.cuts = [] → s.leaveDraining i = closed.idleCheck i))) ∧
  ∀ (s : State) (r : Request) (i : Fin 4), Serves s r (.strandStop i) → r.sourceClass ≠ .none →
    let st := s.strand i
    ∃ t, exec (.strandStop i) s = .next t ∧
      (st.state.live = false → OnlyAnswered s t r { status := .wrongState }) ∧
      (st.state.live = true →
        CarriedOut s t r { status := .accepted } ∧ SameHandling s t ∧ OtherStrands s t i ∧ t.headPort = s.headPort ∧
        t.travel = s.travel ∧ t.routes = s.routes ∧
        t = (s.endRun i).finish r { status := .accepted } ∧
        (st.sets = [] → st.eval = none → st.runs ≠ [] → st.cuts = [] → (t.strand i).state = .closed) ∧
        (st.sets ≠ [] ∨ st.eval ≠ none → t.strand i = { st with state := .draining } ∧ t.heads = s.heads) ∧
        (st.sets = [] → st.eval = none →
          ((t.strand i).state = .closed ∨ (t.strand i).state = .idle) ∧ (t.strand i).pendingSwitch = none ∧
          (∀ p, st.pendingSwitch = some p → (t.strand i).active = st.active.other) ∧
          (st.runs = [] → st.cuts = [] → (t.strand i).state = .idle ∧ (t.strand i).origin = none)))

/-- STRAND_RESET (R56): in every state the strand's sets, evaluation, pending switch, filters, map, cuts, pieces and advice are
discarded and the strand is IDLE with its runtime fields cleared; its configuration, its banks, its active bank and its other
counters are kept, and so are the heads and the Travel Unit. A strand that was not IDLE raises one STRAND_STATE from its state to
IDLE, and one that was raises none (R57). -/
def Obligations.StrandResetClears : Prop :=
  ∀ (s : State) (r : Request) (n : Nat), Serves s r (.strandReset n) →
    ∃ t, exec (.strandReset n) s = .next t ∧
      (r.sourceClass = .none → OnlyAnswered s t r { status := .notPermitted }) ∧
      (r.sourceClass ≠ .none → 3 < n → OnlyAnswered s t r { status := .outOfRange }) ∧
      (∀ i : Fin 4, r.sourceClass ≠ .none → n = i →
        CarriedOut s t r { status := .accepted } ∧ SameHandling s t ∧ OtherStrands s t i ∧ t.headPort = s.headPort ∧
        t.heads = s.heads ∧ t.travel = s.travel ∧ t.routes = s.routes ∧
        ((s.strand i).state = .idle → NoNotice s t) ∧
        t.strand i = { s.strand i with
          state := .idle, origin := none, sliceIndex := 0, lastTriggered := none, lastTriggerTime := none,
          lastReleased := none, front := 0, retired := 0, pendingSwitch := none, sets := [], eval := none, unseed := 0,
          filters := Vector.replicate 256 none, last := none, runs := [], marks := [], settle := 0, cuts := [],
          overrun := false, closed := [], held := [], pieceCounter := 0,
          engCounters.evaluationsDiscarded :=
            if (s.strand i).eval = none then satAdd (s.strand i).engCounters.evaluationsDiscarded 0
            else inc (s.strand i).engCounters.evaluationsDiscarded } ∧
        t = (if (s.strand i).state = .idle then s.setStrand i (t.strand i)
          else (s.setStrand i (t.strand i)).raise (.strandState i (s.strand i).state .idle)).finish r
            { status := .accepted })

/-- COUNTERS_CLEAR (R160): every counter of every group is 0, and nothing that is not a counter changes but for the reply, which
is not counted: of the Line Port the parser, both turns, the transmitter, its preference, the forward queue and the older own-origin
records are kept, but that a transmitter that sent idle symbols selects. -/
def Obligations.CountersCleared : Prop :=
  ∀ (s : State) (r : Request), Serves s r .countersClear → r.sourceClass ≠ .none →
    ∃ t, exec .countersClear s = .next t ∧ Answered s t r { status := .accepted } ∧
      (∀ g l, t.counterGroup g = some l → ∀ n ∈ l, n = 0) ∧
      t.pending = s.pending ∧ t.now = s.now ∧ t.ownStation = s.ownStation ∧ t.routes = s.routes ∧
      t.headPort = { s.headPort with counters := {}, headPortRequest := 0, triggerDrop := 0, controlDrop := 0 } ∧
      t.linePort.parser = s.linePort.parser ∧ t.linePort.adviceTurn = s.linePort.adviceTurn ∧
      t.linePort.pieceTurn = s.linePort.pieceTurn ∧ LineGrows s.linePort t.linePort ∧ SameHandling s t ∧
      OneReply { s with linePort := { s.linePort with counters := {}, noticeDrop := 0 } } t r { status := .accepted } ∧
      t.handler.noticeSeq = s.handler.noticeSeq ∧ t.travel = { s.travel with counters := {} } ∧ (∀ h, t.head h = { s.head h with counters := {} }) ∧
      ∀ i, t.strand i = { s.strand i with
        counters := {}, asmCounters := {}, tplCounters := {}, engCounters := {}, mapCounters := {}, pieceCounters := {} }

/-- RESTART (R162): when it is carried out only its reply is formed, and no request is carried out from then on; at the end of
its reply's transmission the Line Port selects nothing, and the RESTART is due (R18). The phases are the model's deduction
(entry 9). -/
def Obligations.RestartCarriedOut : Prop :=
  (∀ (s : State) (r : Request), Serves s r .restart → r.sourceClass = .engineering →
    ∃ t, exec .restart s = .next t ∧ CarriedOut s t r { status := .accepted } ∧ NoNotice s t ∧
      OneReply s t r { status := .accepted } ∧ t.handler.restart = .carried ∧ t.handler.noticeTarget = s.handler.noticeTarget ∧ t.headPort = s.headPort ∧
      t.heads = s.heads ∧ t.travel = s.travel ∧ t.strands = s.strands ∧ t.routes = s.routes ∧
      ∀ c, c.isRequest = true → exec c t = .next t) ∧
  (∀ (s : State) (r : Reply), s.linePort.tx = some (.own (.reply r)) → r.kind = 23 → r.status = .accepted →
    s.handler.restart = .carried → exec (.frameTransmitted .line) s = .next
      { s with
        linePort := { s.linePort with tx := none, counters.framesSent := inc s.linePort.counters.framesSent },
        handler := { s.handler with restart := .due } })

/-- A RESTART takes effect, as a command of its own after the end of its reply (entry 9; R1, R13 to R18, R39, R40, R50, R56,
R76, R79, R99, R103, R119, R137, R162): the parsers, the queues, the Travel Unit and the strands' runtime state take their
values, a frame in transmission at the Head Port goes on, the heads keep their records but for their counts, a SILENT head is
ONLINE and a wait starts again, the HEAD_RELEASE frames of the AWAITING heads are placed again in head order, and the
configuration, the banks, the routes and the counters are kept but for a discarded evaluation's count. That the clock is kept is
the model's choice (entry 1). -/
def Obligations.RestartTakesEffect : Prop :=
  ∀ s : State, s.handler.restart = .due →
    ∃ t, exec .restartTakesEffect s = .next t ∧
      t.pending = s.pending ∧ t.now = s.now ∧ t.ownStation = s.ownStation ∧ t.routes = s.routes ∧ t.scans = s.scans ∧
      t.pressUnknown = s.pressUnknown ∧ t.cutInvalid = s.cutInvalid ∧
      (∀ p : Port, t.parser p = .hunt ∧ t.forwardOf p = [] ∧ t.portCounters p = s.portCounters p) ∧
      t.linePort =
        { parser := .hunt, forward := [], own := [], tx := none, prefer := .own, adviceTurn := 0, pieceTurn := 0,
          counters := s.linePort.counters, noticeDrop := s.linePort.noticeDrop } ∧
      (∀ x, s.headPort.tx = some x → t.headPort.tx = some x ∧
        ((∀ h, (s.head h).state ≠ .awaiting) → t.headPort.own = [])) ∧
      t.headPort =
        (allHeads.filter fun h => (s.head h).state = .awaiting).foldl (fun p h => p.enqueueControl (.release h))
          { s.headPort with parser := .hunt, forward := [], own := [] } ∧
      t.travel = { ({} : Travel) with config := s.travel.config, counters := s.travel.counters } ∧
      t.handler = { ({} : Handler) with
        noticeTarget := s.handler.noticeTarget, noticeSeq := s.handler.noticeSeq, counters := s.handler.counters } ∧
      (∀ h, t.head h = { s.head h with
        checkErrors := 0, misses := 0,
        state := if (s.head h).state = .silent then .online else (s.head h).state,
        deadline := if (s.head h).state = .releasing then some (s.now + 1000 * (s.head h).releaseDelay)
          else if (s.head h).state = .awaiting then some (s.now + 1000 * (s.head h).announceTimeout)
          else (s.head h).deadline }) ∧
      ∀ i, t.strand i = { s.strand i with
        state := .idle, origin := none, sliceIndex := 0, lastTriggered := none, lastTriggerTime := none,
        lastReleased := none, front := 0, retired := 0, pendingSwitch := none, sets := [], eval := none, unseed := 0,
        filters := Vector.replicate 256 none, last := none, runs := [], marks := [], settle := 0, cuts := [],
        overrun := false, closed := [], held := [], pieceCounter := 0,
        engCounters.evaluationsDiscarded :=
          if (s.strand i).eval = none then satAdd (s.strand i).engCounters.evaluationsDiscarded 0
          else inc (s.strand i).engCounters.evaluationsDiscarded }
end

