-- ==== Sys2Proof/Laws/Cover.lean ====
section
/-! SUPPORT. The cover of a strand (R120): what a list of runs that covers a stretch looks like, and how covers are put together. -/

namespace Sys2Proof.Machine

/-- Where a closed run ends does not depend on the front. -/
theorem Run.stopAt_of_closed {r : Run} (h : r.isOpen = false) (f g : Nat) : r.stopAt f = r.stopAt g := by
  cases hb : r.body <;> simp_all [Run.isOpen, Run.stopAt, Run.stop?]

/-- An open run reaches to the front. -/
theorem Run.stopAt_of_open {r : Run} (h : r.isOpen = true) (f : Nat) : r.stopAt f = f := by
  cases hb : r.body <;> simp_all [Run.isOpen, Run.stopAt, Run.stop?]

@[simp] theorem tiles_nil (start front : Nat) : Tiles [] start front ↔ start = front := .rfl

theorem tiles_cons (r : Run) (rs : List Run) (start front : Nat) :
    Tiles (r :: rs) start front ↔ r.start = start ∧ start < r.stopAt front ∧ Tiles rs (r.stopAt front) front := .rfl

/-- A covered stretch begins at or before the front. -/
theorem Tiles.le : ∀ {runs : List Run} {start front : Nat}, Tiles runs start front → start ≤ front
  | [], _, _, h => Nat.le_of_eq h
  | _ :: _, _, _, ⟨_, hlt, h⟩ => hlt.le.trans h.le

/-- An empty stretch is covered by no run. -/
theorem Tiles.eq_nil : ∀ {runs : List Run} {front : Nat}, Tiles runs front front → runs = []
  | [], _, _ => rfl
  | _ :: _, _, ⟨_, hlt, h⟩ => absurd h.le (by omega)

/-- A cover in front of a closed list joins the cover of the rest. -/
theorem tiles_append {xs : List Run} (ys : List Run) (start front : Nat) (hx : ∀ r ∈ xs, r.isOpen = false) :
    Tiles (xs ++ ys) start front ↔ ∃ mid, Tiles xs start mid ∧ Tiles ys mid front := by
  induction xs generalizing start with
  | nil => simp
  | cons r rs ih =>
    have hr := hx r (by simp)
    have ih' := fun start => ih start fun x hm => hx x (by simp [hm])
    simp only [List.cons_append, tiles_cons, ih']
    constructor
    · rintro ⟨h1, h2, mid, h3, h4⟩
      exact ⟨mid, ⟨h1, Run.stopAt_of_closed hr front mid ▸ h2, Run.stopAt_of_closed hr front mid ▸ h3⟩, h4⟩
    · rintro ⟨mid, ⟨h1, h2, h3⟩, h4⟩
      exact ⟨h1, Run.stopAt_of_closed hr mid front ▸ h2, mid, Run.stopAt_of_closed hr mid front ▸ h3, h4⟩

/-- Only the last run of a cover can be open. -/
theorem Tiles.closed_before_last {r : Run} : ∀ {xs : List Run} {start front : Nat},
    Tiles (xs ++ [r]) start front → ∀ x ∈ xs, x.isOpen = false
  | x :: xs, _, front, ⟨_, hlt, h⟩, y, hy => by
    rcases List.mem_cons.mp hy with rfl | hm
    · by_contra ho
      rw [Run.stopAt_of_open (by simpa using ho)] at h
      simpa using h.eq_nil
    · exact h.closed_before_last y hm

/-- The last run of a cover ends at the front. -/
theorem Tiles.last_stop {r : Run} : ∀ {xs : List Run} {start front : Nat},
    Tiles (xs ++ [r]) start front → r.stopAt front = front
  | [], _, _, ⟨_, _, h⟩ => h
  | _ :: _, _, _, ⟨_, _, h⟩ => h.last_stop

end Sys2Proof.Machine
end

