-- ==== Sys2Proof/Laws/State.lean ====
section
/-! SUPPORT. What each basic update of the state leaves as it is, one lemma per field, and what the entry of a table reads
after an update. -/

namespace Sys2Proof.Machine

variable (s : State)

/-! ### A head replaced -/

@[simp] theorem State.setHead_pending (h : Fin 16) (r : HeadRecord) : (s.setHead h r).pending = s.pending := by rfl
@[simp] theorem State.setHead_now (h : Fin 16) (r : HeadRecord) : (s.setHead h r).now = s.now := by rfl
@[simp] theorem State.setHead_ownStation (h : Fin 16) (r : HeadRecord) :
    (s.setHead h r).ownStation = s.ownStation := by rfl
@[simp] theorem State.setHead_routes (h : Fin 16) (r : HeadRecord) : (s.setHead h r).routes = s.routes := by rfl
@[simp] theorem State.setHead_headPort (h : Fin 16) (r : HeadRecord) : (s.setHead h r).headPort = s.headPort := by rfl
@[simp] theorem State.setHead_linePort (h : Fin 16) (r : HeadRecord) : (s.setHead h r).linePort = s.linePort := by rfl
@[simp] theorem State.setHead_travel (h : Fin 16) (r : HeadRecord) : (s.setHead h r).travel = s.travel := by rfl
@[simp] theorem State.setHead_strands (h : Fin 16) (r : HeadRecord) : (s.setHead h r).strands = s.strands := by rfl
@[simp] theorem State.setHead_scans (h : Fin 16) (r : HeadRecord) : (s.setHead h r).scans = s.scans := by rfl
@[simp] theorem State.setHead_pressUnknown (h : Fin 16) (r : HeadRecord) :
    (s.setHead h r).pressUnknown = s.pressUnknown := by rfl
@[simp] theorem State.setHead_cutInvalid (h : Fin 16) (r : HeadRecord) :
    (s.setHead h r).cutInvalid = s.cutInvalid := by rfl
@[simp] theorem State.setHead_handler (h : Fin 16) (r : HeadRecord) : (s.setHead h r).handler = s.handler := by rfl
@[simp] theorem State.setHead_strand (h : Fin 16) (r : HeadRecord) (j : Fin 4) :
    (s.setHead h r).strand j = s.strand j := by rfl

/-! ### A strand replaced -/

@[simp] theorem State.setStrand_pending (i : Fin 4) (st : Strand) : (s.setStrand i st).pending = s.pending := by rfl
@[simp] theorem State.setStrand_now (i : Fin 4) (st : Strand) : (s.setStrand i st).now = s.now := by rfl
@[simp] theorem State.setStrand_ownStation (i : Fin 4) (st : Strand) :
    (s.setStrand i st).ownStation = s.ownStation := by rfl
@[simp] theorem State.setStrand_routes (i : Fin 4) (st : Strand) : (s.setStrand i st).routes = s.routes := by rfl
@[simp] theorem State.setStrand_headPort (i : Fin 4) (st : Strand) : (s.setStrand i st).headPort = s.headPort := by rfl
@[simp] theorem State.setStrand_linePort (i : Fin 4) (st : Strand) : (s.setStrand i st).linePort = s.linePort := by rfl
@[simp] theorem State.setStrand_heads (i : Fin 4) (st : Strand) : (s.setStrand i st).heads = s.heads := by rfl
@[simp] theorem State.setStrand_travel (i : Fin 4) (st : Strand) : (s.setStrand i st).travel = s.travel := by rfl
@[simp] theorem State.setStrand_scans (i : Fin 4) (st : Strand) : (s.setStrand i st).scans = s.scans := by rfl
@[simp] theorem State.setStrand_pressUnknown (i : Fin 4) (st : Strand) :
    (s.setStrand i st).pressUnknown = s.pressUnknown := by rfl
@[simp] theorem State.setStrand_cutInvalid (i : Fin 4) (st : Strand) :
    (s.setStrand i st).cutInvalid = s.cutInvalid := by rfl
@[simp] theorem State.setStrand_handler (i : Fin 4) (st : Strand) : (s.setStrand i st).handler = s.handler := by rfl
@[simp] theorem State.setStrand_head (i : Fin 4) (st : Strand) (k : Fin 16) :
    (s.setStrand i st).head k = s.head k := by rfl

/-! ### A head changed -/

@[simp] theorem State.modHead_pending (h : Fin 16) (f : HeadRecord → HeadRecord) :
    (s.modHead h f).pending = s.pending := by rfl
@[simp] theorem State.modHead_now (h : Fin 16) (f : HeadRecord → HeadRecord) : (s.modHead h f).now = s.now := by rfl
@[simp] theorem State.modHead_ownStation (h : Fin 16) (f : HeadRecord → HeadRecord) :
    (s.modHead h f).ownStation = s.ownStation := by rfl
@[simp] theorem State.modHead_routes (h : Fin 16) (f : HeadRecord → HeadRecord) :
    (s.modHead h f).routes = s.routes := by rfl
@[simp] theorem State.modHead_headPort (h : Fin 16) (f : HeadRecord → HeadRecord) :
    (s.modHead h f).headPort = s.headPort := by rfl
@[simp] theorem State.modHead_linePort (h : Fin 16) (f : HeadRecord → HeadRecord) :
    (s.modHead h f).linePort = s.linePort := by rfl
@[simp] theorem State.modHead_travel (h : Fin 16) (f : HeadRecord → HeadRecord) :
    (s.modHead h f).travel = s.travel := by rfl
@[simp] theorem State.modHead_strands (h : Fin 16) (f : HeadRecord → HeadRecord) :
    (s.modHead h f).strands = s.strands := by rfl
@[simp] theorem State.modHead_scans (h : Fin 16) (f : HeadRecord → HeadRecord) :
    (s.modHead h f).scans = s.scans := by rfl
@[simp] theorem State.modHead_pressUnknown (h : Fin 16) (f : HeadRecord → HeadRecord) :
    (s.modHead h f).pressUnknown = s.pressUnknown := by rfl
@[simp] theorem State.modHead_cutInvalid (h : Fin 16) (f : HeadRecord → HeadRecord) :
    (s.modHead h f).cutInvalid = s.cutInvalid := by rfl
@[simp] theorem State.modHead_handler (h : Fin 16) (f : HeadRecord → HeadRecord) :
    (s.modHead h f).handler = s.handler := by rfl
@[simp] theorem State.modHead_strand (h : Fin 16) (f : HeadRecord → HeadRecord) (j : Fin 4) :
    (s.modHead h f).strand j = s.strand j := by rfl

/-! ### A strand changed -/

@[simp] theorem State.modStrand_pending (i : Fin 4) (f : Strand → Strand) :
    (s.modStrand i f).pending = s.pending := by rfl
@[simp] theorem State.modStrand_now (i : Fin 4) (f : Strand → Strand) : (s.modStrand i f).now = s.now := by rfl
@[simp] theorem State.modStrand_ownStation (i : Fin 4) (f : Strand → Strand) :
    (s.modStrand i f).ownStation = s.ownStation := by rfl
@[simp] theorem State.modStrand_routes (i : Fin 4) (f : Strand → Strand) : (s.modStrand i f).routes = s.routes := by rfl
@[simp] theorem State.modStrand_headPort (i : Fin 4) (f : Strand → Strand) :
    (s.modStrand i f).headPort = s.headPort := by rfl
@[simp] theorem State.modStrand_linePort (i : Fin 4) (f : Strand → Strand) :
    (s.modStrand i f).linePort = s.linePort := by rfl
@[simp] theorem State.modStrand_heads (i : Fin 4) (f : Strand → Strand) : (s.modStrand i f).heads = s.heads := by rfl
@[simp] theorem State.modStrand_travel (i : Fin 4) (f : Strand → Strand) : (s.modStrand i f).travel = s.travel := by rfl
@[simp] theorem State.modStrand_scans (i : Fin 4) (f : Strand → Strand) : (s.modStrand i f).scans = s.scans := by rfl
@[simp] theorem State.modStrand_pressUnknown (i : Fin 4) (f : Strand → Strand) :
    (s.modStrand i f).pressUnknown = s.pressUnknown := by rfl
@[simp] theorem State.modStrand_cutInvalid (i : Fin 4) (f : Strand → Strand) :
    (s.modStrand i f).cutInvalid = s.cutInvalid := by rfl
@[simp] theorem State.modStrand_handler (i : Fin 4) (f : Strand → Strand) :
    (s.modStrand i f).handler = s.handler := by rfl
@[simp] theorem State.modStrand_head (i : Fin 4) (f : Strand → Strand) (k : Fin 16) :
    (s.modStrand i f).head k = s.head k := by rfl

/-! ### The time -/

@[simp] theorem State.reach_pending (time : Nat) : (s.reach time).pending = s.pending := by rfl
@[simp] theorem State.reach_ownStation (time : Nat) : (s.reach time).ownStation = s.ownStation := by rfl
@[simp] theorem State.reach_routes (time : Nat) : (s.reach time).routes = s.routes := by rfl
@[simp] theorem State.reach_headPort (time : Nat) : (s.reach time).headPort = s.headPort := by rfl
@[simp] theorem State.reach_linePort (time : Nat) : (s.reach time).linePort = s.linePort := by rfl
@[simp] theorem State.reach_heads (time : Nat) : (s.reach time).heads = s.heads := by rfl
@[simp] theorem State.reach_travel (time : Nat) : (s.reach time).travel = s.travel := by rfl
@[simp] theorem State.reach_strands (time : Nat) : (s.reach time).strands = s.strands := by rfl
@[simp] theorem State.reach_scans (time : Nat) : (s.reach time).scans = s.scans := by rfl
@[simp] theorem State.reach_pressUnknown (time : Nat) : (s.reach time).pressUnknown = s.pressUnknown := by rfl
@[simp] theorem State.reach_cutInvalid (time : Nat) : (s.reach time).cutInvalid = s.cutInvalid := by rfl
@[simp] theorem State.reach_handler (time : Nat) : (s.reach time).handler = s.handler := by rfl
@[simp] theorem State.reach_strand (time : Nat) (j : Fin 4) : (s.reach time).strand j = s.strand j := by rfl
@[simp] theorem State.reach_head (time : Nat) (k : Fin 16) : (s.reach time).head k = s.head k := by rfl

/-! ### One microsecond -/

@[simp] theorem State.tick_pending : (s.tick).pending = s.pending := by rfl
@[simp] theorem State.tick_ownStation : (s.tick).ownStation = s.ownStation := by rfl
@[simp] theorem State.tick_routes : (s.tick).routes = s.routes := by rfl
@[simp] theorem State.tick_headPort : (s.tick).headPort = s.headPort := by rfl
@[simp] theorem State.tick_linePort : (s.tick).linePort = s.linePort := by rfl
@[simp] theorem State.tick_heads : (s.tick).heads = s.heads := by rfl
@[simp] theorem State.tick_travel : (s.tick).travel = s.travel := by rfl
@[simp] theorem State.tick_strands : (s.tick).strands = s.strands := by rfl
@[simp] theorem State.tick_scans : (s.tick).scans = s.scans := by rfl
@[simp] theorem State.tick_pressUnknown : (s.tick).pressUnknown = s.pressUnknown := by rfl
@[simp] theorem State.tick_cutInvalid : (s.tick).cutInvalid = s.cutInvalid := by rfl
@[simp] theorem State.tick_handler : (s.tick).handler = s.handler := by rfl
@[simp] theorem State.tick_strand (j : Fin 4) : (s.tick).strand j = s.strand j := by rfl
@[simp] theorem State.tick_head (k : Fin 16) : (s.tick).head k = s.head k := by rfl

/-! ### A notice number taken -/

@[simp] theorem State.takeNoticeNumber_pending : (s.takeNoticeNumber).pending = s.pending := by rfl
@[simp] theorem State.takeNoticeNumber_now : (s.takeNoticeNumber).now = s.now := by rfl
@[simp] theorem State.takeNoticeNumber_ownStation : (s.takeNoticeNumber).ownStation = s.ownStation := by rfl
@[simp] theorem State.takeNoticeNumber_routes : (s.takeNoticeNumber).routes = s.routes := by rfl
@[simp] theorem State.takeNoticeNumber_headPort : (s.takeNoticeNumber).headPort = s.headPort := by rfl
@[simp] theorem State.takeNoticeNumber_linePort : (s.takeNoticeNumber).linePort = s.linePort := by rfl
@[simp] theorem State.takeNoticeNumber_heads : (s.takeNoticeNumber).heads = s.heads := by rfl
@[simp] theorem State.takeNoticeNumber_travel : (s.takeNoticeNumber).travel = s.travel := by rfl
@[simp] theorem State.takeNoticeNumber_strands : (s.takeNoticeNumber).strands = s.strands := by rfl
@[simp] theorem State.takeNoticeNumber_scans : (s.takeNoticeNumber).scans = s.scans := by rfl
@[simp] theorem State.takeNoticeNumber_pressUnknown : (s.takeNoticeNumber).pressUnknown = s.pressUnknown := by rfl
@[simp] theorem State.takeNoticeNumber_cutInvalid : (s.takeNoticeNumber).cutInvalid = s.cutInvalid := by rfl
@[simp] theorem State.takeNoticeNumber_strand (j : Fin 4) : (s.takeNoticeNumber).strand j = s.strand j := by rfl
@[simp] theorem State.takeNoticeNumber_head (k : Fin 16) : (s.takeNoticeNumber).head k = s.head k := by rfl

/-! ### A trigger offered -/

@[simp] theorem State.enqueueTrigger_pending (f : HeadFrame) : (s.enqueueTrigger f).pending = s.pending := by rfl
@[simp] theorem State.enqueueTrigger_now (f : HeadFrame) : (s.enqueueTrigger f).now = s.now := by rfl
@[simp] theorem State.enqueueTrigger_ownStation (f : HeadFrame) :
    (s.enqueueTrigger f).ownStation = s.ownStation := by rfl
@[simp] theorem State.enqueueTrigger_routes (f : HeadFrame) : (s.enqueueTrigger f).routes = s.routes := by rfl
@[simp] theorem State.enqueueTrigger_linePort (f : HeadFrame) : (s.enqueueTrigger f).linePort = s.linePort := by rfl
@[simp] theorem State.enqueueTrigger_heads (f : HeadFrame) : (s.enqueueTrigger f).heads = s.heads := by rfl
@[simp] theorem State.enqueueTrigger_travel (f : HeadFrame) : (s.enqueueTrigger f).travel = s.travel := by rfl
@[simp] theorem State.enqueueTrigger_strands (f : HeadFrame) : (s.enqueueTrigger f).strands = s.strands := by rfl
@[simp] theorem State.enqueueTrigger_scans (f : HeadFrame) : (s.enqueueTrigger f).scans = s.scans := by rfl
@[simp] theorem State.enqueueTrigger_pressUnknown (f : HeadFrame) :
    (s.enqueueTrigger f).pressUnknown = s.pressUnknown := by rfl
@[simp] theorem State.enqueueTrigger_cutInvalid (f : HeadFrame) :
    (s.enqueueTrigger f).cutInvalid = s.cutInvalid := by rfl
@[simp] theorem State.enqueueTrigger_handler (f : HeadFrame) : (s.enqueueTrigger f).handler = s.handler := by rfl
@[simp] theorem State.enqueueTrigger_strand (f : HeadFrame) (j : Fin 4) :
    (s.enqueueTrigger f).strand j = s.strand j := by rfl
@[simp] theorem State.enqueueTrigger_head (f : HeadFrame) (k : Fin 16) :
    (s.enqueueTrigger f).head k = s.head k := by rfl

/-! ### A control frame offered -/

@[simp] theorem State.enqueueControl_pending (f : HeadFrame) : (s.enqueueControl f).pending = s.pending := by rfl
@[simp] theorem State.enqueueControl_now (f : HeadFrame) : (s.enqueueControl f).now = s.now := by rfl
@[simp] theorem State.enqueueControl_ownStation (f : HeadFrame) :
    (s.enqueueControl f).ownStation = s.ownStation := by rfl
@[simp] theorem State.enqueueControl_routes (f : HeadFrame) : (s.enqueueControl f).routes = s.routes := by rfl
@[simp] theorem State.enqueueControl_linePort (f : HeadFrame) : (s.enqueueControl f).linePort = s.linePort := by rfl
@[simp] theorem State.enqueueControl_heads (f : HeadFrame) : (s.enqueueControl f).heads = s.heads := by rfl
@[simp] theorem State.enqueueControl_travel (f : HeadFrame) : (s.enqueueControl f).travel = s.travel := by rfl
@[simp] theorem State.enqueueControl_strands (f : HeadFrame) : (s.enqueueControl f).strands = s.strands := by rfl
@[simp] theorem State.enqueueControl_scans (f : HeadFrame) : (s.enqueueControl f).scans = s.scans := by rfl
@[simp] theorem State.enqueueControl_pressUnknown (f : HeadFrame) :
    (s.enqueueControl f).pressUnknown = s.pressUnknown := by rfl
@[simp] theorem State.enqueueControl_cutInvalid (f : HeadFrame) :
    (s.enqueueControl f).cutInvalid = s.cutInvalid := by rfl
@[simp] theorem State.enqueueControl_handler (f : HeadFrame) : (s.enqueueControl f).handler = s.handler := by rfl
@[simp] theorem State.enqueueControl_strand (f : HeadFrame) (j : Fin 4) :
    (s.enqueueControl f).strand j = s.strand j := by rfl
@[simp] theorem State.enqueueControl_head (f : HeadFrame) (k : Fin 16) :
    (s.enqueueControl f).head k = s.head k := by rfl

/-! ### A request counted -/

@[simp] theorem State.countRequest_pending (st : Status) : (s.countRequest st).pending = s.pending := by rfl
@[simp] theorem State.countRequest_now (st : Status) : (s.countRequest st).now = s.now := by rfl
@[simp] theorem State.countRequest_ownStation (st : Status) : (s.countRequest st).ownStation = s.ownStation := by rfl
@[simp] theorem State.countRequest_routes (st : Status) : (s.countRequest st).routes = s.routes := by rfl
@[simp] theorem State.countRequest_headPort (st : Status) : (s.countRequest st).headPort = s.headPort := by rfl
@[simp] theorem State.countRequest_linePort (st : Status) : (s.countRequest st).linePort = s.linePort := by rfl
@[simp] theorem State.countRequest_heads (st : Status) : (s.countRequest st).heads = s.heads := by rfl
@[simp] theorem State.countRequest_travel (st : Status) : (s.countRequest st).travel = s.travel := by rfl
@[simp] theorem State.countRequest_strands (st : Status) : (s.countRequest st).strands = s.strands := by rfl
@[simp] theorem State.countRequest_scans (st : Status) : (s.countRequest st).scans = s.scans := by rfl
@[simp] theorem State.countRequest_pressUnknown (st : Status) :
    (s.countRequest st).pressUnknown = s.pressUnknown := by rfl
@[simp] theorem State.countRequest_cutInvalid (st : Status) : (s.countRequest st).cutInvalid = s.cutInvalid := by rfl
@[simp] theorem State.countRequest_strand (st : Status) (j : Fin 4) :
    (s.countRequest st).strand j = s.strand j := by rfl
@[simp] theorem State.countRequest_head (st : Status) (k : Fin 16) : (s.countRequest st).head k = s.head k := by rfl

/-! ### A route replaced -/

@[simp] theorem State.setRoute_pending (n : Fin 64) (r : Route) : (s.setRoute n r).pending = s.pending := by rfl
@[simp] theorem State.setRoute_now (n : Fin 64) (r : Route) : (s.setRoute n r).now = s.now := by rfl
@[simp] theorem State.setRoute_ownStation (n : Fin 64) (r : Route) :
    (s.setRoute n r).ownStation = s.ownStation := by rfl
@[simp] theorem State.setRoute_headPort (n : Fin 64) (r : Route) : (s.setRoute n r).headPort = s.headPort := by rfl
@[simp] theorem State.setRoute_linePort (n : Fin 64) (r : Route) : (s.setRoute n r).linePort = s.linePort := by rfl
@[simp] theorem State.setRoute_heads (n : Fin 64) (r : Route) : (s.setRoute n r).heads = s.heads := by rfl
@[simp] theorem State.setRoute_travel (n : Fin 64) (r : Route) : (s.setRoute n r).travel = s.travel := by rfl
@[simp] theorem State.setRoute_strands (n : Fin 64) (r : Route) : (s.setRoute n r).strands = s.strands := by rfl
@[simp] theorem State.setRoute_scans (n : Fin 64) (r : Route) : (s.setRoute n r).scans = s.scans := by rfl
@[simp] theorem State.setRoute_pressUnknown (n : Fin 64) (r : Route) :
    (s.setRoute n r).pressUnknown = s.pressUnknown := by rfl
@[simp] theorem State.setRoute_cutInvalid (n : Fin 64) (r : Route) :
    (s.setRoute n r).cutInvalid = s.cutInvalid := by rfl
@[simp] theorem State.setRoute_handler (n : Fin 64) (r : Route) : (s.setRoute n r).handler = s.handler := by rfl
@[simp] theorem State.setRoute_strand (n : Fin 64) (r : Route) (j : Fin 4) :
    (s.setRoute n r).strand j = s.strand j := by rfl
@[simp] theorem State.setRoute_head (n : Fin 64) (r : Route) (k : Fin 16) : (s.setRoute n r).head k = s.head k := by rfl

/-! ### The tables' entries -/

@[simp] theorem State.head_setHead_same (h : Fin 16) (r : HeadRecord) : (s.setHead h r).head h = r := by
  simp [State.head, State.setHead]

theorem State.head_setHead (h k : Fin 16) (r : HeadRecord) :
    (s.setHead h r).head k = if k = h then r else s.head k := by
  by_cases hk : k = h
  · simp [hk]
  · have : (h : Nat) ≠ k := fun e => hk (Fin.ext e.symm)
    simp [State.head, State.setHead, hk, this]

@[simp] theorem State.head_setHead_other {h k : Fin 16} (r : HeadRecord) (hk : k ≠ h) :
    (s.setHead h r).head k = s.head k := by simp [State.head_setHead, hk]

@[simp] theorem State.head_modHead_same (h : Fin 16) (f : HeadRecord → HeadRecord) :
    (s.modHead h f).head h = f (s.head h) := by simp [State.modHead]

theorem State.head_modHead (h k : Fin 16) (f : HeadRecord → HeadRecord) :
    (s.modHead h f).head k = if k = h then f (s.head h) else s.head k := by simp [State.modHead, State.head_setHead]

@[simp] theorem State.head_modHead_other {h k : Fin 16} (f : HeadRecord → HeadRecord) (hk : k ≠ h) :
    (s.modHead h f).head k = s.head k := by simp [State.head_modHead, hk]

@[simp] theorem State.strand_setStrand_same (i : Fin 4) (st : Strand) : (s.setStrand i st).strand i = st := by
  simp [State.strand, State.setStrand]

theorem State.strand_setStrand (i j : Fin 4) (st : Strand) :
    (s.setStrand i st).strand j = if j = i then st else s.strand j := by
  by_cases hj : j = i
  · simp [hj]
  · have : (i : Nat) ≠ j := fun e => hj (Fin.ext e.symm)
    simp [State.strand, State.setStrand, hj, this]

@[simp] theorem State.strand_setStrand_other {i j : Fin 4} (st : Strand) (hj : j ≠ i) :
    (s.setStrand i st).strand j = s.strand j := by simp [State.strand_setStrand, hj]

@[simp] theorem State.strand_modStrand_same (i : Fin 4) (f : Strand → Strand) :
    (s.modStrand i f).strand i = f (s.strand i) := by simp [State.modStrand]

theorem State.strand_modStrand (i j : Fin 4) (f : Strand → Strand) :
    (s.modStrand i f).strand j = if j = i then f (s.strand i) else s.strand j := by
  simp [State.modStrand, State.strand_setStrand]

@[simp] theorem State.strand_modStrand_other {i j : Fin 4} (f : Strand → Strand) (hj : j ≠ i) :
    (s.modStrand i f).strand j = s.strand j := by simp [State.strand_modStrand, hj]

/-- A change of a strand that keeps what `p` reads of it keeps it for every strand. -/
theorem State.modStrand_keeps {α : Type} (p : Strand → α) (i j : Fin 4) (f : Strand → Strand) (h : ∀ st, p (f st) = p st) :
    p ((s.modStrand i f).strand j) = p (s.strand j) := by
  rw [State.strand_modStrand]; split
  · next e => rw [e, h]
  · rfl

/-- A change of a head that keeps what `p` reads of it keeps it for every head. -/
theorem State.modHead_keeps {α : Type} (p : HeadRecord → α) (h k : Fin 16) (f : HeadRecord → HeadRecord)
    (hf : ∀ r, p (f r) = p r) : p ((s.modHead h f).head k) = p (s.head k) := by
  rw [State.head_modHead]; split
  · next e => rw [e, hf]
  · rfl

theorem State.strand_of_strands {s t : State} (h : t.strands = s.strands) (i : Fin 4) : t.strand i = s.strand i := by
  simp [State.strand, h]

theorem State.head_of_heads {s t : State} (h : t.heads = s.heads) (k : Fin 16) : t.head k = s.head k := by
  simp [State.head, h]

@[simp] theorem State.strand_mk (p n o r hp lp h tr sts sc pu ci hd) (i : Fin 4) :
    State.strand (State.mk p n o r hp lp h tr sts sc pu ci hd) i = sts[i] := rfl

@[simp] theorem State.strands_getElem (i : Fin 4) : s.strands[i] = s.strand i := rfl

@[simp] theorem State.head_mk (p n o r hp lp h tr sts sc pu ci hd) (k : Fin 16) :
    State.head (State.mk p n o r hp lp h tr sts sc pu ci hd) k = h[k] := rfl

@[simp] theorem State.strands_getElem_val (i : Fin 4) (h : (i : Nat) < 4) : s.strands[(i : Nat)] = s.strand i := rfl

@[simp] theorem State.heads_getElem_val (k : Fin 16) (h : (k : Nat) < 16) : s.heads[(k : Nat)] = s.head k := rfl

@[simp] theorem State.heads_getElem (k : Fin 16) : s.heads[k] = s.head k := rfl

/-- An entry of a table changed whole. -/
@[simp] theorem mapTable_getElem {α β : Type} {n : Nat} (f : α → β) (v : Vector α n) (i : Nat) (h : i < n) :
    (mapTable f v)[i] = f v[i] := by simp [mapTable]

/-- A list of the right length replaces a table, any other list changes nothing. -/
theorem retable_toList {α : Type} {n : Nat} (v : Vector α n) (l : List α) :
    (retable v l).toList = if l.length = n then l else v.toList := by
  unfold retable; split <;> simp [*]

/-! ### The configuration of a strand and of a head -/

@[simp] theorem Strand.setup_mk (a b c d e f g h i j k l m n o p q r t u v w x y z a1 b1 c1 d1 e1 f1 g1 h1) :
    (Strand.mk a b c d e f g h i j k l m n o p q r t u v w x y z a1 b1 c1 d1 e1 f1 g1 h1).setup =
      { slots := k, params := l, bankA := p, bankB := q } := by rfl

@[simp] theorem Strand.setup_eta (st : Strand) : Setup.mk st.slots st.params st.bankA st.bankB = st.setup := by rfl

@[simp] theorem HeadRecord.mount_mk (a b c d e f g h i j k l) :
    (HeadRecord.mk a b c d e f g h i j k l).mount =
      { assignment := c, offset := e, releaseDelay := f, announceTimeout := g } := by rfl

@[simp] theorem HeadRecord.mount_eta (r : HeadRecord) :
    Mount.mk r.assignment r.offset r.releaseDelay r.announceTimeout = r.mount := by rfl

@[simp] theorem State.modStrand_setup (i j : Fin 4) (f : Strand → Strand)
    (h : (f (s.strand i)).setup = (s.strand i).setup) : ((s.modStrand i f).strand j).setup = (s.strand j).setup := by
  rw [State.strand_modStrand]; split
  · next e => rw [e, h]
  · rfl

@[simp] theorem State.modHead_mount (h k : Fin 16) (f : HeadRecord → HeadRecord)
    (hf : (f (s.head h)).mount = (s.head h).mount) : ((s.modHead h f).head k).mount = (s.head k).mount := by
  rw [State.head_modHead]; split
  · next e => rw [e, hf]
  · rfl

@[simp] theorem State.setHead_mount (h k : Fin 16) (r : HeadRecord) (hr : r.mount = (s.head h).mount) :
    ((s.setHead h r).head k).mount = (s.head k).mount := by
  rw [State.head_setHead]; split
  · next e => rw [e, hr]
  · rfl

/-! ### Operations of one strand that keep its configuration -/

@[simp] theorem Strand.clearRuntime_setup (st : Strand) : st.clearRuntime.setup = st.setup := by rfl
@[simp] theorem Strand.unseedAll_setup (st : Strand) : st.unseedAll.setup = st.setup := by rfl
@[simp] theorem Strand.applyUnseed_setup (st : Strand) (u : BitVec 6) : (st.applyUnseed u).setup = st.setup := by rfl
@[simp] theorem Strand.exchangeBanks_setup (st : Strand) : st.exchangeBanks.setup = st.setup := by rfl
@[simp] theorem Strand.replaceLast_setup (st : Strand) (r : Run) : (st.replaceLast r).setup = st.setup := by rfl
@[simp] theorem Strand.openWith_setup (st : Strand) (e : Entry) : (st.openWith e).setup = st.setup := by rfl
@[simp] theorem Strand.retireMarks_setup (st : Strand) : st.retireMarks.setup = st.setup := by rfl
@[simp] theorem Strand.moveFront_setup (st : Strand) (x : Nat) : (st.moveFront x).setup = st.setup := by rfl
@[simp] theorem Strand.closePiece_setup (st : Strand) (i : Fin 4) (c : Cut) (b : Bool) :
    (st.closePiece i c b).setup = st.setup := by rfl
@[simp] theorem Strand.acceptCut_setup (st : Strand) (x : Nat) : (st.acceptCut x).setup = st.setup := by rfl
@[simp] theorem Strand.discard_setup (st : Strand) : st.discard.setup = st.setup := by rfl
@[simp] theorem Strand.restarted_setup (st : Strand) : st.restarted.setup = st.setup := by rfl
@[simp] theorem Strand.started_setup (st : Strand) (n : Nat) : (st.started n).setup = st.setup := by rfl
@[simp] theorem Strand.clearCounters_setup (st : Strand) : st.clearCounters.setup = st.setup := by rfl
@[simp] theorem Strand.addSet_setup (st : Strand) (k t : Nat) (e : BitVec 6) :
    (st.addSet k t e).setup = st.setup := by rfl
@[simp] theorem Strand.modSet_setup (st : Strand) (k : Nat) (f : SliceSet → SliceSet) :
    (st.modSet k f).setup = st.setup := by rfl
@[simp] theorem Strand.finishEvaluation_setup (st : Strand) (ev : Evaluation) :
    (st.finishEvaluation ev).setup = st.setup := by rfl
@[simp] theorem Strand.moveTo_setup (st : Strand) (k : Nat) : (st.moveTo k).setup = st.setup := by rfl
@[simp] theorem Strand.withhold_setup (st : Strand) (k : Nat) : (st.withhold k).setup = st.setup := by rfl
@[simp] theorem Strand.fixSwitch_setup (st : Strand) (x : Nat) : (st.fixSwitch x).setup = st.setup := by
  unfold Strand.fixSwitch; split <;> rfl
@[simp] theorem Strand.holdAdvice_setup (st : Strand) (a : Advice) : (st.holdAdvice a).setup = st.setup := by
  unfold Strand.holdAdvice; split <;> rfl
@[simp] theorem Strand.queueMark_setup (st : Strand) (m : Mark) : (st.queueMark m).setup = st.setup := by
  unfold Strand.queueMark; (repeat' split) <;> rfl

/-! ### A notice number taken, as the Request Handler sees it -/

@[simp] theorem State.takeNoticeNumber_requests : s.takeNoticeNumber.handler.requests = s.handler.requests := rfl
@[simp] theorem State.takeNoticeNumber_waiting : s.takeNoticeNumber.handler.waiting = s.handler.waiting := rfl
@[simp] theorem State.takeNoticeNumber_restart : s.takeNoticeNumber.handler.restart = s.handler.restart := rfl
@[simp] theorem State.takeNoticeNumber_done :
    s.takeNoticeNumber.handler.counters.requestsDone = s.handler.counters.requestsDone := rfl
@[simp] theorem State.takeNoticeNumber_refused :
    s.takeNoticeNumber.handler.counters.requestsRefused = s.handler.counters.requestsRefused := rfl
@[simp] theorem State.takeNoticeNumber_busy :
    s.takeNoticeNumber.handler.counters.requestsBusy = s.handler.counters.requestsBusy := rfl
@[simp] theorem State.takeNoticeNumber_unsent :
    s.takeNoticeNumber.handler.counters.busyUnsent = s.handler.counters.busyUnsent := rfl
@[simp] theorem State.takeNoticeNumber_noticeTarget :
    s.takeNoticeNumber.handler.noticeTarget = s.handler.noticeTarget := rfl

/-! ### What the Line Port's selection keeps -/

@[simp] theorem LinePort.select_parser (p : LinePort) : p.select.parser = p.parser := by
  unfold LinePort.select; (repeat' split) <;> rfl
@[simp] theorem LinePort.select_counters (p : LinePort) : p.select.counters = p.counters := by
  unfold LinePort.select; (repeat' split) <;> rfl
@[simp] theorem LinePort.select_adviceTurn (p : LinePort) : p.select.adviceTurn = p.adviceTurn := by
  unfold LinePort.select; (repeat' split) <;> rfl
@[simp] theorem LinePort.select_pieceTurn (p : LinePort) : p.select.pieceTurn = p.pieceTurn := by
  unfold LinePort.select; (repeat' split) <;> rfl
@[simp] theorem LinePort.select_noticeDrop (p : LinePort) : p.select.noticeDrop = p.noticeDrop := by
  unfold LinePort.select; (repeat' split) <;> rfl

/-! ### A port's parser and counters -/

@[simp] theorem State.parser_setParser (port : Port) (p : Parser) : (s.setParser port p).parser port = p := by
  cases port <;> rfl

@[simp] theorem State.portCounters_setParser (port q : Port) (p : Parser) :
    (s.setParser port p).portCounters q = s.portCounters q := by cases port <;> cases q <;> rfl

@[simp] theorem State.setParser_pending (port : Port) (p : Parser) :
    (s.setParser port p).pending = s.pending := by cases port <;> rfl
@[simp] theorem State.setParser_now (port : Port) (p : Parser) :
    (s.setParser port p).now = s.now := by cases port <;> rfl
@[simp] theorem State.setParser_ownStation (port : Port) (p : Parser) :
    (s.setParser port p).ownStation = s.ownStation := by cases port <;> rfl
@[simp] theorem State.setParser_routes (port : Port) (p : Parser) :
    (s.setParser port p).routes = s.routes := by cases port <;> rfl
@[simp] theorem State.setParser_heads (port : Port) (p : Parser) :
    (s.setParser port p).heads = s.heads := by cases port <;> rfl
@[simp] theorem State.setParser_travel (port : Port) (p : Parser) :
    (s.setParser port p).travel = s.travel := by cases port <;> rfl
@[simp] theorem State.setParser_strands (port : Port) (p : Parser) :
    (s.setParser port p).strands = s.strands := by cases port <;> rfl
@[simp] theorem State.setParser_scans (port : Port) (p : Parser) :
    (s.setParser port p).scans = s.scans := by cases port <;> rfl
@[simp] theorem State.setParser_pressUnknown (port : Port) (p : Parser) :
    (s.setParser port p).pressUnknown = s.pressUnknown := by cases port <;> rfl
@[simp] theorem State.setParser_cutInvalid (port : Port) (p : Parser) :
    (s.setParser port p).cutInvalid = s.cutInvalid := by cases port <;> rfl
@[simp] theorem State.setParser_handler (port : Port) (p : Parser) :
    (s.setParser port p).handler = s.handler := by cases port <;> rfl
@[simp] theorem State.setParser_head (port : Port) (p : Parser) (k : Fin 16) :
    (s.setParser port p).head k = s.head k := by cases port <;> rfl
@[simp] theorem State.setParser_strand (port : Port) (p : Parser) (k : Fin 4) :
    (s.setParser port p).strand k = s.strand k := by cases port <;> rfl

@[simp] theorem State.modCounters_pending (port : Port) (f : PortCounters → PortCounters) :
    (s.modCounters port f).pending = s.pending := by cases port <;> rfl
@[simp] theorem State.modCounters_now (port : Port) (f : PortCounters → PortCounters) :
    (s.modCounters port f).now = s.now := by cases port <;> rfl
@[simp] theorem State.modCounters_ownStation (port : Port) (f : PortCounters → PortCounters) :
    (s.modCounters port f).ownStation = s.ownStation := by cases port <;> rfl
@[simp] theorem State.modCounters_routes (port : Port) (f : PortCounters → PortCounters) :
    (s.modCounters port f).routes = s.routes := by cases port <;> rfl
@[simp] theorem State.modCounters_heads (port : Port) (f : PortCounters → PortCounters) :
    (s.modCounters port f).heads = s.heads := by cases port <;> rfl
@[simp] theorem State.modCounters_travel (port : Port) (f : PortCounters → PortCounters) :
    (s.modCounters port f).travel = s.travel := by cases port <;> rfl
@[simp] theorem State.modCounters_strands (port : Port) (f : PortCounters → PortCounters) :
    (s.modCounters port f).strands = s.strands := by cases port <;> rfl
@[simp] theorem State.modCounters_scans (port : Port) (f : PortCounters → PortCounters) :
    (s.modCounters port f).scans = s.scans := by cases port <;> rfl
@[simp] theorem State.modCounters_pressUnknown (port : Port) (f : PortCounters → PortCounters) :
    (s.modCounters port f).pressUnknown = s.pressUnknown := by cases port <;> rfl
@[simp] theorem State.modCounters_cutInvalid (port : Port) (f : PortCounters → PortCounters) :
    (s.modCounters port f).cutInvalid = s.cutInvalid := by cases port <;> rfl
@[simp] theorem State.modCounters_handler (port : Port) (f : PortCounters → PortCounters) :
    (s.modCounters port f).handler = s.handler := by cases port <;> rfl
@[simp] theorem State.modCounters_head (port : Port) (f : PortCounters → PortCounters) (k : Fin 16) :
    (s.modCounters port f).head k = s.head k := by cases port <;> rfl
@[simp] theorem State.modCounters_strand (port : Port) (f : PortCounters → PortCounters) (k : Fin 4) :
    (s.modCounters port f).strand k = s.strand k := by cases port <;> rfl

@[simp] theorem State.portCounters_modCounters (port : Port) (f : PortCounters → PortCounters) :
    (s.modCounters port f).portCounters port = f (s.portCounters port) := by cases port <;> rfl

@[simp] theorem State.parser_modCounters (port q : Port) (f : PortCounters → PortCounters) :
    (s.modCounters port f).parser q = s.parser q := by cases port <;> cases q <;> rfl

end Sys2Proof.Machine
end

