-- ==== Sys2Proof/Laws/Ports.lean ====
section
/-! SUPPORT. What the operations of the ports, the notices, the advice and the state changes of a strand leave as it is: for
each operation, the fields of the state that it keeps, what it keeps of the Request Handler, and the configuration of the
strands and of the heads. -/

namespace Sys2Proof.Machine

variable (s : State)

@[simp] theorem State.kickLine_frame :
    (s.kickLine).pending = s.pending ∧ (s.kickLine).now = s.now ∧ (s.kickLine).ownStation = s.ownStation ∧
      (s.kickLine).routes = s.routes ∧ (s.kickLine).headPort = s.headPort ∧ (s.kickLine).heads = s.heads ∧
      (s.kickLine).travel = s.travel ∧ (s.kickLine).strands = s.strands ∧ (s.kickLine).scans = s.scans ∧
      (s.kickLine).pressUnknown = s.pressUnknown ∧ (s.kickLine).cutInvalid = s.cutInvalid ∧
      (s.kickLine).handler = s.handler ∧ (s.kickLine).linePort.parser = s.linePort.parser ∧
      (s.kickLine).linePort.counters = s.linePort.counters ∧
      (s.kickLine).linePort.adviceTurn = s.linePort.adviceTurn ∧
      (s.kickLine).linePort.pieceTurn = s.linePort.pieceTurn := by
  simp only [State.kickLine]; split <;> simp

@[simp] theorem State.kickLine_strand (j : Fin 4) : (s.kickLine).strand j = s.strand j :=
  State.strand_of_strands (by simp) j

@[simp] theorem State.kickLine_head (q : Fin 16) : (s.kickLine).head q = s.head q :=
  State.head_of_heads (by simp) q

@[simp] theorem State.enqueueRecord_frame (r : Record) :
    (s.enqueueRecord r).pending = s.pending ∧ (s.enqueueRecord r).now = s.now ∧
      (s.enqueueRecord r).ownStation = s.ownStation ∧ (s.enqueueRecord r).routes = s.routes ∧
      (s.enqueueRecord r).headPort = s.headPort ∧ (s.enqueueRecord r).heads = s.heads ∧
      (s.enqueueRecord r).travel = s.travel ∧ (s.enqueueRecord r).strands = s.strands ∧
      (s.enqueueRecord r).scans = s.scans ∧ (s.enqueueRecord r).pressUnknown = s.pressUnknown ∧
      (s.enqueueRecord r).cutInvalid = s.cutInvalid ∧ (s.enqueueRecord r).handler = s.handler ∧
      (s.enqueueRecord r).linePort.parser = s.linePort.parser ∧
      (s.enqueueRecord r).linePort.counters = s.linePort.counters ∧
      (s.enqueueRecord r).linePort.adviceTurn = s.linePort.adviceTurn ∧
      (s.enqueueRecord r).linePort.pieceTurn = s.linePort.pieceTurn := by
  simp [State.enqueueRecord]

@[simp] theorem State.enqueueRecord_strand (r : Record) (j : Fin 4) : (s.enqueueRecord r).strand j = s.strand j :=
  State.strand_of_strands (by simp) j

@[simp] theorem State.enqueueRecord_head (r : Record) (q : Fin 16) : (s.enqueueRecord r).head q = s.head q :=
  State.head_of_heads (by simp) q

@[simp] theorem State.raise_frame (n : Notice) :
    (s.raise n).pending = s.pending ∧ (s.raise n).now = s.now ∧ (s.raise n).ownStation = s.ownStation ∧
      (s.raise n).routes = s.routes ∧ (s.raise n).headPort = s.headPort ∧ (s.raise n).heads = s.heads ∧
      (s.raise n).travel = s.travel ∧ (s.raise n).strands = s.strands ∧ (s.raise n).scans = s.scans ∧
      (s.raise n).pressUnknown = s.pressUnknown ∧ (s.raise n).cutInvalid = s.cutInvalid ∧
      (s.raise n).handler.requests = s.handler.requests ∧ (s.raise n).handler.waiting = s.handler.waiting ∧
      (s.raise n).handler.restart = s.handler.restart ∧ (s.raise n).handler.noticeTarget = s.handler.noticeTarget ∧
      (s.raise n).handler.counters.requestsDone = s.handler.counters.requestsDone ∧
      (s.raise n).handler.counters.requestsRefused = s.handler.counters.requestsRefused ∧
      (s.raise n).handler.counters.requestsBusy = s.handler.counters.requestsBusy ∧
      (s.raise n).handler.counters.busyUnsent = s.handler.counters.busyUnsent ∧
      (s.raise n).linePort.parser = s.linePort.parser ∧ (s.raise n).linePort.counters = s.linePort.counters ∧
      (s.raise n).linePort.adviceTurn = s.linePort.adviceTurn ∧ (s.raise n).linePort.pieceTurn = s.linePort.pieceTurn := by
  simp only [State.raise]; split <;> simp

@[simp] theorem State.raise_strand (n : Notice) (j : Fin 4) : (s.raise n).strand j = s.strand j :=
  State.strand_of_strands (by simp) j

@[simp] theorem State.raise_head (n : Notice) (q : Fin 16) : (s.raise n).head q = s.head q :=
  State.head_of_heads (by simp) q

@[simp] theorem State.offerForward_frame (port : Port) (f : Frame) :
    (s.offerForward port f).pending = s.pending ∧ (s.offerForward port f).now = s.now ∧
      (s.offerForward port f).ownStation = s.ownStation ∧ (s.offerForward port f).routes = s.routes ∧
      (s.offerForward port f).heads = s.heads ∧ (s.offerForward port f).travel = s.travel ∧
      (s.offerForward port f).strands = s.strands ∧ (s.offerForward port f).scans = s.scans ∧
      (s.offerForward port f).pressUnknown = s.pressUnknown ∧ (s.offerForward port f).cutInvalid = s.cutInvalid ∧
      (s.offerForward port f).handler = s.handler := by
  simp only [State.offerForward]; (repeat' split) <;> simp

@[simp] theorem State.offerForward_strand (port : Port) (f : Frame) (j : Fin 4) :
    (s.offerForward port f).strand j = s.strand j :=
  State.strand_of_strands (by simp) j

@[simp] theorem State.offerForward_head (port : Port) (f : Frame) (q : Fin 16) :
    (s.offerForward port f).head q = s.head q :=
  State.head_of_heads (by simp) q

@[simp] theorem State.issueAdvice_frame (i : Fin 4) (kind : AdviceKind) (cls : ConditionClass) (a b : Nat) :
    (s.issueAdvice i kind cls a b).pending = s.pending ∧ (s.issueAdvice i kind cls a b).now = s.now ∧
      (s.issueAdvice i kind cls a b).ownStation = s.ownStation ∧ (s.issueAdvice i kind cls a b).routes = s.routes ∧
      (s.issueAdvice i kind cls a b).headPort = s.headPort ∧ (s.issueAdvice i kind cls a b).heads = s.heads ∧
      (s.issueAdvice i kind cls a b).travel = s.travel ∧ (s.issueAdvice i kind cls a b).scans = s.scans ∧
      (s.issueAdvice i kind cls a b).pressUnknown = s.pressUnknown ∧
      (s.issueAdvice i kind cls a b).cutInvalid = s.cutInvalid ∧ (s.issueAdvice i kind cls a b).handler = s.handler ∧
      (s.issueAdvice i kind cls a b).linePort.parser = s.linePort.parser ∧
      (s.issueAdvice i kind cls a b).linePort.counters = s.linePort.counters ∧
      (s.issueAdvice i kind cls a b).linePort.adviceTurn = s.linePort.adviceTurn ∧
      (s.issueAdvice i kind cls a b).linePort.pieceTurn = s.linePort.pieceTurn := by
  simp only [State.issueAdvice]; split <;> simp

@[simp] theorem State.issueAdvice_head (i : Fin 4) (kind : AdviceKind) (cls : ConditionClass) (a b : Nat) (q : Fin 16) :
    (s.issueAdvice i kind cls a b).head q = s.head q :=
  State.head_of_heads (by simp) q

@[simp] theorem State.issueAdvice_other {i : Fin 4} (kind : AdviceKind) (cls : ConditionClass) (a b : Nat) {j : Fin 4} (hj : j ≠ i) :
    (s.issueAdvice i kind cls a b).strand j = s.strand j := by
  simp only [State.issueAdvice]; split <;> simp [hj]

@[simp] theorem State.issueAdvice_setup (i : Fin 4) (kind : AdviceKind) (cls : ConditionClass) (a b : Nat) (j : Fin 4) :
    ((s.issueAdvice i kind cls a b).strand j).setup = (s.strand j).setup := by
  simp only [State.issueAdvice]; split <;> simp

@[simp] theorem State.changeStrand_frame (i : Fin 4) (new : StrandState) :
    (s.changeStrand i new).pending = s.pending ∧ (s.changeStrand i new).now = s.now ∧
      (s.changeStrand i new).ownStation = s.ownStation ∧ (s.changeStrand i new).routes = s.routes ∧
      (s.changeStrand i new).headPort = s.headPort ∧ (s.changeStrand i new).heads = s.heads ∧
      (s.changeStrand i new).travel = s.travel ∧ (s.changeStrand i new).scans = s.scans ∧
      (s.changeStrand i new).pressUnknown = s.pressUnknown ∧ (s.changeStrand i new).cutInvalid = s.cutInvalid ∧
      (s.changeStrand i new).handler.requests = s.handler.requests ∧
      (s.changeStrand i new).handler.waiting = s.handler.waiting ∧
      (s.changeStrand i new).handler.restart = s.handler.restart ∧
      (s.changeStrand i new).handler.noticeTarget = s.handler.noticeTarget ∧
      (s.changeStrand i new).handler.counters.requestsDone = s.handler.counters.requestsDone ∧
      (s.changeStrand i new).handler.counters.requestsRefused = s.handler.counters.requestsRefused ∧
      (s.changeStrand i new).handler.counters.requestsBusy = s.handler.counters.requestsBusy ∧
      (s.changeStrand i new).handler.counters.busyUnsent = s.handler.counters.busyUnsent ∧
      (s.changeStrand i new).linePort.parser = s.linePort.parser ∧
      (s.changeStrand i new).linePort.counters = s.linePort.counters ∧
      (s.changeStrand i new).linePort.adviceTurn = s.linePort.adviceTurn ∧
      (s.changeStrand i new).linePort.pieceTurn = s.linePort.pieceTurn := by
  simp only [State.changeStrand]; split <;> simp

@[simp] theorem State.changeStrand_head (i : Fin 4) (new : StrandState) (q : Fin 16) :
    (s.changeStrand i new).head q = s.head q :=
  State.head_of_heads (by simp) q

@[simp] theorem State.changeStrand_other {i : Fin 4} (new : StrandState) {j : Fin 4} (hj : j ≠ i) :
    (s.changeStrand i new).strand j = s.strand j := by
  simp only [State.changeStrand]; split <;> simp [hj]

@[simp] theorem State.changeStrand_setup (i : Fin 4) (new : StrandState) (j : Fin 4) :
    ((s.changeStrand i new).strand j).setup = (s.strand j).setup := by
  simp only [State.changeStrand]; split <;> simp

@[simp] theorem State.enterIdle_frame (i : Fin 4) :
    (s.enterIdle i).pending = s.pending ∧ (s.enterIdle i).now = s.now ∧ (s.enterIdle i).ownStation = s.ownStation ∧
      (s.enterIdle i).routes = s.routes ∧ (s.enterIdle i).headPort = s.headPort ∧ (s.enterIdle i).heads = s.heads ∧
      (s.enterIdle i).travel = s.travel ∧ (s.enterIdle i).scans = s.scans ∧
      (s.enterIdle i).pressUnknown = s.pressUnknown ∧ (s.enterIdle i).cutInvalid = s.cutInvalid ∧
      (s.enterIdle i).handler.requests = s.handler.requests ∧ (s.enterIdle i).handler.waiting = s.handler.waiting ∧
      (s.enterIdle i).handler.restart = s.handler.restart ∧
      (s.enterIdle i).handler.noticeTarget = s.handler.noticeTarget ∧
      (s.enterIdle i).handler.counters.requestsDone = s.handler.counters.requestsDone ∧
      (s.enterIdle i).handler.counters.requestsRefused = s.handler.counters.requestsRefused ∧
      (s.enterIdle i).handler.counters.requestsBusy = s.handler.counters.requestsBusy ∧
      (s.enterIdle i).handler.counters.busyUnsent = s.handler.counters.busyUnsent ∧
      (s.enterIdle i).linePort.parser = s.linePort.parser ∧ (s.enterIdle i).linePort.counters = s.linePort.counters ∧
      (s.enterIdle i).linePort.adviceTurn = s.linePort.adviceTurn ∧
      (s.enterIdle i).linePort.pieceTurn = s.linePort.pieceTurn := by
  simp [State.enterIdle]

@[simp] theorem State.enterIdle_head (i : Fin 4) (q : Fin 16) : (s.enterIdle i).head q = s.head q :=
  State.head_of_heads (by simp) q

@[simp] theorem State.enterIdle_other {i : Fin 4} {j : Fin 4} (hj : j ≠ i) :
    (s.enterIdle i).strand j = s.strand j := by
  simp [State.enterIdle, hj]

@[simp] theorem State.enterIdle_setup (i : Fin 4) (j : Fin 4) :
    ((s.enterIdle i).strand j).setup = (s.strand j).setup := by
  simp [State.enterIdle]

@[simp] theorem State.idleCheck_frame (i : Fin 4) :
    (s.idleCheck i).pending = s.pending ∧ (s.idleCheck i).now = s.now ∧ (s.idleCheck i).ownStation = s.ownStation ∧
      (s.idleCheck i).routes = s.routes ∧ (s.idleCheck i).headPort = s.headPort ∧ (s.idleCheck i).heads = s.heads ∧
      (s.idleCheck i).travel = s.travel ∧ (s.idleCheck i).scans = s.scans ∧
      (s.idleCheck i).pressUnknown = s.pressUnknown ∧ (s.idleCheck i).cutInvalid = s.cutInvalid ∧
      (s.idleCheck i).handler.requests = s.handler.requests ∧ (s.idleCheck i).handler.waiting = s.handler.waiting ∧
      (s.idleCheck i).handler.restart = s.handler.restart ∧
      (s.idleCheck i).handler.noticeTarget = s.handler.noticeTarget ∧
      (s.idleCheck i).handler.counters.requestsDone = s.handler.counters.requestsDone ∧
      (s.idleCheck i).handler.counters.requestsRefused = s.handler.counters.requestsRefused ∧
      (s.idleCheck i).handler.counters.requestsBusy = s.handler.counters.requestsBusy ∧
      (s.idleCheck i).handler.counters.busyUnsent = s.handler.counters.busyUnsent ∧
      (s.idleCheck i).linePort.parser = s.linePort.parser ∧ (s.idleCheck i).linePort.counters = s.linePort.counters ∧
      (s.idleCheck i).linePort.adviceTurn = s.linePort.adviceTurn ∧
      (s.idleCheck i).linePort.pieceTurn = s.linePort.pieceTurn := by
  simp only [State.idleCheck]; split <;> simp

@[simp] theorem State.idleCheck_head (i : Fin 4) (q : Fin 16) : (s.idleCheck i).head q = s.head q :=
  State.head_of_heads (by simp) q

@[simp] theorem State.idleCheck_other {i : Fin 4} {j : Fin 4} (hj : j ≠ i) :
    (s.idleCheck i).strand j = s.strand j := by
  simp only [State.idleCheck]; split <;> simp [hj]

@[simp] theorem State.idleCheck_setup (i : Fin 4) (j : Fin 4) :
    ((s.idleCheck i).strand j).setup = (s.strand j).setup := by
  simp only [State.idleCheck]; split <;> simp

end Sys2Proof.Machine
end

