-- ==== Sys2Proof/Laws/Heads.lean ====
section
/-! SUPPORT. What the operations of the Head Table and of the Template Store leave as it is: for each operation, the fields
of the state that it keeps, what it keeps of the Request Handler, and the configuration of the strands and of the heads. -/

namespace Sys2Proof.Machine

variable (s : State)

@[simp] theorem State.reevaluate_frame (h : Fin 16) :
    (s.reevaluate h).pending = s.pending ∧ (s.reevaluate h).now = s.now ∧
      (s.reevaluate h).ownStation = s.ownStation ∧ (s.reevaluate h).routes = s.routes ∧
      (s.reevaluate h).headPort = s.headPort ∧ (s.reevaluate h).linePort = s.linePort ∧
      (s.reevaluate h).travel = s.travel ∧ (s.reevaluate h).strands = s.strands ∧ (s.reevaluate h).scans = s.scans ∧
      (s.reevaluate h).pressUnknown = s.pressUnknown ∧ (s.reevaluate h).cutInvalid = s.cutInvalid ∧
      (s.reevaluate h).handler = s.handler := by
  simp [State.reevaluate]

@[simp] theorem State.reevaluate_strand (h : Fin 16) (j : Fin 4) : (s.reevaluate h).strand j = s.strand j :=
  State.strand_of_strands (by simp) j

@[simp] theorem State.reevaluate_otherHead {h : Fin 16} {q : Fin 16} (hq : q ≠ h) :
    (s.reevaluate h).head q = s.head q := by
  simp [State.reevaluate, hq]

@[simp] theorem State.reevaluate_mount (h : Fin 16) (q : Fin 16) :
    ((s.reevaluate h).head q).mount = (s.head q).mount := by
  simp [State.reevaluate]

@[simp] theorem State.reevaluateStrand_frame (i : Fin 4) :
    (s.reevaluateStrand i).pending = s.pending ∧ (s.reevaluateStrand i).now = s.now ∧
      (s.reevaluateStrand i).ownStation = s.ownStation ∧ (s.reevaluateStrand i).routes = s.routes ∧
      (s.reevaluateStrand i).headPort = s.headPort ∧ (s.reevaluateStrand i).linePort = s.linePort ∧
      (s.reevaluateStrand i).travel = s.travel ∧ (s.reevaluateStrand i).strands = s.strands ∧
      (s.reevaluateStrand i).scans = s.scans ∧ (s.reevaluateStrand i).pressUnknown = s.pressUnknown ∧
      (s.reevaluateStrand i).cutInvalid = s.cutInvalid ∧ (s.reevaluateStrand i).handler = s.handler := by
  simp [State.reevaluateStrand]

@[simp] theorem State.reevaluateStrand_strand (i : Fin 4) (j : Fin 4) : (s.reevaluateStrand i).strand j = s.strand j :=
  State.strand_of_strands (by simp) j

@[simp] theorem State.reevaluateStrand_mount (i : Fin 4) (q : Fin 16) :
    ((s.reevaluateStrand i).head q).mount = (s.head q).mount := by
  cases hb : (s.head q).assignedTo i <;> simp [State.reevaluateStrand, hb]

@[simp] theorem State.requestUnseed_frame (i : Fin 4) (t : Fin 6) :
    (s.requestUnseed i t).pending = s.pending ∧ (s.requestUnseed i t).now = s.now ∧
      (s.requestUnseed i t).ownStation = s.ownStation ∧ (s.requestUnseed i t).routes = s.routes ∧
      (s.requestUnseed i t).headPort = s.headPort ∧ (s.requestUnseed i t).linePort = s.linePort ∧
      (s.requestUnseed i t).heads = s.heads ∧ (s.requestUnseed i t).travel = s.travel ∧
      (s.requestUnseed i t).scans = s.scans ∧ (s.requestUnseed i t).pressUnknown = s.pressUnknown ∧
      (s.requestUnseed i t).cutInvalid = s.cutInvalid ∧ (s.requestUnseed i t).handler = s.handler := by
  simp [State.requestUnseed]

@[simp] theorem State.requestUnseed_head (i : Fin 4) (t : Fin 6) (q : Fin 16) :
    (s.requestUnseed i t).head q = s.head q :=
  State.head_of_heads (by simp) q

@[simp] theorem State.requestUnseed_other {i : Fin 4} (t : Fin 6) {j : Fin 4} (hj : j ≠ i) :
    (s.requestUnseed i t).strand j = s.strand j := by
  simp [State.requestUnseed, hj]

@[simp] theorem State.requestUnseed_setup (i : Fin 4) (t : Fin 6) (j : Fin 4) :
    ((s.requestUnseed i t).strand j).setup = (s.strand j).setup := by
  apply State.modStrand_setup; split <;> simp

@[simp] theorem State.switchBanks_frame (i : Fin 4) :
    (s.switchBanks i).pending = s.pending ∧ (s.switchBanks i).now = s.now ∧
      (s.switchBanks i).ownStation = s.ownStation ∧ (s.switchBanks i).routes = s.routes ∧
      (s.switchBanks i).headPort = s.headPort ∧ (s.switchBanks i).linePort = s.linePort ∧
      (s.switchBanks i).travel = s.travel ∧ (s.switchBanks i).scans = s.scans ∧
      (s.switchBanks i).pressUnknown = s.pressUnknown ∧ (s.switchBanks i).cutInvalid = s.cutInvalid ∧
      (s.switchBanks i).handler = s.handler := by
  simp [State.switchBanks]

@[simp] theorem State.switchBanks_other {i : Fin 4} {j : Fin 4} (hj : j ≠ i) :
    (s.switchBanks i).strand j = s.strand j := by
  simp [State.switchBanks, hj]

@[simp] theorem State.switchBanks_setup (i : Fin 4) (j : Fin 4) :
    ((s.switchBanks i).strand j).setup = (s.strand j).setup := by
  simp [State.switchBanks]

@[simp] theorem State.switchBanks_mount (i : Fin 4) (q : Fin 16) :
    ((s.switchBanks i).head q).mount = (s.head q).mount := by
  simp [State.switchBanks]

@[simp] theorem State.takeSwitch_frame (i : Fin 4) (p : PendingSwitch) (slice : Option Nat) :
    (s.takeSwitch i p slice).pending = s.pending ∧ (s.takeSwitch i p slice).now = s.now ∧
      (s.takeSwitch i p slice).ownStation = s.ownStation ∧ (s.takeSwitch i p slice).routes = s.routes ∧
      (s.takeSwitch i p slice).headPort = s.headPort ∧ (s.takeSwitch i p slice).travel = s.travel ∧
      (s.takeSwitch i p slice).scans = s.scans ∧ (s.takeSwitch i p slice).pressUnknown = s.pressUnknown ∧
      (s.takeSwitch i p slice).cutInvalid = s.cutInvalid ∧
      (s.takeSwitch i p slice).handler.requests = s.handler.requests ∧
      (s.takeSwitch i p slice).handler.waiting = s.handler.waiting ∧
      (s.takeSwitch i p slice).handler.restart = s.handler.restart ∧
      (s.takeSwitch i p slice).handler.noticeTarget = s.handler.noticeTarget ∧
      (s.takeSwitch i p slice).handler.counters.requestsDone = s.handler.counters.requestsDone ∧
      (s.takeSwitch i p slice).handler.counters.requestsRefused = s.handler.counters.requestsRefused ∧
      (s.takeSwitch i p slice).handler.counters.requestsBusy = s.handler.counters.requestsBusy ∧
      (s.takeSwitch i p slice).handler.counters.busyUnsent = s.handler.counters.busyUnsent ∧
      (s.takeSwitch i p slice).linePort.parser = s.linePort.parser ∧
      (s.takeSwitch i p slice).linePort.counters = s.linePort.counters ∧
      (s.takeSwitch i p slice).linePort.adviceTurn = s.linePort.adviceTurn ∧
      (s.takeSwitch i p slice).linePort.pieceTurn = s.linePort.pieceTurn := by
  simp [State.takeSwitch]

@[simp] theorem State.takeSwitch_other {i : Fin 4} (p : PendingSwitch) (slice : Option Nat) {j : Fin 4} (hj : j ≠ i) :
    (s.takeSwitch i p slice).strand j = s.strand j := by
  simp [State.takeSwitch, hj]

@[simp] theorem State.takeSwitch_setup (i : Fin 4) (p : PendingSwitch) (slice : Option Nat) (j : Fin 4) :
    ((s.takeSwitch i p slice).strand j).setup = (s.strand j).setup := by
  simp [State.takeSwitch]

@[simp] theorem State.takeSwitch_mount (i : Fin 4) (p : PendingSwitch) (slice : Option Nat) (q : Fin 16) :
    ((s.takeSwitch i p slice).head q).mount = (s.head q).mount := by
  simp [State.takeSwitch]

@[simp] theorem State.decideSwitch_frame (i : Fin 4) (k : Nat) :
    (s.decideSwitch i k).pending = s.pending ∧ (s.decideSwitch i k).now = s.now ∧
      (s.decideSwitch i k).ownStation = s.ownStation ∧ (s.decideSwitch i k).routes = s.routes ∧
      (s.decideSwitch i k).headPort = s.headPort ∧ (s.decideSwitch i k).travel = s.travel ∧
      (s.decideSwitch i k).scans = s.scans ∧ (s.decideSwitch i k).pressUnknown = s.pressUnknown ∧
      (s.decideSwitch i k).cutInvalid = s.cutInvalid ∧ (s.decideSwitch i k).handler.requests = s.handler.requests ∧
      (s.decideSwitch i k).handler.waiting = s.handler.waiting ∧
      (s.decideSwitch i k).handler.restart = s.handler.restart ∧
      (s.decideSwitch i k).handler.noticeTarget = s.handler.noticeTarget ∧
      (s.decideSwitch i k).handler.counters.requestsDone = s.handler.counters.requestsDone ∧
      (s.decideSwitch i k).handler.counters.requestsRefused = s.handler.counters.requestsRefused ∧
      (s.decideSwitch i k).handler.counters.requestsBusy = s.handler.counters.requestsBusy ∧
      (s.decideSwitch i k).handler.counters.busyUnsent = s.handler.counters.busyUnsent ∧
      (s.decideSwitch i k).linePort.parser = s.linePort.parser ∧
      (s.decideSwitch i k).linePort.counters = s.linePort.counters ∧
      (s.decideSwitch i k).linePort.adviceTurn = s.linePort.adviceTurn ∧
      (s.decideSwitch i k).linePort.pieceTurn = s.linePort.pieceTurn := by
  simp only [State.decideSwitch]; (repeat' split) <;> simp

@[simp] theorem State.decideSwitch_other {i : Fin 4} (k : Nat) {j : Fin 4} (hj : j ≠ i) :
    (s.decideSwitch i k).strand j = s.strand j := by
  simp only [State.decideSwitch]; (repeat' split) <;> simp [hj]

@[simp] theorem State.decideSwitch_setup (i : Fin 4) (k : Nat) (j : Fin 4) :
    ((s.decideSwitch i k).strand j).setup = (s.strand j).setup := by
  simp only [State.decideSwitch]; (repeat' split) <;> simp

@[simp] theorem State.decideSwitch_mount (i : Fin 4) (k : Nat) (q : Fin 16) :
    ((s.decideSwitch i k).head q).mount = (s.head q).mount := by
  simp only [State.decideSwitch]; (repeat' split) <;> simp

@[simp] theorem State.noticeHead_frame (h : Fin 16) (old : HeadState) :
    (s.noticeHead h old).pending = s.pending ∧ (s.noticeHead h old).now = s.now ∧
      (s.noticeHead h old).ownStation = s.ownStation ∧ (s.noticeHead h old).routes = s.routes ∧
      (s.noticeHead h old).headPort = s.headPort ∧ (s.noticeHead h old).heads = s.heads ∧
      (s.noticeHead h old).travel = s.travel ∧ (s.noticeHead h old).strands = s.strands ∧
      (s.noticeHead h old).scans = s.scans ∧ (s.noticeHead h old).pressUnknown = s.pressUnknown ∧
      (s.noticeHead h old).cutInvalid = s.cutInvalid ∧ (s.noticeHead h old).handler.requests = s.handler.requests ∧
      (s.noticeHead h old).handler.waiting = s.handler.waiting ∧
      (s.noticeHead h old).handler.restart = s.handler.restart ∧
      (s.noticeHead h old).handler.noticeTarget = s.handler.noticeTarget ∧
      (s.noticeHead h old).handler.counters.requestsDone = s.handler.counters.requestsDone ∧
      (s.noticeHead h old).handler.counters.requestsRefused = s.handler.counters.requestsRefused ∧
      (s.noticeHead h old).handler.counters.requestsBusy = s.handler.counters.requestsBusy ∧
      (s.noticeHead h old).handler.counters.busyUnsent = s.handler.counters.busyUnsent ∧
      (s.noticeHead h old).linePort.parser = s.linePort.parser ∧
      (s.noticeHead h old).linePort.counters = s.linePort.counters ∧
      (s.noticeHead h old).linePort.adviceTurn = s.linePort.adviceTurn ∧
      (s.noticeHead h old).linePort.pieceTurn = s.linePort.pieceTurn := by
  simp [State.noticeHead]

@[simp] theorem State.noticeHead_strand (h : Fin 16) (old : HeadState) (j : Fin 4) :
    (s.noticeHead h old).strand j = s.strand j :=
  State.strand_of_strands (by simp) j

@[simp] theorem State.noticeHead_head (h : Fin 16) (old : HeadState) (q : Fin 16) :
    (s.noticeHead h old).head q = s.head q :=
  State.head_of_heads (by simp) q

@[simp] theorem State.replaceHead_frame (h : Fin 16) (r : HeadRecord) :
    (s.replaceHead h r).pending = s.pending ∧ (s.replaceHead h r).now = s.now ∧
      (s.replaceHead h r).ownStation = s.ownStation ∧ (s.replaceHead h r).routes = s.routes ∧
      (s.replaceHead h r).headPort = s.headPort ∧ (s.replaceHead h r).travel = s.travel ∧
      (s.replaceHead h r).strands = s.strands ∧ (s.replaceHead h r).scans = s.scans ∧
      (s.replaceHead h r).pressUnknown = s.pressUnknown ∧ (s.replaceHead h r).cutInvalid = s.cutInvalid ∧
      (s.replaceHead h r).handler.requests = s.handler.requests ∧
      (s.replaceHead h r).handler.waiting = s.handler.waiting ∧
      (s.replaceHead h r).handler.restart = s.handler.restart ∧
      (s.replaceHead h r).handler.noticeTarget = s.handler.noticeTarget ∧
      (s.replaceHead h r).handler.counters.requestsDone = s.handler.counters.requestsDone ∧
      (s.replaceHead h r).handler.counters.requestsRefused = s.handler.counters.requestsRefused ∧
      (s.replaceHead h r).handler.counters.requestsBusy = s.handler.counters.requestsBusy ∧
      (s.replaceHead h r).handler.counters.busyUnsent = s.handler.counters.busyUnsent ∧
      (s.replaceHead h r).linePort.parser = s.linePort.parser ∧
      (s.replaceHead h r).linePort.counters = s.linePort.counters ∧
      (s.replaceHead h r).linePort.adviceTurn = s.linePort.adviceTurn ∧
      (s.replaceHead h r).linePort.pieceTurn = s.linePort.pieceTurn := by
  simp only [State.replaceHead]; split <;> simp

@[simp] theorem State.replaceHead_strand (h : Fin 16) (r : HeadRecord) (j : Fin 4) :
    (s.replaceHead h r).strand j = s.strand j :=
  State.strand_of_strands (by simp) j

@[simp] theorem State.replaceHead_otherHead {h : Fin 16} (r : HeadRecord) {q : Fin 16} (hq : q ≠ h) :
    (s.replaceHead h r).head q = s.head q := by
  simp only [State.replaceHead]; split <;> simp [hq]

@[simp] theorem State.replaceHead_mount (h k : Fin 16) (r : HeadRecord) (hr : r.mount = (s.head h).mount) :
    ((s.replaceHead h r).head k).mount = (s.head k).mount := by
  simp only [State.replaceHead]; split <;> simp [hr]

@[simp] theorem State.holdHead_frame (h : Fin 16) :
    (s.holdHead h).pending = s.pending ∧ (s.holdHead h).now = s.now ∧ (s.holdHead h).ownStation = s.ownStation ∧
      (s.holdHead h).routes = s.routes ∧ (s.holdHead h).travel = s.travel ∧ (s.holdHead h).strands = s.strands ∧
      (s.holdHead h).scans = s.scans ∧ (s.holdHead h).pressUnknown = s.pressUnknown ∧
      (s.holdHead h).cutInvalid = s.cutInvalid ∧ (s.holdHead h).handler.requests = s.handler.requests ∧
      (s.holdHead h).handler.waiting = s.handler.waiting ∧ (s.holdHead h).handler.restart = s.handler.restart ∧
      (s.holdHead h).handler.noticeTarget = s.handler.noticeTarget ∧
      (s.holdHead h).handler.counters.requestsDone = s.handler.counters.requestsDone ∧
      (s.holdHead h).handler.counters.requestsRefused = s.handler.counters.requestsRefused ∧
      (s.holdHead h).handler.counters.requestsBusy = s.handler.counters.requestsBusy ∧
      (s.holdHead h).handler.counters.busyUnsent = s.handler.counters.busyUnsent ∧
      (s.holdHead h).linePort.parser = s.linePort.parser ∧ (s.holdHead h).linePort.counters = s.linePort.counters ∧
      (s.holdHead h).linePort.adviceTurn = s.linePort.adviceTurn ∧
      (s.holdHead h).linePort.pieceTurn = s.linePort.pieceTurn := by
  simp [State.holdHead]

@[simp] theorem State.holdHead_strand (h : Fin 16) (j : Fin 4) : (s.holdHead h).strand j = s.strand j :=
  State.strand_of_strands (by simp) j

@[simp] theorem State.holdHead_otherHead {h : Fin 16} {q : Fin 16} (hq : q ≠ h) :
    (s.holdHead h).head q = s.head q := by
  simp [State.holdHead, hq]

@[simp] theorem State.holdHead_mount (h : Fin 16) (q : Fin 16) :
    ((s.holdHead h).head q).mount = (s.head q).mount := by
  simp [State.holdHead]

@[simp] theorem State.expireRelease_frame (h : Fin 16) :
    (s.expireRelease h).pending = s.pending ∧ (s.expireRelease h).now = s.now ∧
      (s.expireRelease h).ownStation = s.ownStation ∧ (s.expireRelease h).routes = s.routes ∧
      (s.expireRelease h).travel = s.travel ∧ (s.expireRelease h).strands = s.strands ∧
      (s.expireRelease h).scans = s.scans ∧ (s.expireRelease h).pressUnknown = s.pressUnknown ∧
      (s.expireRelease h).cutInvalid = s.cutInvalid ∧ (s.expireRelease h).handler.requests = s.handler.requests ∧
      (s.expireRelease h).handler.waiting = s.handler.waiting ∧
      (s.expireRelease h).handler.restart = s.handler.restart ∧
      (s.expireRelease h).handler.noticeTarget = s.handler.noticeTarget ∧
      (s.expireRelease h).handler.counters.requestsDone = s.handler.counters.requestsDone ∧
      (s.expireRelease h).handler.counters.requestsRefused = s.handler.counters.requestsRefused ∧
      (s.expireRelease h).handler.counters.requestsBusy = s.handler.counters.requestsBusy ∧
      (s.expireRelease h).handler.counters.busyUnsent = s.handler.counters.busyUnsent ∧
      (s.expireRelease h).linePort.parser = s.linePort.parser ∧
      (s.expireRelease h).linePort.counters = s.linePort.counters ∧
      (s.expireRelease h).linePort.adviceTurn = s.linePort.adviceTurn ∧
      (s.expireRelease h).linePort.pieceTurn = s.linePort.pieceTurn := by
  simp [State.expireRelease]

@[simp] theorem State.expireRelease_strand (h : Fin 16) (j : Fin 4) : (s.expireRelease h).strand j = s.strand j :=
  State.strand_of_strands (by simp) j

@[simp] theorem State.expireRelease_otherHead {h : Fin 16} {q : Fin 16} (hq : q ≠ h) :
    (s.expireRelease h).head q = s.head q := by
  simp [State.expireRelease, hq]

@[simp] theorem State.expireRelease_mount (h : Fin 16) (q : Fin 16) :
    ((s.expireRelease h).head q).mount = (s.head q).mount := by
  simp [State.expireRelease]

@[simp] theorem State.beginRelease_frame (h : Fin 16) :
    (s.beginRelease h).pending = s.pending ∧ (s.beginRelease h).now = s.now ∧
      (s.beginRelease h).ownStation = s.ownStation ∧ (s.beginRelease h).routes = s.routes ∧
      (s.beginRelease h).travel = s.travel ∧ (s.beginRelease h).strands = s.strands ∧
      (s.beginRelease h).scans = s.scans ∧ (s.beginRelease h).pressUnknown = s.pressUnknown ∧
      (s.beginRelease h).cutInvalid = s.cutInvalid ∧ (s.beginRelease h).handler.requests = s.handler.requests ∧
      (s.beginRelease h).handler.waiting = s.handler.waiting ∧
      (s.beginRelease h).handler.restart = s.handler.restart ∧
      (s.beginRelease h).handler.noticeTarget = s.handler.noticeTarget ∧
      (s.beginRelease h).handler.counters.requestsDone = s.handler.counters.requestsDone ∧
      (s.beginRelease h).handler.counters.requestsRefused = s.handler.counters.requestsRefused ∧
      (s.beginRelease h).handler.counters.requestsBusy = s.handler.counters.requestsBusy ∧
      (s.beginRelease h).handler.counters.busyUnsent = s.handler.counters.busyUnsent ∧
      (s.beginRelease h).linePort.parser = s.linePort.parser ∧
      (s.beginRelease h).linePort.counters = s.linePort.counters ∧
      (s.beginRelease h).linePort.adviceTurn = s.linePort.adviceTurn ∧
      (s.beginRelease h).linePort.pieceTurn = s.linePort.pieceTurn := by
  simp only [State.beginRelease]; split <;> simp

@[simp] theorem State.beginRelease_strand (h : Fin 16) (j : Fin 4) : (s.beginRelease h).strand j = s.strand j :=
  State.strand_of_strands (by simp) j

@[simp] theorem State.beginRelease_otherHead {h : Fin 16} {q : Fin 16} (hq : q ≠ h) :
    (s.beginRelease h).head q = s.head q := by
  simp only [State.beginRelease]; split <;> simp [hq]

@[simp] theorem State.beginRelease_mount (h : Fin 16) (q : Fin 16) :
    ((s.beginRelease h).head q).mount = (s.head q).mount := by
  simp only [State.beginRelease]; split <;> simp

@[simp] theorem State.faultHead_frame (h : Fin 16) (c : FaultCause) :
    (s.faultHead h c).pending = s.pending ∧ (s.faultHead h c).now = s.now ∧
      (s.faultHead h c).ownStation = s.ownStation ∧ (s.faultHead h c).routes = s.routes ∧
      (s.faultHead h c).headPort = s.headPort ∧ (s.faultHead h c).travel = s.travel ∧
      (s.faultHead h c).strands = s.strands ∧ (s.faultHead h c).scans = s.scans ∧
      (s.faultHead h c).pressUnknown = s.pressUnknown ∧ (s.faultHead h c).cutInvalid = s.cutInvalid ∧
      (s.faultHead h c).handler.requests = s.handler.requests ∧
      (s.faultHead h c).handler.waiting = s.handler.waiting ∧ (s.faultHead h c).handler.restart = s.handler.restart ∧
      (s.faultHead h c).handler.noticeTarget = s.handler.noticeTarget ∧
      (s.faultHead h c).handler.counters.requestsDone = s.handler.counters.requestsDone ∧
      (s.faultHead h c).handler.counters.requestsRefused = s.handler.counters.requestsRefused ∧
      (s.faultHead h c).handler.counters.requestsBusy = s.handler.counters.requestsBusy ∧
      (s.faultHead h c).handler.counters.busyUnsent = s.handler.counters.busyUnsent ∧
      (s.faultHead h c).linePort.parser = s.linePort.parser ∧
      (s.faultHead h c).linePort.counters = s.linePort.counters ∧
      (s.faultHead h c).linePort.adviceTurn = s.linePort.adviceTurn ∧
      (s.faultHead h c).linePort.pieceTurn = s.linePort.pieceTurn := by
  simp [State.faultHead]

@[simp] theorem State.faultHead_strand (h : Fin 16) (c : FaultCause) (j : Fin 4) :
    (s.faultHead h c).strand j = s.strand j :=
  State.strand_of_strands (by simp) j

@[simp] theorem State.faultHead_otherHead {h : Fin 16} (c : FaultCause) {q : Fin 16} (hq : q ≠ h) :
    (s.faultHead h c).head q = s.head q := by
  simp [State.faultHead, hq]

@[simp] theorem State.faultHead_mount (h : Fin 16) (c : FaultCause) (q : Fin 16) :
    ((s.faultHead h c).head q).mount = (s.head q).mount := by
  simp [State.faultHead]

@[simp] theorem State.noticeReannounced_frame (h : Fin 16) (old : HeadRecord) (a : Announced) :
    (s.noticeReannounced h old a).pending = s.pending ∧ (s.noticeReannounced h old a).now = s.now ∧
      (s.noticeReannounced h old a).ownStation = s.ownStation ∧ (s.noticeReannounced h old a).routes = s.routes ∧
      (s.noticeReannounced h old a).headPort = s.headPort ∧ (s.noticeReannounced h old a).heads = s.heads ∧
      (s.noticeReannounced h old a).travel = s.travel ∧ (s.noticeReannounced h old a).strands = s.strands ∧
      (s.noticeReannounced h old a).scans = s.scans ∧ (s.noticeReannounced h old a).pressUnknown = s.pressUnknown ∧
      (s.noticeReannounced h old a).cutInvalid = s.cutInvalid ∧
      (s.noticeReannounced h old a).handler.requests = s.handler.requests ∧
      (s.noticeReannounced h old a).handler.waiting = s.handler.waiting ∧
      (s.noticeReannounced h old a).handler.restart = s.handler.restart ∧
      (s.noticeReannounced h old a).handler.noticeTarget = s.handler.noticeTarget ∧
      (s.noticeReannounced h old a).handler.counters.requestsDone = s.handler.counters.requestsDone ∧
      (s.noticeReannounced h old a).handler.counters.requestsRefused = s.handler.counters.requestsRefused ∧
      (s.noticeReannounced h old a).handler.counters.requestsBusy = s.handler.counters.requestsBusy ∧
      (s.noticeReannounced h old a).handler.counters.busyUnsent = s.handler.counters.busyUnsent ∧
      (s.noticeReannounced h old a).linePort.parser = s.linePort.parser ∧
      (s.noticeReannounced h old a).linePort.counters = s.linePort.counters ∧
      (s.noticeReannounced h old a).linePort.adviceTurn = s.linePort.adviceTurn ∧
      (s.noticeReannounced h old a).linePort.pieceTurn = s.linePort.pieceTurn := by
  simp only [State.noticeReannounced]; (repeat' split) <;> simp

@[simp] theorem State.noticeReannounced_strand (h : Fin 16) (old : HeadRecord) (a : Announced) (j : Fin 4) :
    (s.noticeReannounced h old a).strand j = s.strand j :=
  State.strand_of_strands (by simp) j

@[simp] theorem State.noticeReannounced_head (h : Fin 16) (old : HeadRecord) (a : Announced) (q : Fin 16) :
    (s.noticeReannounced h old a).head q = s.head q :=
  State.head_of_heads (by simp) q

@[simp] theorem State.unseedHead_frame (h : Fin 16) :
    (s.unseedHead h).pending = s.pending ∧ (s.unseedHead h).now = s.now ∧
      (s.unseedHead h).ownStation = s.ownStation ∧ (s.unseedHead h).routes = s.routes ∧
      (s.unseedHead h).headPort = s.headPort ∧ (s.unseedHead h).linePort = s.linePort ∧
      (s.unseedHead h).heads = s.heads ∧ (s.unseedHead h).travel = s.travel ∧ (s.unseedHead h).scans = s.scans ∧
      (s.unseedHead h).pressUnknown = s.pressUnknown ∧ (s.unseedHead h).cutInvalid = s.cutInvalid ∧
      (s.unseedHead h).handler = s.handler := by
  simp only [State.unseedHead]; split <;> simp

@[simp] theorem State.unseedHead_head (h : Fin 16) (q : Fin 16) : (s.unseedHead h).head q = s.head q :=
  State.head_of_heads (by simp) q

@[simp] theorem State.unseedHead_setup (h : Fin 16) (j : Fin 4) :
    ((s.unseedHead h).strand j).setup = (s.strand j).setup := by
  simp only [State.unseedHead]; split <;> simp

@[simp] theorem State.validAnnounce_frame (h : Fin 16) (a : Announced) :
    (s.validAnnounce h a).pending = s.pending ∧ (s.validAnnounce h a).now = s.now ∧
      (s.validAnnounce h a).ownStation = s.ownStation ∧ (s.validAnnounce h a).routes = s.routes ∧
      (s.validAnnounce h a).headPort = s.headPort ∧ (s.validAnnounce h a).travel = s.travel ∧
      (s.validAnnounce h a).scans = s.scans ∧ (s.validAnnounce h a).pressUnknown = s.pressUnknown ∧
      (s.validAnnounce h a).cutInvalid = s.cutInvalid ∧ (s.validAnnounce h a).handler.requests = s.handler.requests ∧
      (s.validAnnounce h a).handler.waiting = s.handler.waiting ∧
      (s.validAnnounce h a).handler.restart = s.handler.restart ∧
      (s.validAnnounce h a).handler.noticeTarget = s.handler.noticeTarget ∧
      (s.validAnnounce h a).handler.counters.requestsDone = s.handler.counters.requestsDone ∧
      (s.validAnnounce h a).handler.counters.requestsRefused = s.handler.counters.requestsRefused ∧
      (s.validAnnounce h a).handler.counters.requestsBusy = s.handler.counters.requestsBusy ∧
      (s.validAnnounce h a).handler.counters.busyUnsent = s.handler.counters.busyUnsent ∧
      (s.validAnnounce h a).linePort.parser = s.linePort.parser ∧
      (s.validAnnounce h a).linePort.counters = s.linePort.counters ∧
      (s.validAnnounce h a).linePort.adviceTurn = s.linePort.adviceTurn ∧
      (s.validAnnounce h a).linePort.pieceTurn = s.linePort.pieceTurn := by
  simp only [State.validAnnounce]; split <;> simp

@[simp] theorem State.validAnnounce_otherHead {h : Fin 16} (a : Announced) {q : Fin 16} (hq : q ≠ h) :
    (s.validAnnounce h a).head q = s.head q := by
  simp only [State.validAnnounce]; split <;> simp [hq]

@[simp] theorem State.validAnnounce_setup (h : Fin 16) (a : Announced) (j : Fin 4) :
    ((s.validAnnounce h a).strand j).setup = (s.strand j).setup := by
  simp only [State.validAnnounce]; split <;> simp

@[simp] theorem State.validAnnounce_mount (h : Fin 16) (a : Announced) (q : Fin 16) :
    ((s.validAnnounce h a).head q).mount = (s.head q).mount := by
  dsimp only [State.validAnnounce]; split <;> simp [State.announcedRecord]

@[simp] theorem State.announce_frame (h : Fin 16) (p : List Byte) :
    (s.announce h p).pending = s.pending ∧ (s.announce h p).now = s.now ∧
      (s.announce h p).ownStation = s.ownStation ∧ (s.announce h p).routes = s.routes ∧
      (s.announce h p).headPort = s.headPort ∧ (s.announce h p).travel = s.travel ∧ (s.announce h p).scans = s.scans ∧
      (s.announce h p).pressUnknown = s.pressUnknown ∧ (s.announce h p).cutInvalid = s.cutInvalid ∧
      (s.announce h p).handler.requests = s.handler.requests ∧ (s.announce h p).handler.waiting = s.handler.waiting ∧
      (s.announce h p).handler.restart = s.handler.restart ∧
      (s.announce h p).handler.noticeTarget = s.handler.noticeTarget ∧
      (s.announce h p).handler.counters.requestsDone = s.handler.counters.requestsDone ∧
      (s.announce h p).handler.counters.requestsRefused = s.handler.counters.requestsRefused ∧
      (s.announce h p).handler.counters.requestsBusy = s.handler.counters.requestsBusy ∧
      (s.announce h p).handler.counters.busyUnsent = s.handler.counters.busyUnsent ∧
      (s.announce h p).linePort.parser = s.linePort.parser ∧
      (s.announce h p).linePort.counters = s.linePort.counters ∧
      (s.announce h p).linePort.adviceTurn = s.linePort.adviceTurn ∧
      (s.announce h p).linePort.pieceTurn = s.linePort.pieceTurn := by
  simp only [State.announce]; (repeat' split) <;> simp

@[simp] theorem State.announce_otherHead {h : Fin 16} (p : List Byte) {q : Fin 16} (hq : q ≠ h) :
    (s.announce h p).head q = s.head q := by
  simp only [State.announce]; (repeat' split) <;> simp [hq]

@[simp] theorem State.announce_setup (h : Fin 16) (p : List Byte) (j : Fin 4) :
    ((s.announce h p).strand j).setup = (s.strand j).setup := by
  simp only [State.announce]; (repeat' split) <;> simp

@[simp] theorem State.announce_mount (h : Fin 16) (p : List Byte) (q : Fin 16) :
    ((s.announce h p).head q).mount = (s.head q).mount := by
  simp only [State.announce]; (repeat' split) <;> simp

@[simp] theorem State.reportCheckError_frame (h : Fin 16) :
    (s.reportCheckError h).pending = s.pending ∧ (s.reportCheckError h).now = s.now ∧
      (s.reportCheckError h).ownStation = s.ownStation ∧ (s.reportCheckError h).routes = s.routes ∧
      (s.reportCheckError h).headPort = s.headPort ∧ (s.reportCheckError h).travel = s.travel ∧
      (s.reportCheckError h).strands = s.strands ∧ (s.reportCheckError h).scans = s.scans ∧
      (s.reportCheckError h).pressUnknown = s.pressUnknown ∧ (s.reportCheckError h).cutInvalid = s.cutInvalid ∧
      (s.reportCheckError h).handler.requests = s.handler.requests ∧
      (s.reportCheckError h).handler.waiting = s.handler.waiting ∧
      (s.reportCheckError h).handler.restart = s.handler.restart ∧
      (s.reportCheckError h).handler.noticeTarget = s.handler.noticeTarget ∧
      (s.reportCheckError h).handler.counters.requestsDone = s.handler.counters.requestsDone ∧
      (s.reportCheckError h).handler.counters.requestsRefused = s.handler.counters.requestsRefused ∧
      (s.reportCheckError h).handler.counters.requestsBusy = s.handler.counters.requestsBusy ∧
      (s.reportCheckError h).handler.counters.busyUnsent = s.handler.counters.busyUnsent ∧
      (s.reportCheckError h).linePort.parser = s.linePort.parser ∧
      (s.reportCheckError h).linePort.counters = s.linePort.counters ∧
      (s.reportCheckError h).linePort.adviceTurn = s.linePort.adviceTurn ∧
      (s.reportCheckError h).linePort.pieceTurn = s.linePort.pieceTurn := by
  simp only [State.reportCheckError]; (repeat' split) <;> simp

@[simp] theorem State.reportCheckError_strand (h : Fin 16) (j : Fin 4) : (s.reportCheckError h).strand j = s.strand j :=
  State.strand_of_strands (by simp) j

@[simp] theorem State.reportCheckError_otherHead {h : Fin 16} {q : Fin 16} (hq : q ≠ h) :
    (s.reportCheckError h).head q = s.head q := by
  simp only [State.reportCheckError]; (repeat' split) <;> simp [hq]

@[simp] theorem State.reportCheckError_mount (h : Fin 16) (q : Fin 16) :
    ((s.reportCheckError h).head q).mount = (s.head q).mount := by
  simp only [State.reportCheckError]; (repeat' split) <;> simp

@[simp] theorem State.reportAccepted_frame (h : Fin 16) :
    (s.reportAccepted h).pending = s.pending ∧ (s.reportAccepted h).now = s.now ∧
      (s.reportAccepted h).ownStation = s.ownStation ∧ (s.reportAccepted h).routes = s.routes ∧
      (s.reportAccepted h).headPort = s.headPort ∧ (s.reportAccepted h).travel = s.travel ∧
      (s.reportAccepted h).strands = s.strands ∧ (s.reportAccepted h).scans = s.scans ∧
      (s.reportAccepted h).pressUnknown = s.pressUnknown ∧ (s.reportAccepted h).cutInvalid = s.cutInvalid ∧
      (s.reportAccepted h).handler.requests = s.handler.requests ∧
      (s.reportAccepted h).handler.waiting = s.handler.waiting ∧
      (s.reportAccepted h).handler.restart = s.handler.restart ∧
      (s.reportAccepted h).handler.noticeTarget = s.handler.noticeTarget ∧
      (s.reportAccepted h).handler.counters.requestsDone = s.handler.counters.requestsDone ∧
      (s.reportAccepted h).handler.counters.requestsRefused = s.handler.counters.requestsRefused ∧
      (s.reportAccepted h).handler.counters.requestsBusy = s.handler.counters.requestsBusy ∧
      (s.reportAccepted h).handler.counters.busyUnsent = s.handler.counters.busyUnsent ∧
      (s.reportAccepted h).linePort.parser = s.linePort.parser ∧
      (s.reportAccepted h).linePort.counters = s.linePort.counters ∧
      (s.reportAccepted h).linePort.adviceTurn = s.linePort.adviceTurn ∧
      (s.reportAccepted h).linePort.pieceTurn = s.linePort.pieceTurn := by
  simp [State.reportAccepted]

@[simp] theorem State.reportAccepted_strand (h : Fin 16) (j : Fin 4) : (s.reportAccepted h).strand j = s.strand j :=
  State.strand_of_strands (by simp) j

@[simp] theorem State.reportAccepted_otherHead {h : Fin 16} {q : Fin 16} (hq : q ≠ h) :
    (s.reportAccepted h).head q = s.head q := by
  simp [State.reportAccepted, hq]

@[simp] theorem State.reportAccepted_mount (h : Fin 16) (q : Fin 16) :
    ((s.reportAccepted h).head q).mount = (s.head q).mount := by
  simp [State.reportAccepted]

@[simp] theorem State.reportDiscarded_frame (h : Fin 16) :
    (s.reportDiscarded h).pending = s.pending ∧ (s.reportDiscarded h).now = s.now ∧
      (s.reportDiscarded h).ownStation = s.ownStation ∧ (s.reportDiscarded h).routes = s.routes ∧
      (s.reportDiscarded h).headPort = s.headPort ∧ (s.reportDiscarded h).linePort = s.linePort ∧
      (s.reportDiscarded h).travel = s.travel ∧ (s.reportDiscarded h).strands = s.strands ∧
      (s.reportDiscarded h).scans = s.scans ∧ (s.reportDiscarded h).pressUnknown = s.pressUnknown ∧
      (s.reportDiscarded h).cutInvalid = s.cutInvalid ∧ (s.reportDiscarded h).handler = s.handler := by
  simp [State.reportDiscarded]

@[simp] theorem State.reportDiscarded_strand (h : Fin 16) (j : Fin 4) : (s.reportDiscarded h).strand j = s.strand j :=
  State.strand_of_strands (by simp) j

@[simp] theorem State.reportDiscarded_otherHead {h : Fin 16} {q : Fin 16} (hq : q ≠ h) :
    (s.reportDiscarded h).head q = s.head q := by
  simp [State.reportDiscarded, hq]

@[simp] theorem State.reportDiscarded_mount (h : Fin 16) (q : Fin 16) :
    ((s.reportDiscarded h).head q).mount = (s.head q).mount := by
  simp [State.reportDiscarded]

@[simp] theorem State.reportMiss_frame (h : Fin 16) :
    (s.reportMiss h).pending = s.pending ∧ (s.reportMiss h).now = s.now ∧
      (s.reportMiss h).ownStation = s.ownStation ∧ (s.reportMiss h).routes = s.routes ∧
      (s.reportMiss h).headPort = s.headPort ∧ (s.reportMiss h).travel = s.travel ∧
      (s.reportMiss h).strands = s.strands ∧ (s.reportMiss h).scans = s.scans ∧
      (s.reportMiss h).pressUnknown = s.pressUnknown ∧ (s.reportMiss h).cutInvalid = s.cutInvalid ∧
      (s.reportMiss h).handler.requests = s.handler.requests ∧ (s.reportMiss h).handler.waiting = s.handler.waiting ∧
      (s.reportMiss h).handler.restart = s.handler.restart ∧
      (s.reportMiss h).handler.noticeTarget = s.handler.noticeTarget ∧
      (s.reportMiss h).handler.counters.requestsDone = s.handler.counters.requestsDone ∧
      (s.reportMiss h).handler.counters.requestsRefused = s.handler.counters.requestsRefused ∧
      (s.reportMiss h).handler.counters.requestsBusy = s.handler.counters.requestsBusy ∧
      (s.reportMiss h).handler.counters.busyUnsent = s.handler.counters.busyUnsent ∧
      (s.reportMiss h).linePort.parser = s.linePort.parser ∧
      (s.reportMiss h).linePort.counters = s.linePort.counters ∧
      (s.reportMiss h).linePort.adviceTurn = s.linePort.adviceTurn ∧
      (s.reportMiss h).linePort.pieceTurn = s.linePort.pieceTurn := by
  simp only [State.reportMiss]; (repeat' split) <;> simp

@[simp] theorem State.reportMiss_strand (h : Fin 16) (j : Fin 4) : (s.reportMiss h).strand j = s.strand j :=
  State.strand_of_strands (by simp) j

@[simp] theorem State.reportMiss_otherHead {h : Fin 16} {q : Fin 16} (hq : q ≠ h) :
    (s.reportMiss h).head q = s.head q := by
  simp only [State.reportMiss]; (repeat' split) <;> simp [hq]

@[simp] theorem State.reportMiss_mount (h : Fin 16) (q : Fin 16) :
    ((s.reportMiss h).head q).mount = (s.head q).mount := by
  simp only [State.reportMiss]; (repeat' split) <;> simp

@[simp] theorem State.refreshHead_frame (i : Fin 4) (h : Fin 16) :
    (State.refreshHead i s h).pending = s.pending ∧ (State.refreshHead i s h).now = s.now ∧
      (State.refreshHead i s h).ownStation = s.ownStation ∧ (State.refreshHead i s h).routes = s.routes ∧
      (State.refreshHead i s h).headPort = s.headPort ∧ (State.refreshHead i s h).travel = s.travel ∧
      (State.refreshHead i s h).strands = s.strands ∧ (State.refreshHead i s h).scans = s.scans ∧
      (State.refreshHead i s h).pressUnknown = s.pressUnknown ∧ (State.refreshHead i s h).cutInvalid = s.cutInvalid ∧
      (State.refreshHead i s h).handler.requests = s.handler.requests ∧
      (State.refreshHead i s h).handler.waiting = s.handler.waiting ∧
      (State.refreshHead i s h).handler.restart = s.handler.restart ∧
      (State.refreshHead i s h).handler.noticeTarget = s.handler.noticeTarget ∧
      (State.refreshHead i s h).handler.counters.requestsDone = s.handler.counters.requestsDone ∧
      (State.refreshHead i s h).handler.counters.requestsRefused = s.handler.counters.requestsRefused ∧
      (State.refreshHead i s h).handler.counters.requestsBusy = s.handler.counters.requestsBusy ∧
      (State.refreshHead i s h).handler.counters.busyUnsent = s.handler.counters.busyUnsent ∧
      (State.refreshHead i s h).linePort.parser = s.linePort.parser ∧
      (State.refreshHead i s h).linePort.counters = s.linePort.counters ∧
      (State.refreshHead i s h).linePort.adviceTurn = s.linePort.adviceTurn ∧
      (State.refreshHead i s h).linePort.pieceTurn = s.linePort.pieceTurn := by
  simp only [State.refreshHead]; split <;> simp

@[simp] theorem State.refreshHead_strand (i : Fin 4) (h : Fin 16) (j : Fin 4) :
    (State.refreshHead i s h).strand j = s.strand j :=
  State.strand_of_strands (by simp) j

@[simp] theorem State.refreshHead_otherHead (i : Fin 4) {h : Fin 16} {q : Fin 16} (hq : q ≠ h) :
    (State.refreshHead i s h).head q = s.head q := by
  simp only [State.refreshHead]; split <;> simp [hq]

@[simp] theorem State.refreshHead_mount (i : Fin 4) (h : Fin 16) (q : Fin 16) :
    ((State.refreshHead i s h).head q).mount = (s.head q).mount := by
  dsimp only [State.refreshHead]; split <;> simp

@[simp] theorem State.refreshHeads_frame (i : Fin 4) :
    (s.refreshHeads i).pending = s.pending ∧ (s.refreshHeads i).now = s.now ∧
      (s.refreshHeads i).ownStation = s.ownStation ∧ (s.refreshHeads i).routes = s.routes ∧
      (s.refreshHeads i).headPort = s.headPort ∧ (s.refreshHeads i).travel = s.travel ∧
      (s.refreshHeads i).strands = s.strands ∧ (s.refreshHeads i).scans = s.scans ∧
      (s.refreshHeads i).pressUnknown = s.pressUnknown ∧ (s.refreshHeads i).cutInvalid = s.cutInvalid ∧
      (s.refreshHeads i).handler.requests = s.handler.requests ∧
      (s.refreshHeads i).handler.waiting = s.handler.waiting ∧
      (s.refreshHeads i).handler.restart = s.handler.restart ∧
      (s.refreshHeads i).handler.noticeTarget = s.handler.noticeTarget ∧
      (s.refreshHeads i).handler.counters.requestsDone = s.handler.counters.requestsDone ∧
      (s.refreshHeads i).handler.counters.requestsRefused = s.handler.counters.requestsRefused ∧
      (s.refreshHeads i).handler.counters.requestsBusy = s.handler.counters.requestsBusy ∧
      (s.refreshHeads i).handler.counters.busyUnsent = s.handler.counters.busyUnsent ∧
      (s.refreshHeads i).linePort.parser = s.linePort.parser ∧
      (s.refreshHeads i).linePort.counters = s.linePort.counters ∧
      (s.refreshHeads i).linePort.adviceTurn = s.linePort.adviceTurn ∧
      (s.refreshHeads i).linePort.pieceTurn = s.linePort.pieceTurn := by
  simp [State.refreshHeads, allHeads]

@[simp] theorem State.refreshHeads_strand (i : Fin 4) (j : Fin 4) : (s.refreshHeads i).strand j = s.strand j :=
  State.strand_of_strands (by simp) j

@[simp] theorem State.refreshHeads_mount (i : Fin 4) (q : Fin 16) :
    ((s.refreshHeads i).head q).mount = (s.head q).mount := by
  simp [State.refreshHeads, allHeads]

@[simp] theorem State.assignHead_frame (i : Fin 4) (old new : Vector (Option (Fin 16)) 6) (h : Fin 16) :
    (State.assignHead i old new s h).pending = s.pending ∧ (State.assignHead i old new s h).now = s.now ∧
      (State.assignHead i old new s h).ownStation = s.ownStation ∧
      (State.assignHead i old new s h).routes = s.routes ∧ (State.assignHead i old new s h).headPort = s.headPort ∧
      (State.assignHead i old new s h).linePort = s.linePort ∧ (State.assignHead i old new s h).travel = s.travel ∧
      (State.assignHead i old new s h).strands = s.strands ∧ (State.assignHead i old new s h).scans = s.scans ∧
      (State.assignHead i old new s h).pressUnknown = s.pressUnknown ∧
      (State.assignHead i old new s h).cutInvalid = s.cutInvalid ∧
      (State.assignHead i old new s h).handler = s.handler := by
  simp only [State.assignHead]; split <;> simp

@[simp] theorem State.assignHead_strand (i : Fin 4) (old new : Vector (Option (Fin 16)) 6) (h : Fin 16) (j : Fin 4) :
    (State.assignHead i old new s h).strand j = s.strand j :=
  State.strand_of_strands (by simp) j

@[simp] theorem State.assignHead_otherHead (i : Fin 4) (old new : Vector (Option (Fin 16)) 6) {h : Fin 16} {q : Fin 16} (hq : q ≠ h) :
    (State.assignHead i old new s h).head q = s.head q := by
  simp only [State.assignHead]; split <;> simp [hq]

@[simp] theorem State.requeueRelease_frame (h : Fin 16) :
    (s.requeueRelease h).pending = s.pending ∧ (s.requeueRelease h).now = s.now ∧
      (s.requeueRelease h).ownStation = s.ownStation ∧ (s.requeueRelease h).routes = s.routes ∧
      (s.requeueRelease h).linePort = s.linePort ∧ (s.requeueRelease h).heads = s.heads ∧
      (s.requeueRelease h).travel = s.travel ∧ (s.requeueRelease h).strands = s.strands ∧
      (s.requeueRelease h).scans = s.scans ∧ (s.requeueRelease h).pressUnknown = s.pressUnknown ∧
      (s.requeueRelease h).cutInvalid = s.cutInvalid ∧ (s.requeueRelease h).handler = s.handler := by
  simp only [State.requeueRelease]; split <;> simp

@[simp] theorem State.requeueRelease_strand (h : Fin 16) (j : Fin 4) : (s.requeueRelease h).strand j = s.strand j :=
  State.strand_of_strands (by simp) j

@[simp] theorem State.requeueRelease_head (h : Fin 16) (q : Fin 16) : (s.requeueRelease h).head q = s.head q :=
  State.head_of_heads (by simp) q

@[simp] theorem State.restartHeads_frame :
    (s.restartHeads).pending = s.pending ∧ (s.restartHeads).now = s.now ∧
      (s.restartHeads).ownStation = s.ownStation ∧ (s.restartHeads).routes = s.routes ∧
      (s.restartHeads).linePort = s.linePort ∧ (s.restartHeads).travel = s.travel ∧
      (s.restartHeads).strands = s.strands ∧ (s.restartHeads).scans = s.scans ∧
      (s.restartHeads).pressUnknown = s.pressUnknown ∧ (s.restartHeads).cutInvalid = s.cutInvalid ∧
      (s.restartHeads).handler = s.handler := by
  simp [State.restartHeads, allHeads]

@[simp] theorem State.restartHeads_strand (j : Fin 4) : (s.restartHeads).strand j = s.strand j :=
  State.strand_of_strands (by simp) j

@[simp] theorem State.restartHeads_mount (q : Fin 16) :
    ((s.restartHeads).head q).mount = (s.head q).mount := by
  simp [State.restartHeads, allHeads, HeadRecord.restarted]

end Sys2Proof.Machine
end

