-- ==== Sys2Proof/Laws/Layouts.lean ====
section
/-! SUPPORT. The encoders of chapter 10 write the bytes of the layouts of Safety.lean: the field types first, then each record
and each read body. -/

namespace Sys2Proof.Machine

/-! ## Field types (R165) -/

@[simp] theorem bytesOf_nil : bytesOf [] = [] := rfl

@[simp] theorem bytesOf_append (a b : Layout) : bytesOf (a ++ b) = bytesOf a ++ bytesOf b := by simp [bytesOf]

@[simp] theorem bytesOf_flatMap {α : Type} (l : List α) (f : α → Layout) :
    bytesOf (l.flatMap f) = l.flatMap fun a => bytesOf (f a) := by
  induction l with
  | nil => rfl
  | cons a l ih => simp only [List.flatMap_cons, bytesOf_append, ih]

@[simp] theorem bytesOf_code (n : Nat) (l : Layout) : bytesOf ((1, n) :: l) = encCode n ++ bytesOf l := by
  simp [bytesOf, encCode, List.range, List.range.loop]

@[simp] theorem bytesOf_short (n : Nat) (l : Layout) : bytesOf ((2, n) :: l) = encShort n ++ bytesOf l := by
  simp [bytesOf, encShort, List.range, List.range.loop]

@[simp] theorem bytesOf_word (n : Nat) (l : Layout) : bytesOf ((4, n) :: l) = encWord n ++ bytesOf l := by
  simp [bytesOf, encShort, encWord, List.range, List.range.loop, Nat.div_div_eq_div_mul]

@[simp] theorem bytesOf_position (n : Nat) (l : Layout) : bytesOf ((6, n) :: l) = encPosition n ++ bytesOf l := by
  simp [bytesOf, encShort, encWord, encPosition, List.range, List.range.loop, Nat.div_div_eq_div_mul]

@[simp] theorem bytesOf_optional (k : Nat) (o : Option Layout) :
    bytesOf (optional k o) = encOption k (o.map bytesOf) := by
  cases o with
  | none =>
    simp only [optional, encOption, bytesOf_code, Option.map]
    congr 1
    simp [bytesOf, List.map_const']
  | some l => simp [optional, encOption]

@[simp] theorem encWord_twos (z : Int) : encWord (twos 4 z) = encSigned z := by simp [encSigned, twos]

@[simp] theorem encCode_twos (z : Int) : encCode (twos 1 z) = encSignedCode z := by simp [encSignedCode, twos]

/-- A list of fields of one size is encoded one by one. -/
theorem bytesOf_fieldsOf {k : Nat} {enc : Nat → List Byte} (h : ∀ n l, bytesOf ((k, n) :: l) = enc n ++ bytesOf l)
    (l : List Nat) : bytesOf (fieldsOf k l) = l.flatMap enc := by
  induction l with
  | nil => rfl
  | cons a l ih => rw [List.flatMap_cons, ← ih]; exact h a (fieldsOf k l)

@[simp] theorem bytesOf_codes (l : List Nat) : bytesOf (fieldsOf 1 l) = l.flatMap encCode := bytesOf_fieldsOf bytesOf_code l

@[simp] theorem bytesOf_shorts (l : List Nat) : bytesOf (fieldsOf 2 l) = l.flatMap encShort :=
  bytesOf_fieldsOf bytesOf_short l

@[simp] theorem bytesOf_words (l : List Nat) : bytesOf (fieldsOf 4 l) = encCounters l := bytesOf_fieldsOf bytesOf_word l

@[simp] theorem bytesOf_positions (l : List Nat) : bytesOf (fieldsOf 6 l) = l.flatMap encPosition :=
  bytesOf_fieldsOf bytesOf_position l

@[simp] theorem bytesOf_causeLayout (c : Option Cause) : bytesOf (causeLayout c) = encCause c := by
  rcases c with _ | _ | (_ | _) <;> simp [causeLayout, encCause, MarkKind.code, MarkKind.cls, ConditionClass.severity]

/-! ## Records (R168, R169) -/

@[simp] theorem bytesOf_pieceLayout (p : Piece) : bytesOf (pieceLayout p) = encPiece p := by
  have h : p.saturated.toNat + 2 * p.mergedCut.toNat + 4 * p.unseenTail.toNat + 8 * p.mapMerged.toNat =
      flagByte [p.saturated, p.mergedCut, p.unseenTail, p.mapMerged] := by
    simp only [flagByte, List.foldr]; omega
  simp [pieceLayout, encPiece, h]

@[simp] theorem bytesOf_adviceLayout (a : Advice) : bytesOf (adviceLayout a) = encAdvice a := by
  simp [adviceLayout, encAdvice]

@[simp] theorem bytesOf_noticeLayout (seq : Word32) (n : Notice) :
    bytesOf (noticeLayout seq n) = encCode n.code ++ encWord seq.toNat ++ n.fields := by
  cases n <;> simp [noticeLayout, Notice.fields, Notice.code, conventionLayout, encConvention, Function.comp_def]

@[simp] theorem bytesOf_entryLayout (e : GaugeEntry) : bytesOf (entryLayout e) = encEntry e := by
  simp [entryLayout, encEntry, encGeometry, encTolerance]

@[simp] theorem bytesOf_headerLayout (h : BankHeader) : bytesOf (headerLayout h) = encHeader h := by
  simp [headerLayout, encHeader]

@[simp] theorem bytesOf_runLayout (r : Run) : bytesOf (runLayout r) = encRun r := by
  obtain ⟨start, body, cls, cause, n, m, s, t⟩ := r
  cases body with
  | running acc folds =>
    have h : 2 * m.toNat + 4 * s.toNat + 8 * t.toNat + 16 = flagByte [false, m, s, t, true] := by
      simp only [flagByte, List.foldr, Bool.toNat_true, Bool.toNat_false]; omega
    simp [runLayout, encRun, Run.stop?, Run.isOpen, h]
  | closed stop area sat =>
    have h : sat.toNat + (2 * m.toNat + 4 * s.toNat + 8 * t.toNat) = flagByte [sat, m, s, t, false] := by
      simp only [flagByte, List.foldr, Bool.toNat_false]; omega
    simp [runLayout, encRun, Run.stop?, Run.isOpen, encSignedCode, h]

@[simp] theorem bytesOf_resultLayout (r : SliceResult) : bytesOf (resultLayout r) = encResult r := by
  have e : encCauseInstance = fun c : CauseInstance =>
      encCode c.number ++ (encWord c.n ++ (encSigned c.mean ++ (encWord c.outOfBand ++ (encWord c.longestRun ++
        (encSigned c.peak ++ encSigned c.trend))))) := by funext c; simp [encCauseInstance]
  simp [resultLayout, encResult, Function.comp_def, e]

/-! ## Read bodies (R168) -/

@[simp] theorem bytesOf_headLayout (s : State) (h : Fin 16) : bytesOf (headLayout s h) = s.headBody h := by
  have e : encAnnounced = fun a : Announced =>
      encShort a.width ++ (encCode a.order.code ++ (encCode a.sign.code ++ (encCode a.scaleCode ++
        (encCode a.checkMode.code ++ encWord a.serialTag)))) := by funext a; simp [encAnnounced]
  simp [headLayout, State.headBody, Function.comp_def, e, encFlag, encTime, counterMax, HeadCounters.list, headGroup]

@[simp] theorem bytesOf_bankLayout (st : Strand) (id : BankId) : bytesOf (bankLayout st id) = st.bankHead id := by
  simp only [bankLayout, Strand.bankHead, Strand.role, bytesOf_word, bytesOf_code, bytesOf_nil, List.append_nil]
  split
  · rfl
  · cases st.pendingSwitch <;> rfl

@[simp] theorem bytesOf_bankReadLayout (st : Strand) (id : BankId) : bytesOf (bankReadLayout st id) = st.bankBody id := by
  simp only [bankReadLayout, Strand.bankBody, bytesOf_append, bytesOf_bankLayout, bytesOf_headerLayout]
  congr 1
  unfold Strand.role Strand.switchLength?
  by_cases h : id = st.active <;> cases st.pendingSwitch <;> simp [h, Function.comp_def]

@[simp] theorem bytesOf_mapLayout (st : Strand) (first : Nat) : bytesOf (mapLayout st first) = st.mapBody first := by
  have e : (fun m : Mark => bytesOf [(1, if m.kind = .stopMark then 5 else 6), (6, m.start), (6, m.stop)]) = encMark := by
    funext m
    cases h : m.kind <;> simp [encMark, h, MarkKind.code, MarkKind.cls, ConditionClass.severity]
  simp only [mapLayout, Strand.mapBody, bytesOf_append, bytesOf_word, bytesOf_position, bytesOf_nil, bytesOf_flatMap, e,
    bytesOf_runLayout, Strand.runsFrom, mapReadRuns, List.append_assoc, List.append_nil]

@[simp] theorem bytesOf_routeLayout (s : State) : bytesOf (routeLayout s) = s.routeBody := by
  simp [routeLayout, State.routeBody]

theorem partGroup_eq (s : State) : partGroup s = s.partCounters := rfl

theorem runGroup_eq (c : StrandCounters) : runGroup c = c.list := rfl

theorem strandGroup_eq (st : Strand) : strandGroup st = st.counterList := rfl

/-- A slot set is its byte. -/
theorem slotByte_slotSet (p : Fin 6 → Bool) : slotByte p = (slotSet p).toNat := by
  simp only [slotByte, slotSet, allSlots, List.foldl]
  generalize p 0 = a
  generalize p 1 = b
  generalize p 2 = c
  generalize p 3 = d
  generalize p 4 = e
  generalize p 5 = f
  revert a b c d e f
  decide

theorem slotByte_hasSlot (set : BitVec 6) : (slotByte fun t => hasSlot set t) = set.toNat := by
  revert set
  decide

@[simp] theorem bytesOf_assemblyLayout (s : State) (i : Fin 4) : bytesOf (assemblyLayout s i) = s.assemblyView i := by
  have e (l : List SliceSet) : bytesOf (l.flatMap fun x => [(4, x.slice), (1, x.ready.toNat),
      (1, slotByte fun t => hasSlot x.expected t), (1, slotByte fun t => x.scans[t].isSome)]) =
      l.flatMap SliceSet.view := by
    rw [bytesOf_flatMap]
    refine List.flatMap_congr fun x _ => ?_
    simp only [bytesOf_word, bytesOf_code, bytesOf_nil, slotByte_hasSlot, SliceSet.view, encFlag, encSlots,
      SliceSet.received, ← slotByte_slotSet, List.append_assoc, List.append_nil]
  simp only [assemblyLayout, State.assemblyView, bytesOf_append, List.cons_append, bytesOf_word, bytesOf_nil, e,
    bytesOf_optional, Option.map_map, Function.comp_def, State.buffersFree, bufferCapacity, List.append_assoc,
    List.append_nil]

@[simp] theorem bytesOf_strandRecordLayout (s : State) (i : Fin 4) :
    bytesOf (strandRecordLayout s i) = s.recordView i := by
  have e : (fun o : Option (Fin 16) => encCode ((o.map Fin.val).getD 255)) = encSlot := by
    funext o; cases o <;> rfl
  have f : ((s.strand i).origin.map fun o => s.travel.length - o).getD 0 = s.ell i := by
    unfold State.ell; cases (s.strand i).origin <;> rfl
  simp only [strandRecordLayout, State.recordView, bytesOf_append, List.cons_append, bytesOf_code, bytesOf_short, bytesOf_word,
    bytesOf_position, bytesOf_nil, bytesOf_optional, bytesOf_codes, bytesOf_words, runGroup_eq, Option.map_map, Function.comp_def, encTime, counterMax,
    encParams, List.flatMap_map, e, f, List.append_assoc, List.append_nil, List.nil_append]
  rfl

@[simp] theorem bytesOf_travelLayout (t : Travel) : bytesOf (travelLayout t) = t.view := by
  simp [travelLayout, Travel.view, Function.comp_def, encFlag, encTravelConfig]

@[simp] theorem bytesOf_pieceUnitLayout (st : Strand) : bytesOf (pieceUnitLayout st) =
    encWord st.runs.length ++ encWord st.settle ++ encWord st.marks.length ++ st.pieceView := by
  simp [pieceUnitLayout, Strand.pieceView, encFlag]

@[simp] theorem bytesOf_strandLayout (s : State) (i : Fin 4) : bytesOf (strandLayout s i) = s.strandBody i := by
  simp [strandLayout, State.strandBody, Function.comp_def, strandGroup_eq]

end Sys2Proof.Machine
end

