-- ==== Sys2Proof/Laws/Map.lean ====
section
/-! SUPPORT. What the operations of the Length Map leave as it is: for each operation, the fields of the state that it keeps,
what it keeps of the Request Handler, and the configuration of the strands and of the heads. -/

namespace Sys2Proof.Machine

variable (s : State)

@[simp] theorem State.adviseRun_frame (i : Fin 4) (r : Run) :
    (s.adviseRun i r).pending = s.pending ∧ (s.adviseRun i r).now = s.now ∧
      (s.adviseRun i r).ownStation = s.ownStation ∧ (s.adviseRun i r).routes = s.routes ∧
      (s.adviseRun i r).headPort = s.headPort ∧ (s.adviseRun i r).heads = s.heads ∧
      (s.adviseRun i r).travel = s.travel ∧ (s.adviseRun i r).scans = s.scans ∧
      (s.adviseRun i r).pressUnknown = s.pressUnknown ∧ (s.adviseRun i r).cutInvalid = s.cutInvalid ∧
      (s.adviseRun i r).handler = s.handler ∧ (s.adviseRun i r).linePort.parser = s.linePort.parser ∧
      (s.adviseRun i r).linePort.counters = s.linePort.counters ∧
      (s.adviseRun i r).linePort.adviceTurn = s.linePort.adviceTurn ∧
      (s.adviseRun i r).linePort.pieceTurn = s.linePort.pieceTurn := by
  simp only [State.adviseRun]; split <;> simp

@[simp] theorem State.adviseRun_head (i : Fin 4) (r : Run) (q : Fin 16) : (s.adviseRun i r).head q = s.head q :=
  State.head_of_heads (by simp) q

@[simp] theorem State.adviseRun_other {i : Fin 4} (r : Run) {j : Fin 4} (hj : j ≠ i) :
    (s.adviseRun i r).strand j = s.strand j := by
  simp only [State.adviseRun]; split <;> simp [hj]

@[simp] theorem State.adviseRun_setup (i : Fin 4) (r : Run) (j : Fin 4) :
    ((s.adviseRun i r).strand j).setup = (s.strand j).setup := by
  simp only [State.adviseRun]; split <;> simp

@[simp] theorem State.closeOpenRun_frame (i : Fin 4) (stop : Nat) :
    (s.closeOpenRun i stop).pending = s.pending ∧ (s.closeOpenRun i stop).now = s.now ∧
      (s.closeOpenRun i stop).ownStation = s.ownStation ∧ (s.closeOpenRun i stop).routes = s.routes ∧
      (s.closeOpenRun i stop).headPort = s.headPort ∧ (s.closeOpenRun i stop).heads = s.heads ∧
      (s.closeOpenRun i stop).travel = s.travel ∧ (s.closeOpenRun i stop).scans = s.scans ∧
      (s.closeOpenRun i stop).pressUnknown = s.pressUnknown ∧ (s.closeOpenRun i stop).cutInvalid = s.cutInvalid ∧
      (s.closeOpenRun i stop).handler = s.handler ∧ (s.closeOpenRun i stop).linePort.parser = s.linePort.parser ∧
      (s.closeOpenRun i stop).linePort.counters = s.linePort.counters ∧
      (s.closeOpenRun i stop).linePort.adviceTurn = s.linePort.adviceTurn ∧
      (s.closeOpenRun i stop).linePort.pieceTurn = s.linePort.pieceTurn := by
  simp only [State.closeOpenRun]; split <;> simp

@[simp] theorem State.closeOpenRun_head (i : Fin 4) (stop : Nat) (q : Fin 16) :
    (s.closeOpenRun i stop).head q = s.head q :=
  State.head_of_heads (by simp) q

@[simp] theorem State.closeOpenRun_other {i : Fin 4} (stop : Nat) {j : Fin 4} (hj : j ≠ i) :
    (s.closeOpenRun i stop).strand j = s.strand j := by
  simp only [State.closeOpenRun]; split <;> simp [hj]

@[simp] theorem State.closeOpenRun_setup (i : Fin 4) (stop : Nat) (j : Fin 4) :
    ((s.closeOpenRun i stop).strand j).setup = (s.strand j).setup := by
  simp only [State.closeOpenRun]; split <;> simp

@[simp] theorem State.turnRun_frame (i : Fin 4) (e : Entry) :
    (s.turnRun i e).pending = s.pending ∧ (s.turnRun i e).now = s.now ∧ (s.turnRun i e).ownStation = s.ownStation ∧
      (s.turnRun i e).routes = s.routes ∧ (s.turnRun i e).headPort = s.headPort ∧ (s.turnRun i e).heads = s.heads ∧
      (s.turnRun i e).travel = s.travel ∧ (s.turnRun i e).scans = s.scans ∧
      (s.turnRun i e).pressUnknown = s.pressUnknown ∧ (s.turnRun i e).cutInvalid = s.cutInvalid ∧
      (s.turnRun i e).handler = s.handler ∧ (s.turnRun i e).linePort.parser = s.linePort.parser ∧
      (s.turnRun i e).linePort.counters = s.linePort.counters ∧
      (s.turnRun i e).linePort.adviceTurn = s.linePort.adviceTurn ∧
      (s.turnRun i e).linePort.pieceTurn = s.linePort.pieceTurn := by
  simp [State.turnRun]

@[simp] theorem State.turnRun_head (i : Fin 4) (e : Entry) (q : Fin 16) : (s.turnRun i e).head q = s.head q :=
  State.head_of_heads (by simp) q

@[simp] theorem State.turnRun_other {i : Fin 4} (e : Entry) {j : Fin 4} (hj : j ≠ i) :
    (s.turnRun i e).strand j = s.strand j := by
  simp [State.turnRun, hj]

@[simp] theorem State.turnRun_setup (i : Fin 4) (e : Entry) (j : Fin 4) :
    ((s.turnRun i e).strand j).setup = (s.strand j).setup := by
  simp [State.turnRun]

@[simp] theorem State.mergeSlice_frame (i : Fin 4) (r : Run) (e : Entry) :
    (s.mergeSlice i r e).pending = s.pending ∧ (s.mergeSlice i r e).now = s.now ∧
      (s.mergeSlice i r e).ownStation = s.ownStation ∧ (s.mergeSlice i r e).routes = s.routes ∧
      (s.mergeSlice i r e).headPort = s.headPort ∧ (s.mergeSlice i r e).heads = s.heads ∧
      (s.mergeSlice i r e).travel = s.travel ∧ (s.mergeSlice i r e).scans = s.scans ∧
      (s.mergeSlice i r e).pressUnknown = s.pressUnknown ∧ (s.mergeSlice i r e).cutInvalid = s.cutInvalid ∧
      (s.mergeSlice i r e).handler.requests = s.handler.requests ∧
      (s.mergeSlice i r e).handler.waiting = s.handler.waiting ∧
      (s.mergeSlice i r e).handler.restart = s.handler.restart ∧
      (s.mergeSlice i r e).handler.noticeTarget = s.handler.noticeTarget ∧
      (s.mergeSlice i r e).handler.counters.requestsDone = s.handler.counters.requestsDone ∧
      (s.mergeSlice i r e).handler.counters.requestsRefused = s.handler.counters.requestsRefused ∧
      (s.mergeSlice i r e).handler.counters.requestsBusy = s.handler.counters.requestsBusy ∧
      (s.mergeSlice i r e).handler.counters.busyUnsent = s.handler.counters.busyUnsent ∧
      (s.mergeSlice i r e).linePort.parser = s.linePort.parser ∧
      (s.mergeSlice i r e).linePort.counters = s.linePort.counters ∧
      (s.mergeSlice i r e).linePort.adviceTurn = s.linePort.adviceTurn ∧
      (s.mergeSlice i r e).linePort.pieceTurn = s.linePort.pieceTurn := by
  simp only [State.mergeSlice]; split <;> simp

@[simp] theorem State.mergeSlice_head (i : Fin 4) (r : Run) (e : Entry) (q : Fin 16) :
    (s.mergeSlice i r e).head q = s.head q :=
  State.head_of_heads (by simp) q

@[simp] theorem State.mergeSlice_other {i : Fin 4} (r : Run) (e : Entry) {j : Fin 4} (hj : j ≠ i) :
    (s.mergeSlice i r e).strand j = s.strand j := by
  simp only [State.mergeSlice]; split <;> simp [hj]

@[simp] theorem State.mergeSlice_setup (i : Fin 4) (r : Run) (e : Entry) (j : Fin 4) :
    ((s.mergeSlice i r e).strand j).setup = (s.strand j).setup := by
  simp only [State.mergeSlice]; split <;> simp

@[simp] theorem State.turnOrMerge_frame (i : Fin 4) (r : Run) (e : Entry) :
    (s.turnOrMerge i r e).pending = s.pending ∧ (s.turnOrMerge i r e).now = s.now ∧
      (s.turnOrMerge i r e).ownStation = s.ownStation ∧ (s.turnOrMerge i r e).routes = s.routes ∧
      (s.turnOrMerge i r e).headPort = s.headPort ∧ (s.turnOrMerge i r e).heads = s.heads ∧
      (s.turnOrMerge i r e).travel = s.travel ∧ (s.turnOrMerge i r e).scans = s.scans ∧
      (s.turnOrMerge i r e).pressUnknown = s.pressUnknown ∧ (s.turnOrMerge i r e).cutInvalid = s.cutInvalid ∧
      (s.turnOrMerge i r e).handler.requests = s.handler.requests ∧
      (s.turnOrMerge i r e).handler.waiting = s.handler.waiting ∧
      (s.turnOrMerge i r e).handler.restart = s.handler.restart ∧
      (s.turnOrMerge i r e).handler.noticeTarget = s.handler.noticeTarget ∧
      (s.turnOrMerge i r e).handler.counters.requestsDone = s.handler.counters.requestsDone ∧
      (s.turnOrMerge i r e).handler.counters.requestsRefused = s.handler.counters.requestsRefused ∧
      (s.turnOrMerge i r e).handler.counters.requestsBusy = s.handler.counters.requestsBusy ∧
      (s.turnOrMerge i r e).handler.counters.busyUnsent = s.handler.counters.busyUnsent ∧
      (s.turnOrMerge i r e).linePort.parser = s.linePort.parser ∧
      (s.turnOrMerge i r e).linePort.counters = s.linePort.counters ∧
      (s.turnOrMerge i r e).linePort.adviceTurn = s.linePort.adviceTurn ∧
      (s.turnOrMerge i r e).linePort.pieceTurn = s.linePort.pieceTurn := by
  simp only [State.turnOrMerge]; split <;> simp

@[simp] theorem State.turnOrMerge_head (i : Fin 4) (r : Run) (e : Entry) (q : Fin 16) :
    (s.turnOrMerge i r e).head q = s.head q :=
  State.head_of_heads (by simp) q

@[simp] theorem State.turnOrMerge_other {i : Fin 4} (r : Run) (e : Entry) {j : Fin 4} (hj : j ≠ i) :
    (s.turnOrMerge i r e).strand j = s.strand j := by
  simp only [State.turnOrMerge]; split <;> simp [hj]

@[simp] theorem State.turnOrMerge_setup (i : Fin 4) (r : Run) (e : Entry) (j : Fin 4) :
    ((s.turnOrMerge i r e).strand j).setup = (s.strand j).setup := by
  simp only [State.turnOrMerge]; split <;> simp

@[simp] theorem State.enterSlice_frame (i : Fin 4) (e : Entry) :
    (s.enterSlice i e).pending = s.pending ∧ (s.enterSlice i e).now = s.now ∧
      (s.enterSlice i e).ownStation = s.ownStation ∧ (s.enterSlice i e).routes = s.routes ∧
      (s.enterSlice i e).headPort = s.headPort ∧ (s.enterSlice i e).heads = s.heads ∧
      (s.enterSlice i e).travel = s.travel ∧ (s.enterSlice i e).scans = s.scans ∧
      (s.enterSlice i e).pressUnknown = s.pressUnknown ∧ (s.enterSlice i e).cutInvalid = s.cutInvalid ∧
      (s.enterSlice i e).handler.requests = s.handler.requests ∧
      (s.enterSlice i e).handler.waiting = s.handler.waiting ∧
      (s.enterSlice i e).handler.restart = s.handler.restart ∧
      (s.enterSlice i e).handler.noticeTarget = s.handler.noticeTarget ∧
      (s.enterSlice i e).handler.counters.requestsDone = s.handler.counters.requestsDone ∧
      (s.enterSlice i e).handler.counters.requestsRefused = s.handler.counters.requestsRefused ∧
      (s.enterSlice i e).handler.counters.requestsBusy = s.handler.counters.requestsBusy ∧
      (s.enterSlice i e).handler.counters.busyUnsent = s.handler.counters.busyUnsent ∧
      (s.enterSlice i e).linePort.parser = s.linePort.parser ∧
      (s.enterSlice i e).linePort.counters = s.linePort.counters ∧
      (s.enterSlice i e).linePort.adviceTurn = s.linePort.adviceTurn ∧
      (s.enterSlice i e).linePort.pieceTurn = s.linePort.pieceTurn := by
  simp only [State.enterSlice]; (repeat' split) <;> simp

@[simp] theorem State.enterSlice_head (i : Fin 4) (e : Entry) (q : Fin 16) : (s.enterSlice i e).head q = s.head q :=
  State.head_of_heads (by simp) q

@[simp] theorem State.enterSlice_other {i : Fin 4} (e : Entry) {j : Fin 4} (hj : j ≠ i) :
    (s.enterSlice i e).strand j = s.strand j := by
  simp only [State.enterSlice]; (repeat' split) <;> simp [hj]

@[simp] theorem State.enterSlice_setup (i : Fin 4) (e : Entry) (j : Fin 4) :
    ((s.enterSlice i e).strand j).setup = (s.strand j).setup := by
  simp only [State.enterSlice]; (repeat' split) <;> simp

@[simp] theorem State.enterSkipped_frame (i : Fin 4) (k n : Nat) :
    (s.enterSkipped i k n).pending = s.pending ∧ (s.enterSkipped i k n).now = s.now ∧
      (s.enterSkipped i k n).ownStation = s.ownStation ∧ (s.enterSkipped i k n).routes = s.routes ∧
      (s.enterSkipped i k n).headPort = s.headPort ∧ (s.enterSkipped i k n).heads = s.heads ∧
      (s.enterSkipped i k n).travel = s.travel ∧ (s.enterSkipped i k n).scans = s.scans ∧
      (s.enterSkipped i k n).pressUnknown = s.pressUnknown ∧ (s.enterSkipped i k n).cutInvalid = s.cutInvalid ∧
      (s.enterSkipped i k n).handler.requests = s.handler.requests ∧
      (s.enterSkipped i k n).handler.waiting = s.handler.waiting ∧
      (s.enterSkipped i k n).handler.restart = s.handler.restart ∧
      (s.enterSkipped i k n).handler.noticeTarget = s.handler.noticeTarget ∧
      (s.enterSkipped i k n).handler.counters.requestsDone = s.handler.counters.requestsDone ∧
      (s.enterSkipped i k n).handler.counters.requestsRefused = s.handler.counters.requestsRefused ∧
      (s.enterSkipped i k n).handler.counters.requestsBusy = s.handler.counters.requestsBusy ∧
      (s.enterSkipped i k n).handler.counters.busyUnsent = s.handler.counters.busyUnsent ∧
      (s.enterSkipped i k n).linePort.parser = s.linePort.parser ∧
      (s.enterSkipped i k n).linePort.counters = s.linePort.counters ∧
      (s.enterSkipped i k n).linePort.adviceTurn = s.linePort.adviceTurn ∧
      (s.enterSkipped i k n).linePort.pieceTurn = s.linePort.pieceTurn := by
  induction n generalizing s k with
  | zero => simp [State.enterSkipped]
  | succ n ih => simp [State.enterSkipped, ih]

@[simp] theorem State.enterSkipped_head (i : Fin 4) (k n : Nat) (q : Fin 16) :
    (s.enterSkipped i k n).head q = s.head q :=
  State.head_of_heads (by simp) q

@[simp] theorem State.enterSkipped_other {i : Fin 4} (k n : Nat) {j : Fin 4} (hj : j ≠ i) :
    (s.enterSkipped i k n).strand j = s.strand j := by
  induction n generalizing s k with
  | zero => simp [State.enterSkipped]
  | succ n ih => simp [State.enterSkipped, ih, hj]

@[simp] theorem State.enterSkipped_setup (i : Fin 4) (k n : Nat) (j : Fin 4) :
    ((s.enterSkipped i k n).strand j).setup = (s.strand j).setup := by
  induction n generalizing s k with
  | zero => simp [State.enterSkipped]
  | succ n ih => simp [State.enterSkipped, ih]

/-- What a run of advice keeps. -/
theorem foldl_adviseRun_frame (i : Fin 4) (l : List Run) :
    (l.foldl (fun t r => t.adviseRun i r) s).pending = s.pending ∧
      (l.foldl (fun t r => t.adviseRun i r) s).now = s.now ∧
      (l.foldl (fun t r => t.adviseRun i r) s).ownStation = s.ownStation ∧
      (l.foldl (fun t r => t.adviseRun i r) s).routes = s.routes ∧
      (l.foldl (fun t r => t.adviseRun i r) s).headPort = s.headPort ∧
      (l.foldl (fun t r => t.adviseRun i r) s).heads = s.heads ∧
      (l.foldl (fun t r => t.adviseRun i r) s).travel = s.travel ∧
      (l.foldl (fun t r => t.adviseRun i r) s).scans = s.scans ∧
      (l.foldl (fun t r => t.adviseRun i r) s).pressUnknown = s.pressUnknown ∧
      (l.foldl (fun t r => t.adviseRun i r) s).cutInvalid = s.cutInvalid ∧
      (l.foldl (fun t r => t.adviseRun i r) s).handler = s.handler ∧
      (l.foldl (fun t r => t.adviseRun i r) s).linePort.parser = s.linePort.parser ∧
      (l.foldl (fun t r => t.adviseRun i r) s).linePort.counters = s.linePort.counters ∧
      (l.foldl (fun t r => t.adviseRun i r) s).linePort.adviceTurn = s.linePort.adviceTurn ∧
      (l.foldl (fun t r => t.adviseRun i r) s).linePort.pieceTurn = s.linePort.pieceTurn := by
  induction l generalizing s with
  | nil => simp
  | cons r l ih => simp [ih]

/-- What a run of advice keeps of the other strands. -/
theorem foldl_adviseRun_other {i j : Fin 4} (l : List Run) (hj : j ≠ i) :
    (l.foldl (fun t r => t.adviseRun i r) s).strand j = s.strand j := by
  induction l generalizing s with
  | nil => simp
  | cons r l ih => simp [ih, hj]

/-- What a run of advice keeps of the strands' configuration. -/
theorem foldl_adviseRun_setup (i : Fin 4) (l : List Run) (j : Fin 4) :
    ((l.foldl (fun t r => t.adviseRun i r) s).strand j).setup = (s.strand j).setup := by
  induction l generalizing s with
  | nil => simp
  | cons r l ih => simp [ih]

@[simp] theorem State.splitRuns_frame (i : Fin 4) (m : Mark) (region : Nat × Nat) :
    (s.splitRuns i m region).pending = s.pending ∧ (s.splitRuns i m region).now = s.now ∧
      (s.splitRuns i m region).ownStation = s.ownStation ∧ (s.splitRuns i m region).routes = s.routes ∧
      (s.splitRuns i m region).headPort = s.headPort ∧ (s.splitRuns i m region).heads = s.heads ∧
      (s.splitRuns i m region).travel = s.travel ∧ (s.splitRuns i m region).scans = s.scans ∧
      (s.splitRuns i m region).pressUnknown = s.pressUnknown ∧ (s.splitRuns i m region).cutInvalid = s.cutInvalid ∧
      (s.splitRuns i m region).handler = s.handler ∧ (s.splitRuns i m region).linePort.parser = s.linePort.parser ∧
      (s.splitRuns i m region).linePort.counters = s.linePort.counters ∧
      (s.splitRuns i m region).linePort.adviceTurn = s.linePort.adviceTurn ∧
      (s.splitRuns i m region).linePort.pieceTurn = s.linePort.pieceTurn := by
  simp only [State.splitRuns]; simp [foldl_adviseRun_frame]

@[simp] theorem State.splitRuns_head (i : Fin 4) (m : Mark) (region : Nat × Nat) (q : Fin 16) :
    (s.splitRuns i m region).head q = s.head q :=
  State.head_of_heads (by simp) q

@[simp] theorem State.splitRuns_other {i : Fin 4} (m : Mark) (region : Nat × Nat) {j : Fin 4} (hj : j ≠ i) :
    (s.splitRuns i m region).strand j = s.strand j := by
  simp only [State.splitRuns]; simp [foldl_adviseRun_other, hj]

@[simp] theorem State.splitRuns_setup (i : Fin 4) (m : Mark) (region : Nat × Nat) (j : Fin 4) :
    ((s.splitRuns i m region).strand j).setup = (s.strand j).setup := by
  simp only [State.splitRuns]; simp [foldl_adviseRun_setup]

@[simp] theorem State.raiseRuns_frame (i : Fin 4) (m : Mark) (region : Nat × Nat) :
    (s.raiseRuns i m region).pending = s.pending ∧ (s.raiseRuns i m region).now = s.now ∧
      (s.raiseRuns i m region).ownStation = s.ownStation ∧ (s.raiseRuns i m region).routes = s.routes ∧
      (s.raiseRuns i m region).headPort = s.headPort ∧ (s.raiseRuns i m region).heads = s.heads ∧
      (s.raiseRuns i m region).travel = s.travel ∧ (s.raiseRuns i m region).scans = s.scans ∧
      (s.raiseRuns i m region).pressUnknown = s.pressUnknown ∧ (s.raiseRuns i m region).cutInvalid = s.cutInvalid ∧
      (s.raiseRuns i m region).handler.requests = s.handler.requests ∧
      (s.raiseRuns i m region).handler.waiting = s.handler.waiting ∧
      (s.raiseRuns i m region).handler.restart = s.handler.restart ∧
      (s.raiseRuns i m region).handler.noticeTarget = s.handler.noticeTarget ∧
      (s.raiseRuns i m region).handler.counters.requestsDone = s.handler.counters.requestsDone ∧
      (s.raiseRuns i m region).handler.counters.requestsRefused = s.handler.counters.requestsRefused ∧
      (s.raiseRuns i m region).handler.counters.requestsBusy = s.handler.counters.requestsBusy ∧
      (s.raiseRuns i m region).handler.counters.busyUnsent = s.handler.counters.busyUnsent ∧
      (s.raiseRuns i m region).linePort.parser = s.linePort.parser ∧
      (s.raiseRuns i m region).linePort.counters = s.linePort.counters ∧
      (s.raiseRuns i m region).linePort.adviceTurn = s.linePort.adviceTurn ∧
      (s.raiseRuns i m region).linePort.pieceTurn = s.linePort.pieceTurn := by
  simp only [State.raiseRuns]; split <;> simp

@[simp] theorem State.raiseRuns_head (i : Fin 4) (m : Mark) (region : Nat × Nat) (q : Fin 16) :
    (s.raiseRuns i m region).head q = s.head q :=
  State.head_of_heads (by simp) q

@[simp] theorem State.raiseRuns_other {i : Fin 4} (m : Mark) (region : Nat × Nat) {j : Fin 4} (hj : j ≠ i) :
    (s.raiseRuns i m region).strand j = s.strand j := by
  simp only [State.raiseRuns]; split <;> simp [hj]

@[simp] theorem State.raiseRuns_setup (i : Fin 4) (m : Mark) (region : Nat × Nat) (j : Fin 4) :
    ((s.raiseRuns i m region).strand j).setup = (s.strand j).setup := by
  simp only [State.raiseRuns]; split <;> simp

@[simp] theorem State.applyBack_frame (i : Fin 4) (m : Mark) :
    (s.applyBack i m).pending = s.pending ∧ (s.applyBack i m).now = s.now ∧
      (s.applyBack i m).ownStation = s.ownStation ∧ (s.applyBack i m).routes = s.routes ∧
      (s.applyBack i m).headPort = s.headPort ∧ (s.applyBack i m).heads = s.heads ∧
      (s.applyBack i m).travel = s.travel ∧ (s.applyBack i m).scans = s.scans ∧
      (s.applyBack i m).pressUnknown = s.pressUnknown ∧ (s.applyBack i m).cutInvalid = s.cutInvalid ∧
      (s.applyBack i m).handler.requests = s.handler.requests ∧
      (s.applyBack i m).handler.waiting = s.handler.waiting ∧ (s.applyBack i m).handler.restart = s.handler.restart ∧
      (s.applyBack i m).handler.noticeTarget = s.handler.noticeTarget ∧
      (s.applyBack i m).handler.counters.requestsDone = s.handler.counters.requestsDone ∧
      (s.applyBack i m).handler.counters.requestsRefused = s.handler.counters.requestsRefused ∧
      (s.applyBack i m).handler.counters.requestsBusy = s.handler.counters.requestsBusy ∧
      (s.applyBack i m).handler.counters.busyUnsent = s.handler.counters.busyUnsent ∧
      (s.applyBack i m).linePort.parser = s.linePort.parser ∧
      (s.applyBack i m).linePort.counters = s.linePort.counters ∧
      (s.applyBack i m).linePort.adviceTurn = s.linePort.adviceTurn ∧
      (s.applyBack i m).linePort.pieceTurn = s.linePort.pieceTurn := by
  simp only [State.applyBack]; (repeat' split) <;> simp

@[simp] theorem State.applyBack_head (i : Fin 4) (m : Mark) (q : Fin 16) : (s.applyBack i m).head q = s.head q :=
  State.head_of_heads (by simp) q

@[simp] theorem State.applyBack_other {i : Fin 4} (m : Mark) {j : Fin 4} (hj : j ≠ i) :
    (s.applyBack i m).strand j = s.strand j := by
  simp only [State.applyBack]; (repeat' split) <;> simp [hj]

@[simp] theorem State.applyBack_setup (i : Fin 4) (m : Mark) (j : Fin 4) :
    ((s.applyBack i m).strand j).setup = (s.strand j).setup := by
  simp only [State.applyBack]; (repeat' split) <;> simp

@[simp] theorem State.giveMark_frame (i : Fin 4) (m : Mark) :
    (s.giveMark i m).pending = s.pending ∧ (s.giveMark i m).now = s.now ∧
      (s.giveMark i m).ownStation = s.ownStation ∧ (s.giveMark i m).routes = s.routes ∧
      (s.giveMark i m).headPort = s.headPort ∧ (s.giveMark i m).heads = s.heads ∧ (s.giveMark i m).travel = s.travel ∧
      (s.giveMark i m).scans = s.scans ∧ (s.giveMark i m).pressUnknown = s.pressUnknown ∧
      (s.giveMark i m).cutInvalid = s.cutInvalid ∧ (s.giveMark i m).handler.requests = s.handler.requests ∧
      (s.giveMark i m).handler.waiting = s.handler.waiting ∧ (s.giveMark i m).handler.restart = s.handler.restart ∧
      (s.giveMark i m).handler.noticeTarget = s.handler.noticeTarget ∧
      (s.giveMark i m).handler.counters.requestsDone = s.handler.counters.requestsDone ∧
      (s.giveMark i m).handler.counters.requestsRefused = s.handler.counters.requestsRefused ∧
      (s.giveMark i m).handler.counters.requestsBusy = s.handler.counters.requestsBusy ∧
      (s.giveMark i m).handler.counters.busyUnsent = s.handler.counters.busyUnsent ∧
      (s.giveMark i m).linePort.parser = s.linePort.parser ∧
      (s.giveMark i m).linePort.counters = s.linePort.counters ∧
      (s.giveMark i m).linePort.adviceTurn = s.linePort.adviceTurn ∧
      (s.giveMark i m).linePort.pieceTurn = s.linePort.pieceTurn := by
  simp only [State.giveMark]; (repeat' split) <;> simp

@[simp] theorem State.giveMark_head (i : Fin 4) (m : Mark) (q : Fin 16) : (s.giveMark i m).head q = s.head q :=
  State.head_of_heads (by simp) q

@[simp] theorem State.giveMark_other {i : Fin 4} (m : Mark) {j : Fin 4} (hj : j ≠ i) :
    (s.giveMark i m).strand j = s.strand j := by
  simp only [State.giveMark]; (repeat' split) <;> simp [hj]

@[simp] theorem State.giveMark_setup (i : Fin 4) (m : Mark) (j : Fin 4) :
    ((s.giveMark i m).strand j).setup = (s.strand j).setup := by
  simp only [State.giveMark]; (repeat' split) <;> simp

end Sys2Proof.Machine
end

