-- ==== Sys2Proof/Laws/Pieces.lean ====
section
/-! SUPPORT. What the operations of the Piece Unit and the end of a run leave as it is: for each operation, the fields of the
state that it keeps, what it keeps of the Request Handler, and the configuration of the strands and of the heads. -/

namespace Sys2Proof.Machine

variable (s : State)

@[simp] theorem State.offerPiece_frame (i : Fin 4) :
    (s.offerPiece i).pending = s.pending ∧ (s.offerPiece i).now = s.now ∧
      (s.offerPiece i).ownStation = s.ownStation ∧ (s.offerPiece i).routes = s.routes ∧
      (s.offerPiece i).headPort = s.headPort ∧ (s.offerPiece i).heads = s.heads ∧ (s.offerPiece i).travel = s.travel ∧
      (s.offerPiece i).scans = s.scans ∧ (s.offerPiece i).pressUnknown = s.pressUnknown ∧
      (s.offerPiece i).cutInvalid = s.cutInvalid ∧ (s.offerPiece i).handler = s.handler ∧
      (s.offerPiece i).linePort.parser = s.linePort.parser ∧
      (s.offerPiece i).linePort.counters = s.linePort.counters ∧
      (s.offerPiece i).linePort.adviceTurn = s.linePort.adviceTurn ∧
      (s.offerPiece i).linePort.pieceTurn = s.linePort.pieceTurn := by
  simp only [State.offerPiece]; (repeat' split) <;> simp

@[simp] theorem State.offerPiece_head (i : Fin 4) (q : Fin 16) : (s.offerPiece i).head q = s.head q :=
  State.head_of_heads (by simp) q

@[simp] theorem State.offerPiece_other {i : Fin 4} {j : Fin 4} (hj : j ≠ i) :
    (s.offerPiece i).strand j = s.strand j := by
  simp only [State.offerPiece]; (repeat' split) <;> simp [hj]

@[simp] theorem State.offerPiece_setup (i : Fin 4) (j : Fin 4) :
    ((s.offerPiece i).strand j).setup = (s.strand j).setup := by
  simp only [State.offerPiece]; (repeat' split) <;> simp

@[simp] theorem State.mergeTail_frame (i : Fin 4) (x : Nat) (r : Run) (runs : List Run) :
    (s.mergeTail i x r runs).pending = s.pending ∧ (s.mergeTail i x r runs).now = s.now ∧
      (s.mergeTail i x r runs).ownStation = s.ownStation ∧ (s.mergeTail i x r runs).routes = s.routes ∧
      (s.mergeTail i x r runs).headPort = s.headPort ∧ (s.mergeTail i x r runs).heads = s.heads ∧
      (s.mergeTail i x r runs).travel = s.travel ∧ (s.mergeTail i x r runs).scans = s.scans ∧
      (s.mergeTail i x r runs).pressUnknown = s.pressUnknown ∧ (s.mergeTail i x r runs).cutInvalid = s.cutInvalid ∧
      (s.mergeTail i x r runs).handler.requests = s.handler.requests ∧
      (s.mergeTail i x r runs).handler.waiting = s.handler.waiting ∧
      (s.mergeTail i x r runs).handler.restart = s.handler.restart ∧
      (s.mergeTail i x r runs).handler.noticeTarget = s.handler.noticeTarget ∧
      (s.mergeTail i x r runs).handler.counters.requestsDone = s.handler.counters.requestsDone ∧
      (s.mergeTail i x r runs).handler.counters.requestsRefused = s.handler.counters.requestsRefused ∧
      (s.mergeTail i x r runs).handler.counters.requestsBusy = s.handler.counters.requestsBusy ∧
      (s.mergeTail i x r runs).handler.counters.busyUnsent = s.handler.counters.busyUnsent ∧
      (s.mergeTail i x r runs).linePort.parser = s.linePort.parser ∧
      (s.mergeTail i x r runs).linePort.counters = s.linePort.counters ∧
      (s.mergeTail i x r runs).linePort.adviceTurn = s.linePort.adviceTurn ∧
      (s.mergeTail i x r runs).linePort.pieceTurn = s.linePort.pieceTurn := by
  simp [State.mergeTail]

@[simp] theorem State.mergeTail_head (i : Fin 4) (x : Nat) (r : Run) (runs : List Run) (q : Fin 16) :
    (s.mergeTail i x r runs).head q = s.head q :=
  State.head_of_heads (by simp) q

@[simp] theorem State.mergeTail_other {i : Fin 4} (x : Nat) (r : Run) (runs : List Run) {j : Fin 4} (hj : j ≠ i) :
    (s.mergeTail i x r runs).strand j = s.strand j := by
  simp [State.mergeTail, hj]

@[simp] theorem State.mergeTail_setup (i : Fin 4) (x : Nat) (r : Run) (runs : List Run) (j : Fin 4) :
    ((s.mergeTail i x r runs).strand j).setup = (s.strand j).setup := by
  simp [State.mergeTail]

@[simp] theorem State.addTail_frame (i : Fin 4) (x : Nat) :
    (s.addTail i x).pending = s.pending ∧ (s.addTail i x).now = s.now ∧ (s.addTail i x).ownStation = s.ownStation ∧
      (s.addTail i x).routes = s.routes ∧ (s.addTail i x).headPort = s.headPort ∧ (s.addTail i x).heads = s.heads ∧
      (s.addTail i x).travel = s.travel ∧ (s.addTail i x).scans = s.scans ∧
      (s.addTail i x).pressUnknown = s.pressUnknown ∧ (s.addTail i x).cutInvalid = s.cutInvalid ∧
      (s.addTail i x).handler.requests = s.handler.requests ∧ (s.addTail i x).handler.waiting = s.handler.waiting ∧
      (s.addTail i x).handler.restart = s.handler.restart ∧
      (s.addTail i x).handler.noticeTarget = s.handler.noticeTarget ∧
      (s.addTail i x).handler.counters.requestsDone = s.handler.counters.requestsDone ∧
      (s.addTail i x).handler.counters.requestsRefused = s.handler.counters.requestsRefused ∧
      (s.addTail i x).handler.counters.requestsBusy = s.handler.counters.requestsBusy ∧
      (s.addTail i x).handler.counters.busyUnsent = s.handler.counters.busyUnsent ∧
      (s.addTail i x).linePort.parser = s.linePort.parser ∧ (s.addTail i x).linePort.counters = s.linePort.counters ∧
      (s.addTail i x).linePort.adviceTurn = s.linePort.adviceTurn ∧
      (s.addTail i x).linePort.pieceTurn = s.linePort.pieceTurn := by
  simp only [State.addTail]; (repeat' split) <;> simp

@[simp] theorem State.addTail_head (i : Fin 4) (x : Nat) (q : Fin 16) : (s.addTail i x).head q = s.head q :=
  State.head_of_heads (by simp) q

@[simp] theorem State.addTail_other {i : Fin 4} (x : Nat) {j : Fin 4} (hj : j ≠ i) :
    (s.addTail i x).strand j = s.strand j := by
  simp only [State.addTail]; (repeat' split) <;> simp [hj]

@[simp] theorem State.addTail_setup (i : Fin 4) (x : Nat) (j : Fin 4) :
    ((s.addTail i x).strand j).setup = (s.strand j).setup := by
  simp only [State.addTail]; (repeat' split) <;> simp

@[simp] theorem State.closeCut_frame (i : Fin 4) (cut : Cut) :
    (s.closeCut i cut).pending = s.pending ∧ (s.closeCut i cut).now = s.now ∧
      (s.closeCut i cut).ownStation = s.ownStation ∧ (s.closeCut i cut).routes = s.routes ∧
      (s.closeCut i cut).headPort = s.headPort ∧ (s.closeCut i cut).heads = s.heads ∧
      (s.closeCut i cut).travel = s.travel ∧ (s.closeCut i cut).scans = s.scans ∧
      (s.closeCut i cut).pressUnknown = s.pressUnknown ∧ (s.closeCut i cut).cutInvalid = s.cutInvalid ∧
      (s.closeCut i cut).handler.requests = s.handler.requests ∧
      (s.closeCut i cut).handler.waiting = s.handler.waiting ∧
      (s.closeCut i cut).handler.restart = s.handler.restart ∧
      (s.closeCut i cut).handler.noticeTarget = s.handler.noticeTarget ∧
      (s.closeCut i cut).handler.counters.requestsDone = s.handler.counters.requestsDone ∧
      (s.closeCut i cut).handler.counters.requestsRefused = s.handler.counters.requestsRefused ∧
      (s.closeCut i cut).handler.counters.requestsBusy = s.handler.counters.requestsBusy ∧
      (s.closeCut i cut).handler.counters.busyUnsent = s.handler.counters.busyUnsent ∧
      (s.closeCut i cut).linePort.parser = s.linePort.parser ∧
      (s.closeCut i cut).linePort.counters = s.linePort.counters ∧
      (s.closeCut i cut).linePort.adviceTurn = s.linePort.adviceTurn ∧
      (s.closeCut i cut).linePort.pieceTurn = s.linePort.pieceTurn := by
  simp only [State.closeCut]; split <;> simp

@[simp] theorem State.closeCut_head (i : Fin 4) (cut : Cut) (q : Fin 16) : (s.closeCut i cut).head q = s.head q :=
  State.head_of_heads (by simp) q

@[simp] theorem State.closeCut_other {i : Fin 4} (cut : Cut) {j : Fin 4} (hj : j ≠ i) :
    (s.closeCut i cut).strand j = s.strand j := by
  simp only [State.closeCut]; split <;> simp [hj]

@[simp] theorem State.closeCut_setup (i : Fin 4) (cut : Cut) (j : Fin 4) :
    ((s.closeCut i cut).strand j).setup = (s.strand j).setup := by
  simp only [State.closeCut]; split <;> simp

@[simp] theorem State.closeCuts_frame (i : Fin 4) (n : Nat) :
    (s.closeCuts i n).pending = s.pending ∧ (s.closeCuts i n).now = s.now ∧
      (s.closeCuts i n).ownStation = s.ownStation ∧ (s.closeCuts i n).routes = s.routes ∧
      (s.closeCuts i n).headPort = s.headPort ∧ (s.closeCuts i n).heads = s.heads ∧
      (s.closeCuts i n).travel = s.travel ∧ (s.closeCuts i n).scans = s.scans ∧
      (s.closeCuts i n).pressUnknown = s.pressUnknown ∧ (s.closeCuts i n).cutInvalid = s.cutInvalid ∧
      (s.closeCuts i n).handler.requests = s.handler.requests ∧
      (s.closeCuts i n).handler.waiting = s.handler.waiting ∧ (s.closeCuts i n).handler.restart = s.handler.restart ∧
      (s.closeCuts i n).handler.noticeTarget = s.handler.noticeTarget ∧
      (s.closeCuts i n).handler.counters.requestsDone = s.handler.counters.requestsDone ∧
      (s.closeCuts i n).handler.counters.requestsRefused = s.handler.counters.requestsRefused ∧
      (s.closeCuts i n).handler.counters.requestsBusy = s.handler.counters.requestsBusy ∧
      (s.closeCuts i n).handler.counters.busyUnsent = s.handler.counters.busyUnsent ∧
      (s.closeCuts i n).linePort.parser = s.linePort.parser ∧
      (s.closeCuts i n).linePort.counters = s.linePort.counters ∧
      (s.closeCuts i n).linePort.adviceTurn = s.linePort.adviceTurn ∧
      (s.closeCuts i n).linePort.pieceTurn = s.linePort.pieceTurn := by
  induction n generalizing s with
  | zero => simp [State.closeCuts]
  | succ n ih => simp only [State.closeCuts]; (repeat' split) <;> simp [ih]

@[simp] theorem State.closeCuts_head (i : Fin 4) (n : Nat) (q : Fin 16) : (s.closeCuts i n).head q = s.head q :=
  State.head_of_heads (by simp) q

@[simp] theorem State.closeCuts_other {i : Fin 4} (n : Nat) {j : Fin 4} (hj : j ≠ i) :
    (s.closeCuts i n).strand j = s.strand j := by
  induction n generalizing s with
  | zero => simp [State.closeCuts]
  | succ n ih => simp only [State.closeCuts]; (repeat' split) <;> simp [ih, hj]

@[simp] theorem State.closeCuts_setup (i : Fin 4) (n : Nat) (j : Fin 4) :
    ((s.closeCuts i n).strand j).setup = (s.strand j).setup := by
  induction n generalizing s with
  | zero => simp [State.closeCuts]
  | succ n ih => simp only [State.closeCuts]; (repeat' split) <;> simp [ih]

@[simp] theorem State.closeCheck_frame (i : Fin 4) :
    (s.closeCheck i).pending = s.pending ∧ (s.closeCheck i).now = s.now ∧
      (s.closeCheck i).ownStation = s.ownStation ∧ (s.closeCheck i).routes = s.routes ∧
      (s.closeCheck i).headPort = s.headPort ∧ (s.closeCheck i).heads = s.heads ∧ (s.closeCheck i).travel = s.travel ∧
      (s.closeCheck i).scans = s.scans ∧ (s.closeCheck i).pressUnknown = s.pressUnknown ∧
      (s.closeCheck i).cutInvalid = s.cutInvalid ∧ (s.closeCheck i).handler.requests = s.handler.requests ∧
      (s.closeCheck i).handler.waiting = s.handler.waiting ∧ (s.closeCheck i).handler.restart = s.handler.restart ∧
      (s.closeCheck i).handler.noticeTarget = s.handler.noticeTarget ∧
      (s.closeCheck i).handler.counters.requestsDone = s.handler.counters.requestsDone ∧
      (s.closeCheck i).handler.counters.requestsRefused = s.handler.counters.requestsRefused ∧
      (s.closeCheck i).handler.counters.requestsBusy = s.handler.counters.requestsBusy ∧
      (s.closeCheck i).handler.counters.busyUnsent = s.handler.counters.busyUnsent ∧
      (s.closeCheck i).linePort.parser = s.linePort.parser ∧
      (s.closeCheck i).linePort.counters = s.linePort.counters ∧
      (s.closeCheck i).linePort.adviceTurn = s.linePort.adviceTurn ∧
      (s.closeCheck i).linePort.pieceTurn = s.linePort.pieceTurn := by
  simp [State.closeCheck]

@[simp] theorem State.closeCheck_head (i : Fin 4) (q : Fin 16) : (s.closeCheck i).head q = s.head q :=
  State.head_of_heads (by simp) q

@[simp] theorem State.closeCheck_other {i : Fin 4} {j : Fin 4} (hj : j ≠ i) :
    (s.closeCheck i).strand j = s.strand j := by
  simp [State.closeCheck, hj]

@[simp] theorem State.closeCheck_setup (i : Fin 4) (j : Fin 4) :
    ((s.closeCheck i).strand j).setup = (s.strand j).setup := by
  simp [State.closeCheck]

@[simp] theorem State.overrunCut_frame (i : Fin 4) (x : Nat) :
    (s.overrunCut i x).pending = s.pending ∧ (s.overrunCut i x).now = s.now ∧
      (s.overrunCut i x).ownStation = s.ownStation ∧ (s.overrunCut i x).routes = s.routes ∧
      (s.overrunCut i x).headPort = s.headPort ∧ (s.overrunCut i x).heads = s.heads ∧
      (s.overrunCut i x).travel = s.travel ∧ (s.overrunCut i x).scans = s.scans ∧
      (s.overrunCut i x).pressUnknown = s.pressUnknown ∧ (s.overrunCut i x).cutInvalid = s.cutInvalid ∧
      (s.overrunCut i x).handler.requests = s.handler.requests ∧
      (s.overrunCut i x).handler.waiting = s.handler.waiting ∧
      (s.overrunCut i x).handler.restart = s.handler.restart ∧
      (s.overrunCut i x).handler.noticeTarget = s.handler.noticeTarget ∧
      (s.overrunCut i x).handler.counters.requestsDone = s.handler.counters.requestsDone ∧
      (s.overrunCut i x).handler.counters.requestsRefused = s.handler.counters.requestsRefused ∧
      (s.overrunCut i x).handler.counters.requestsBusy = s.handler.counters.requestsBusy ∧
      (s.overrunCut i x).handler.counters.busyUnsent = s.handler.counters.busyUnsent ∧
      (s.overrunCut i x).linePort.parser = s.linePort.parser ∧
      (s.overrunCut i x).linePort.counters = s.linePort.counters ∧
      (s.overrunCut i x).linePort.adviceTurn = s.linePort.adviceTurn ∧
      (s.overrunCut i x).linePort.pieceTurn = s.linePort.pieceTurn := by
  simp [State.overrunCut]

@[simp] theorem State.overrunCut_head (i : Fin 4) (x : Nat) (q : Fin 16) : (s.overrunCut i x).head q = s.head q :=
  State.head_of_heads (by simp) q

@[simp] theorem State.overrunCut_other {i : Fin 4} (x : Nat) {j : Fin 4} (hj : j ≠ i) :
    (s.overrunCut i x).strand j = s.strand j := by
  simp [State.overrunCut, hj]

@[simp] theorem State.overrunCut_setup (i : Fin 4) (x : Nat) (j : Fin 4) :
    ((s.overrunCut i x).strand j).setup = (s.strand j).setup := by
  simp [State.overrunCut]

@[simp] theorem State.cutNotice_frame (n x : Nat) :
    (s.cutNotice n x).pending = s.pending ∧ (s.cutNotice n x).now = s.now ∧
      (s.cutNotice n x).ownStation = s.ownStation ∧ (s.cutNotice n x).routes = s.routes ∧
      (s.cutNotice n x).headPort = s.headPort ∧ (s.cutNotice n x).heads = s.heads ∧
      (s.cutNotice n x).travel = s.travel ∧ (s.cutNotice n x).scans = s.scans ∧
      (s.cutNotice n x).pressUnknown = s.pressUnknown ∧ (s.cutNotice n x).handler.requests = s.handler.requests ∧
      (s.cutNotice n x).handler.waiting = s.handler.waiting ∧ (s.cutNotice n x).handler.restart = s.handler.restart ∧
      (s.cutNotice n x).handler.noticeTarget = s.handler.noticeTarget ∧
      (s.cutNotice n x).handler.counters.requestsDone = s.handler.counters.requestsDone ∧
      (s.cutNotice n x).handler.counters.requestsRefused = s.handler.counters.requestsRefused ∧
      (s.cutNotice n x).handler.counters.requestsBusy = s.handler.counters.requestsBusy ∧
      (s.cutNotice n x).handler.counters.busyUnsent = s.handler.counters.busyUnsent ∧
      (s.cutNotice n x).linePort.parser = s.linePort.parser ∧
      (s.cutNotice n x).linePort.counters = s.linePort.counters ∧
      (s.cutNotice n x).linePort.adviceTurn = s.linePort.adviceTurn ∧
      (s.cutNotice n x).linePort.pieceTurn = s.linePort.pieceTurn := by
  simp only [State.cutNotice]; (repeat' split) <;> simp

@[simp] theorem State.cutNotice_head (n x : Nat) (q : Fin 16) : (s.cutNotice n x).head q = s.head q :=
  State.head_of_heads (by simp) q

@[simp] theorem State.cutNotice_setup (n x : Nat) (j : Fin 4) :
    ((s.cutNotice n x).strand j).setup = (s.strand j).setup := by
  simp only [State.cutNotice]; (repeat' split) <;> simp

@[simp] theorem State.closeAtEnd_frame (i : Fin 4) :
    (s.closeAtEnd i).pending = s.pending ∧ (s.closeAtEnd i).now = s.now ∧
      (s.closeAtEnd i).ownStation = s.ownStation ∧ (s.closeAtEnd i).routes = s.routes ∧
      (s.closeAtEnd i).headPort = s.headPort ∧ (s.closeAtEnd i).heads = s.heads ∧ (s.closeAtEnd i).travel = s.travel ∧
      (s.closeAtEnd i).scans = s.scans ∧ (s.closeAtEnd i).pressUnknown = s.pressUnknown ∧
      (s.closeAtEnd i).cutInvalid = s.cutInvalid ∧ (s.closeAtEnd i).handler = s.handler ∧
      (s.closeAtEnd i).linePort.parser = s.linePort.parser ∧
      (s.closeAtEnd i).linePort.counters = s.linePort.counters ∧
      (s.closeAtEnd i).linePort.adviceTurn = s.linePort.adviceTurn ∧
      (s.closeAtEnd i).linePort.pieceTurn = s.linePort.pieceTurn := by
  simp only [State.closeAtEnd]; split <;> simp

@[simp] theorem State.closeAtEnd_head (i : Fin 4) (q : Fin 16) : (s.closeAtEnd i).head q = s.head q :=
  State.head_of_heads (by simp) q

@[simp] theorem State.closeAtEnd_other {i : Fin 4} {j : Fin 4} (hj : j ≠ i) :
    (s.closeAtEnd i).strand j = s.strand j := by
  simp only [State.closeAtEnd]; split <;> simp [hj]

@[simp] theorem State.closeAtEnd_setup (i : Fin 4) (j : Fin 4) :
    ((s.closeAtEnd i).strand j).setup = (s.strand j).setup := by
  simp only [State.closeAtEnd]; split <;> simp

@[simp] theorem State.switchAtClose_frame (i : Fin 4) :
    (s.switchAtClose i).pending = s.pending ∧ (s.switchAtClose i).now = s.now ∧
      (s.switchAtClose i).ownStation = s.ownStation ∧ (s.switchAtClose i).routes = s.routes ∧
      (s.switchAtClose i).headPort = s.headPort ∧ (s.switchAtClose i).travel = s.travel ∧
      (s.switchAtClose i).scans = s.scans ∧ (s.switchAtClose i).pressUnknown = s.pressUnknown ∧
      (s.switchAtClose i).cutInvalid = s.cutInvalid ∧ (s.switchAtClose i).handler.requests = s.handler.requests ∧
      (s.switchAtClose i).handler.waiting = s.handler.waiting ∧
      (s.switchAtClose i).handler.restart = s.handler.restart ∧
      (s.switchAtClose i).handler.noticeTarget = s.handler.noticeTarget ∧
      (s.switchAtClose i).handler.counters.requestsDone = s.handler.counters.requestsDone ∧
      (s.switchAtClose i).handler.counters.requestsRefused = s.handler.counters.requestsRefused ∧
      (s.switchAtClose i).handler.counters.requestsBusy = s.handler.counters.requestsBusy ∧
      (s.switchAtClose i).handler.counters.busyUnsent = s.handler.counters.busyUnsent ∧
      (s.switchAtClose i).linePort.parser = s.linePort.parser ∧
      (s.switchAtClose i).linePort.counters = s.linePort.counters ∧
      (s.switchAtClose i).linePort.adviceTurn = s.linePort.adviceTurn ∧
      (s.switchAtClose i).linePort.pieceTurn = s.linePort.pieceTurn := by
  simp only [State.switchAtClose]; split <;> simp

@[simp] theorem State.switchAtClose_other {i : Fin 4} {j : Fin 4} (hj : j ≠ i) :
    (s.switchAtClose i).strand j = s.strand j := by
  simp only [State.switchAtClose]; split <;> simp [hj]

@[simp] theorem State.switchAtClose_setup (i : Fin 4) (j : Fin 4) :
    ((s.switchAtClose i).strand j).setup = (s.strand j).setup := by
  simp only [State.switchAtClose]; split <;> simp

@[simp] theorem State.switchAtClose_mount (i : Fin 4) (q : Fin 16) :
    ((s.switchAtClose i).head q).mount = (s.head q).mount := by
  simp only [State.switchAtClose]; split <;> simp

@[simp] theorem State.leaveDraining_frame (i : Fin 4) :
    (s.leaveDraining i).pending = s.pending ∧ (s.leaveDraining i).now = s.now ∧
      (s.leaveDraining i).ownStation = s.ownStation ∧ (s.leaveDraining i).routes = s.routes ∧
      (s.leaveDraining i).headPort = s.headPort ∧ (s.leaveDraining i).travel = s.travel ∧
      (s.leaveDraining i).scans = s.scans ∧ (s.leaveDraining i).pressUnknown = s.pressUnknown ∧
      (s.leaveDraining i).cutInvalid = s.cutInvalid ∧ (s.leaveDraining i).handler.requests = s.handler.requests ∧
      (s.leaveDraining i).handler.waiting = s.handler.waiting ∧
      (s.leaveDraining i).handler.restart = s.handler.restart ∧
      (s.leaveDraining i).handler.noticeTarget = s.handler.noticeTarget ∧
      (s.leaveDraining i).handler.counters.requestsDone = s.handler.counters.requestsDone ∧
      (s.leaveDraining i).handler.counters.requestsRefused = s.handler.counters.requestsRefused ∧
      (s.leaveDraining i).handler.counters.requestsBusy = s.handler.counters.requestsBusy ∧
      (s.leaveDraining i).handler.counters.busyUnsent = s.handler.counters.busyUnsent ∧
      (s.leaveDraining i).linePort.parser = s.linePort.parser ∧
      (s.leaveDraining i).linePort.counters = s.linePort.counters ∧
      (s.leaveDraining i).linePort.adviceTurn = s.linePort.adviceTurn ∧
      (s.leaveDraining i).linePort.pieceTurn = s.linePort.pieceTurn := by
  simp [State.leaveDraining]

@[simp] theorem State.leaveDraining_other {i : Fin 4} {j : Fin 4} (hj : j ≠ i) :
    (s.leaveDraining i).strand j = s.strand j := by
  simp [State.leaveDraining, hj]

@[simp] theorem State.leaveDraining_setup (i : Fin 4) (j : Fin 4) :
    ((s.leaveDraining i).strand j).setup = (s.strand j).setup := by
  simp [State.leaveDraining]

@[simp] theorem State.leaveDraining_mount (i : Fin 4) (q : Fin 16) :
    ((s.leaveDraining i).head q).mount = (s.head q).mount := by
  simp [State.leaveDraining]

@[simp] theorem State.drainCheck_frame (i : Fin 4) :
    (s.drainCheck i).pending = s.pending ∧ (s.drainCheck i).now = s.now ∧
      (s.drainCheck i).ownStation = s.ownStation ∧ (s.drainCheck i).routes = s.routes ∧
      (s.drainCheck i).headPort = s.headPort ∧ (s.drainCheck i).travel = s.travel ∧ (s.drainCheck i).scans = s.scans ∧
      (s.drainCheck i).pressUnknown = s.pressUnknown ∧ (s.drainCheck i).cutInvalid = s.cutInvalid ∧
      (s.drainCheck i).handler.requests = s.handler.requests ∧ (s.drainCheck i).handler.waiting = s.handler.waiting ∧
      (s.drainCheck i).handler.restart = s.handler.restart ∧
      (s.drainCheck i).handler.noticeTarget = s.handler.noticeTarget ∧
      (s.drainCheck i).handler.counters.requestsDone = s.handler.counters.requestsDone ∧
      (s.drainCheck i).handler.counters.requestsRefused = s.handler.counters.requestsRefused ∧
      (s.drainCheck i).handler.counters.requestsBusy = s.handler.counters.requestsBusy ∧
      (s.drainCheck i).handler.counters.busyUnsent = s.handler.counters.busyUnsent ∧
      (s.drainCheck i).linePort.parser = s.linePort.parser ∧
      (s.drainCheck i).linePort.counters = s.linePort.counters ∧
      (s.drainCheck i).linePort.adviceTurn = s.linePort.adviceTurn ∧
      (s.drainCheck i).linePort.pieceTurn = s.linePort.pieceTurn := by
  simp only [State.drainCheck]; split <;> simp

@[simp] theorem State.drainCheck_other {i : Fin 4} {j : Fin 4} (hj : j ≠ i) :
    (s.drainCheck i).strand j = s.strand j := by
  simp only [State.drainCheck]; split <;> simp [hj]

@[simp] theorem State.drainCheck_setup (i : Fin 4) (j : Fin 4) :
    ((s.drainCheck i).strand j).setup = (s.strand j).setup := by
  simp only [State.drainCheck]; split <;> simp

@[simp] theorem State.drainCheck_mount (i : Fin 4) (q : Fin 16) :
    ((s.drainCheck i).head q).mount = (s.head q).mount := by
  simp only [State.drainCheck]; split <;> simp

@[simp] theorem State.endRun_frame (i : Fin 4) :
    (s.endRun i).pending = s.pending ∧ (s.endRun i).now = s.now ∧ (s.endRun i).ownStation = s.ownStation ∧
      (s.endRun i).routes = s.routes ∧ (s.endRun i).headPort = s.headPort ∧ (s.endRun i).travel = s.travel ∧
      (s.endRun i).scans = s.scans ∧ (s.endRun i).pressUnknown = s.pressUnknown ∧
      (s.endRun i).cutInvalid = s.cutInvalid ∧ (s.endRun i).handler.requests = s.handler.requests ∧
      (s.endRun i).handler.waiting = s.handler.waiting ∧ (s.endRun i).handler.restart = s.handler.restart ∧
      (s.endRun i).handler.noticeTarget = s.handler.noticeTarget ∧
      (s.endRun i).handler.counters.requestsDone = s.handler.counters.requestsDone ∧
      (s.endRun i).handler.counters.requestsRefused = s.handler.counters.requestsRefused ∧
      (s.endRun i).handler.counters.requestsBusy = s.handler.counters.requestsBusy ∧
      (s.endRun i).handler.counters.busyUnsent = s.handler.counters.busyUnsent ∧
      (s.endRun i).linePort.parser = s.linePort.parser ∧ (s.endRun i).linePort.counters = s.linePort.counters ∧
      (s.endRun i).linePort.adviceTurn = s.linePort.adviceTurn ∧
      (s.endRun i).linePort.pieceTurn = s.linePort.pieceTurn := by
  simp only [State.endRun]; split <;> simp

@[simp] theorem State.endRun_other {i : Fin 4} {j : Fin 4} (hj : j ≠ i) :
    (s.endRun i).strand j = s.strand j := by
  simp only [State.endRun]; split <;> simp [hj]

@[simp] theorem State.endRun_setup (i : Fin 4) (j : Fin 4) :
    ((s.endRun i).strand j).setup = (s.strand j).setup := by
  simp only [State.endRun]; split <;> simp

@[simp] theorem State.endRun_mount (i : Fin 4) (q : Fin 16) :
    ((s.endRun i).head q).mount = (s.head q).mount := by
  simp only [State.endRun]; split <;> simp

end Sys2Proof.Machine
end

