-- ==== Sys2Proof/Laws/Slices.lean ====
section
/-! SUPPORT. What the operations of the Slice Assembler leave as it is: for each operation, the fields of the state that it
keeps, what it keeps of the Request Handler, and the configuration of the strands and of the heads. -/

namespace Sys2Proof.Machine

variable (s : State)

@[simp] theorem State.startEvaluation_frame (i : Fin 4) (x : SliceSet) :
    (s.startEvaluation i x).pending = s.pending ∧ (s.startEvaluation i x).now = s.now ∧
      (s.startEvaluation i x).ownStation = s.ownStation ∧ (s.startEvaluation i x).routes = s.routes ∧
      (s.startEvaluation i x).headPort = s.headPort ∧ (s.startEvaluation i x).linePort = s.linePort ∧
      (s.startEvaluation i x).heads = s.heads ∧ (s.startEvaluation i x).travel = s.travel ∧
      (s.startEvaluation i x).scans = s.scans ∧ (s.startEvaluation i x).pressUnknown = s.pressUnknown ∧
      (s.startEvaluation i x).cutInvalid = s.cutInvalid ∧ (s.startEvaluation i x).handler = s.handler := by
  simp [State.startEvaluation]

@[simp] theorem State.startEvaluation_head (i : Fin 4) (x : SliceSet) (q : Fin 16) :
    (s.startEvaluation i x).head q = s.head q :=
  State.head_of_heads (by simp) q

@[simp] theorem State.startEvaluation_other {i : Fin 4} (x : SliceSet) {j : Fin 4} (hj : j ≠ i) :
    (s.startEvaluation i x).strand j = s.strand j := by
  simp [State.startEvaluation, hj]

@[simp] theorem State.startEvaluation_setup (i : Fin 4) (x : SliceSet) (j : Fin 4) :
    ((s.startEvaluation i x).strand j).setup = (s.strand j).setup := by
  simp [State.startEvaluation]

@[simp] theorem State.releaseRule_frame (i : Fin 4) :
    (s.releaseRule i).pending = s.pending ∧ (s.releaseRule i).now = s.now ∧
      (s.releaseRule i).ownStation = s.ownStation ∧ (s.releaseRule i).routes = s.routes ∧
      (s.releaseRule i).headPort = s.headPort ∧ (s.releaseRule i).travel = s.travel ∧
      (s.releaseRule i).scans = s.scans ∧ (s.releaseRule i).pressUnknown = s.pressUnknown ∧
      (s.releaseRule i).cutInvalid = s.cutInvalid ∧ (s.releaseRule i).handler.requests = s.handler.requests ∧
      (s.releaseRule i).handler.waiting = s.handler.waiting ∧ (s.releaseRule i).handler.restart = s.handler.restart ∧
      (s.releaseRule i).handler.noticeTarget = s.handler.noticeTarget ∧
      (s.releaseRule i).handler.counters.requestsDone = s.handler.counters.requestsDone ∧
      (s.releaseRule i).handler.counters.requestsRefused = s.handler.counters.requestsRefused ∧
      (s.releaseRule i).handler.counters.requestsBusy = s.handler.counters.requestsBusy ∧
      (s.releaseRule i).handler.counters.busyUnsent = s.handler.counters.busyUnsent ∧
      (s.releaseRule i).linePort.parser = s.linePort.parser ∧
      (s.releaseRule i).linePort.counters = s.linePort.counters ∧
      (s.releaseRule i).linePort.adviceTurn = s.linePort.adviceTurn ∧
      (s.releaseRule i).linePort.pieceTurn = s.linePort.pieceTurn := by
  simp only [State.releaseRule]; (repeat' split) <;> simp

@[simp] theorem State.releaseRule_other {i : Fin 4} {j : Fin 4} (hj : j ≠ i) :
    (s.releaseRule i).strand j = s.strand j := by
  simp only [State.releaseRule]; (repeat' split) <;> simp [hj]

@[simp] theorem State.releaseRule_setup (i : Fin 4) (j : Fin 4) :
    ((s.releaseRule i).strand j).setup = (s.strand j).setup := by
  simp only [State.releaseRule]; (repeat' split) <;> simp

@[simp] theorem State.releaseRule_mount (i : Fin 4) (q : Fin 16) :
    ((s.releaseRule i).head q).mount = (s.head q).mount := by
  simp only [State.releaseRule]; (repeat' split) <;> simp

@[simp] theorem State.reportSlotMiss_frame (i : Fin 4) (x : SliceSet) (t : Fin 6) :
    (State.reportSlotMiss i x s t).pending = s.pending ∧ (State.reportSlotMiss i x s t).now = s.now ∧
      (State.reportSlotMiss i x s t).ownStation = s.ownStation ∧ (State.reportSlotMiss i x s t).routes = s.routes ∧
      (State.reportSlotMiss i x s t).headPort = s.headPort ∧ (State.reportSlotMiss i x s t).travel = s.travel ∧
      (State.reportSlotMiss i x s t).strands = s.strands ∧ (State.reportSlotMiss i x s t).scans = s.scans ∧
      (State.reportSlotMiss i x s t).pressUnknown = s.pressUnknown ∧
      (State.reportSlotMiss i x s t).cutInvalid = s.cutInvalid ∧
      (State.reportSlotMiss i x s t).handler.requests = s.handler.requests ∧
      (State.reportSlotMiss i x s t).handler.waiting = s.handler.waiting ∧
      (State.reportSlotMiss i x s t).handler.restart = s.handler.restart ∧
      (State.reportSlotMiss i x s t).handler.noticeTarget = s.handler.noticeTarget ∧
      (State.reportSlotMiss i x s t).handler.counters.requestsDone = s.handler.counters.requestsDone ∧
      (State.reportSlotMiss i x s t).handler.counters.requestsRefused = s.handler.counters.requestsRefused ∧
      (State.reportSlotMiss i x s t).handler.counters.requestsBusy = s.handler.counters.requestsBusy ∧
      (State.reportSlotMiss i x s t).handler.counters.busyUnsent = s.handler.counters.busyUnsent ∧
      (State.reportSlotMiss i x s t).linePort.parser = s.linePort.parser ∧
      (State.reportSlotMiss i x s t).linePort.counters = s.linePort.counters ∧
      (State.reportSlotMiss i x s t).linePort.adviceTurn = s.linePort.adviceTurn ∧
      (State.reportSlotMiss i x s t).linePort.pieceTurn = s.linePort.pieceTurn := by
  simp only [State.reportSlotMiss]; (repeat' split) <;> simp

@[simp] theorem State.reportSlotMiss_strand (i : Fin 4) (x : SliceSet) (t : Fin 6) (j : Fin 4) :
    (State.reportSlotMiss i x s t).strand j = s.strand j :=
  State.strand_of_strands (by simp) j

@[simp] theorem State.reportSlotMiss_mount (i : Fin 4) (x : SliceSet) (t : Fin 6) (q : Fin 16) :
    ((State.reportSlotMiss i x s t).head q).mount = (s.head q).mount := by
  simp only [State.reportSlotMiss]; (repeat' split) <;> simp

@[simp] theorem State.reportMisses_frame (i : Fin 4) (x : SliceSet) :
    (s.reportMisses i x).pending = s.pending ∧ (s.reportMisses i x).now = s.now ∧
      (s.reportMisses i x).ownStation = s.ownStation ∧ (s.reportMisses i x).routes = s.routes ∧
      (s.reportMisses i x).headPort = s.headPort ∧ (s.reportMisses i x).travel = s.travel ∧
      (s.reportMisses i x).strands = s.strands ∧ (s.reportMisses i x).scans = s.scans ∧
      (s.reportMisses i x).pressUnknown = s.pressUnknown ∧ (s.reportMisses i x).cutInvalid = s.cutInvalid ∧
      (s.reportMisses i x).handler.requests = s.handler.requests ∧
      (s.reportMisses i x).handler.waiting = s.handler.waiting ∧
      (s.reportMisses i x).handler.restart = s.handler.restart ∧
      (s.reportMisses i x).handler.noticeTarget = s.handler.noticeTarget ∧
      (s.reportMisses i x).handler.counters.requestsDone = s.handler.counters.requestsDone ∧
      (s.reportMisses i x).handler.counters.requestsRefused = s.handler.counters.requestsRefused ∧
      (s.reportMisses i x).handler.counters.requestsBusy = s.handler.counters.requestsBusy ∧
      (s.reportMisses i x).handler.counters.busyUnsent = s.handler.counters.busyUnsent ∧
      (s.reportMisses i x).linePort.parser = s.linePort.parser ∧
      (s.reportMisses i x).linePort.counters = s.linePort.counters ∧
      (s.reportMisses i x).linePort.adviceTurn = s.linePort.adviceTurn ∧
      (s.reportMisses i x).linePort.pieceTurn = s.linePort.pieceTurn := by
  simp [State.reportMisses, allSlots]

@[simp] theorem State.reportMisses_strand (i : Fin 4) (x : SliceSet) (j : Fin 4) :
    (s.reportMisses i x).strand j = s.strand j :=
  State.strand_of_strands (by simp) j

@[simp] theorem State.reportMisses_mount (i : Fin 4) (x : SliceSet) (q : Fin 16) :
    ((s.reportMisses i x).head q).mount = (s.head q).mount := by
  simp [State.reportMisses, allSlots]

@[simp] theorem State.timeOutSet_frame (i : Fin 4) (x : SliceSet) :
    (s.timeOutSet i x).pending = s.pending ∧ (s.timeOutSet i x).now = s.now ∧
      (s.timeOutSet i x).ownStation = s.ownStation ∧ (s.timeOutSet i x).routes = s.routes ∧
      (s.timeOutSet i x).headPort = s.headPort ∧ (s.timeOutSet i x).travel = s.travel ∧
      (s.timeOutSet i x).scans = s.scans ∧ (s.timeOutSet i x).pressUnknown = s.pressUnknown ∧
      (s.timeOutSet i x).cutInvalid = s.cutInvalid ∧ (s.timeOutSet i x).handler.requests = s.handler.requests ∧
      (s.timeOutSet i x).handler.waiting = s.handler.waiting ∧
      (s.timeOutSet i x).handler.restart = s.handler.restart ∧
      (s.timeOutSet i x).handler.noticeTarget = s.handler.noticeTarget ∧
      (s.timeOutSet i x).handler.counters.requestsDone = s.handler.counters.requestsDone ∧
      (s.timeOutSet i x).handler.counters.requestsRefused = s.handler.counters.requestsRefused ∧
      (s.timeOutSet i x).handler.counters.requestsBusy = s.handler.counters.requestsBusy ∧
      (s.timeOutSet i x).handler.counters.busyUnsent = s.handler.counters.busyUnsent ∧
      (s.timeOutSet i x).linePort.parser = s.linePort.parser ∧
      (s.timeOutSet i x).linePort.counters = s.linePort.counters ∧
      (s.timeOutSet i x).linePort.adviceTurn = s.linePort.adviceTurn ∧
      (s.timeOutSet i x).linePort.pieceTurn = s.linePort.pieceTurn := by
  simp [State.timeOutSet]

@[simp] theorem State.timeOutSet_other {i : Fin 4} (x : SliceSet) {j : Fin 4} (hj : j ≠ i) :
    (s.timeOutSet i x).strand j = s.strand j := by
  simp [State.timeOutSet, hj]

@[simp] theorem State.timeOutSet_setup (i : Fin 4) (x : SliceSet) (j : Fin 4) :
    ((s.timeOutSet i x).strand j).setup = (s.strand j).setup := by
  simp [State.timeOutSet]

@[simp] theorem State.timeOutSet_mount (i : Fin 4) (x : SliceSet) (q : Fin 16) :
    ((s.timeOutSet i x).head q).mount = (s.head q).mount := by
  simp [State.timeOutSet]

@[simp] theorem State.forceOldest_frame (i : Fin 4) :
    (s.forceOldest i).pending = s.pending ∧ (s.forceOldest i).now = s.now ∧
      (s.forceOldest i).ownStation = s.ownStation ∧ (s.forceOldest i).routes = s.routes ∧
      (s.forceOldest i).headPort = s.headPort ∧ (s.forceOldest i).travel = s.travel ∧
      (s.forceOldest i).scans = s.scans ∧ (s.forceOldest i).pressUnknown = s.pressUnknown ∧
      (s.forceOldest i).cutInvalid = s.cutInvalid ∧ (s.forceOldest i).handler.requests = s.handler.requests ∧
      (s.forceOldest i).handler.waiting = s.handler.waiting ∧ (s.forceOldest i).handler.restart = s.handler.restart ∧
      (s.forceOldest i).handler.noticeTarget = s.handler.noticeTarget ∧
      (s.forceOldest i).handler.counters.requestsDone = s.handler.counters.requestsDone ∧
      (s.forceOldest i).handler.counters.requestsRefused = s.handler.counters.requestsRefused ∧
      (s.forceOldest i).handler.counters.requestsBusy = s.handler.counters.requestsBusy ∧
      (s.forceOldest i).handler.counters.busyUnsent = s.handler.counters.busyUnsent ∧
      (s.forceOldest i).linePort.parser = s.linePort.parser ∧
      (s.forceOldest i).linePort.counters = s.linePort.counters ∧
      (s.forceOldest i).linePort.adviceTurn = s.linePort.adviceTurn ∧
      (s.forceOldest i).linePort.pieceTurn = s.linePort.pieceTurn := by
  simp only [State.forceOldest]; (repeat' split) <;> simp

@[simp] theorem State.forceOldest_other {i : Fin 4} {j : Fin 4} (hj : j ≠ i) :
    (s.forceOldest i).strand j = s.strand j := by
  simp only [State.forceOldest]; (repeat' split) <;> simp [hj]

@[simp] theorem State.forceOldest_setup (i : Fin 4) (j : Fin 4) :
    ((s.forceOldest i).strand j).setup = (s.strand j).setup := by
  simp only [State.forceOldest]; (repeat' split) <;> simp

@[simp] theorem State.forceOldest_mount (i : Fin 4) (q : Fin 16) :
    ((s.forceOldest i).head q).mount = (s.head q).mount := by
  simp only [State.forceOldest]; (repeat' split) <;> simp

@[simp] theorem State.openSet_frame (i : Fin 4) (k : Nat) (e : BitVec 6) :
    (s.openSet i k e).pending = s.pending ∧ (s.openSet i k e).now = s.now ∧
      (s.openSet i k e).ownStation = s.ownStation ∧ (s.openSet i k e).routes = s.routes ∧
      (s.openSet i k e).headPort = s.headPort ∧ (s.openSet i k e).travel = s.travel ∧
      (s.openSet i k e).scans = s.scans ∧ (s.openSet i k e).pressUnknown = s.pressUnknown ∧
      (s.openSet i k e).cutInvalid = s.cutInvalid ∧ (s.openSet i k e).handler.requests = s.handler.requests ∧
      (s.openSet i k e).handler.waiting = s.handler.waiting ∧ (s.openSet i k e).handler.restart = s.handler.restart ∧
      (s.openSet i k e).handler.noticeTarget = s.handler.noticeTarget ∧
      (s.openSet i k e).handler.counters.requestsDone = s.handler.counters.requestsDone ∧
      (s.openSet i k e).handler.counters.requestsRefused = s.handler.counters.requestsRefused ∧
      (s.openSet i k e).handler.counters.requestsBusy = s.handler.counters.requestsBusy ∧
      (s.openSet i k e).handler.counters.busyUnsent = s.handler.counters.busyUnsent ∧
      (s.openSet i k e).linePort.parser = s.linePort.parser ∧
      (s.openSet i k e).linePort.counters = s.linePort.counters ∧
      (s.openSet i k e).linePort.adviceTurn = s.linePort.adviceTurn ∧
      (s.openSet i k e).linePort.pieceTurn = s.linePort.pieceTurn := by
  simp only [State.openSet]; (repeat' split) <;> simp

@[simp] theorem State.openSet_other {i : Fin 4} (k : Nat) (e : BitVec 6) {j : Fin 4} (hj : j ≠ i) :
    (s.openSet i k e).strand j = s.strand j := by
  simp only [State.openSet]; (repeat' split) <;> simp [hj]

@[simp] theorem State.openSet_setup (i : Fin 4) (k : Nat) (e : BitVec 6) (j : Fin 4) :
    ((s.openSet i k e).strand j).setup = (s.strand j).setup := by
  simp only [State.openSet]; (repeat' split) <;> simp

@[simp] theorem State.openSet_mount (i : Fin 4) (k : Nat) (e : BitVec 6) (q : Fin 16) :
    ((s.openSet i k e).head q).mount = (s.head q).mount := by
  simp only [State.openSet]; (repeat' split) <;> simp

@[simp] theorem State.discardScan_frame (h : Fin 16) (c : ScanCounters) :
    (s.discardScan h c).pending = s.pending ∧ (s.discardScan h c).now = s.now ∧
      (s.discardScan h c).ownStation = s.ownStation ∧ (s.discardScan h c).routes = s.routes ∧
      (s.discardScan h c).headPort = s.headPort ∧ (s.discardScan h c).linePort = s.linePort ∧
      (s.discardScan h c).travel = s.travel ∧ (s.discardScan h c).strands = s.strands ∧
      (s.discardScan h c).pressUnknown = s.pressUnknown ∧ (s.discardScan h c).cutInvalid = s.cutInvalid ∧
      (s.discardScan h c).handler = s.handler := by
  simp [State.discardScan]

@[simp] theorem State.discardScan_strand (h : Fin 16) (c : ScanCounters) (j : Fin 4) :
    (s.discardScan h c).strand j = s.strand j :=
  State.strand_of_strands (by simp) j

@[simp] theorem State.discardScan_otherHead {h : Fin 16} (c : ScanCounters) {q : Fin 16} (hq : q ≠ h) :
    (s.discardScan h c).head q = s.head q := by
  simp [State.discardScan, hq]

@[simp] theorem State.discardScan_mount (h : Fin 16) (c : ScanCounters) (q : Fin 16) :
    ((s.discardScan h c).head q).mount = (s.head q).mount := by
  simp [State.discardScan]

@[simp] theorem State.completeSet_frame (i : Fin 4) (k : Nat) :
    (s.completeSet i k).pending = s.pending ∧ (s.completeSet i k).now = s.now ∧
      (s.completeSet i k).ownStation = s.ownStation ∧ (s.completeSet i k).routes = s.routes ∧
      (s.completeSet i k).headPort = s.headPort ∧ (s.completeSet i k).travel = s.travel ∧
      (s.completeSet i k).scans = s.scans ∧ (s.completeSet i k).pressUnknown = s.pressUnknown ∧
      (s.completeSet i k).cutInvalid = s.cutInvalid ∧ (s.completeSet i k).handler.requests = s.handler.requests ∧
      (s.completeSet i k).handler.waiting = s.handler.waiting ∧
      (s.completeSet i k).handler.restart = s.handler.restart ∧
      (s.completeSet i k).handler.noticeTarget = s.handler.noticeTarget ∧
      (s.completeSet i k).handler.counters.requestsDone = s.handler.counters.requestsDone ∧
      (s.completeSet i k).handler.counters.requestsRefused = s.handler.counters.requestsRefused ∧
      (s.completeSet i k).handler.counters.requestsBusy = s.handler.counters.requestsBusy ∧
      (s.completeSet i k).handler.counters.busyUnsent = s.handler.counters.busyUnsent ∧
      (s.completeSet i k).linePort.parser = s.linePort.parser ∧
      (s.completeSet i k).linePort.counters = s.linePort.counters ∧
      (s.completeSet i k).linePort.adviceTurn = s.linePort.adviceTurn ∧
      (s.completeSet i k).linePort.pieceTurn = s.linePort.pieceTurn := by
  simp only [State.completeSet]; (repeat' split) <;> simp

@[simp] theorem State.completeSet_other {i : Fin 4} (k : Nat) {j : Fin 4} (hj : j ≠ i) :
    (s.completeSet i k).strand j = s.strand j := by
  simp only [State.completeSet]; (repeat' split) <;> simp [hj]

@[simp] theorem State.completeSet_setup (i : Fin 4) (k : Nat) (j : Fin 4) :
    ((s.completeSet i k).strand j).setup = (s.strand j).setup := by
  simp only [State.completeSet]; (repeat' split) <;> simp

@[simp] theorem State.completeSet_mount (i : Fin 4) (k : Nat) (q : Fin 16) :
    ((s.completeSet i k).head q).mount = (s.head q).mount := by
  simp only [State.completeSet]; (repeat' split) <;> simp

@[simp] theorem State.acceptScan_frame (h : Fin 16) (i : Fin 4) (t : Fin 6) (p : List Byte) :
    (s.acceptScan h i t p).pending = s.pending ∧ (s.acceptScan h i t p).now = s.now ∧
      (s.acceptScan h i t p).ownStation = s.ownStation ∧ (s.acceptScan h i t p).routes = s.routes ∧
      (s.acceptScan h i t p).headPort = s.headPort ∧ (s.acceptScan h i t p).travel = s.travel ∧
      (s.acceptScan h i t p).scans = s.scans ∧ (s.acceptScan h i t p).pressUnknown = s.pressUnknown ∧
      (s.acceptScan h i t p).cutInvalid = s.cutInvalid ∧
      (s.acceptScan h i t p).handler.requests = s.handler.requests ∧
      (s.acceptScan h i t p).handler.waiting = s.handler.waiting ∧
      (s.acceptScan h i t p).handler.restart = s.handler.restart ∧
      (s.acceptScan h i t p).handler.noticeTarget = s.handler.noticeTarget ∧
      (s.acceptScan h i t p).handler.counters.requestsDone = s.handler.counters.requestsDone ∧
      (s.acceptScan h i t p).handler.counters.requestsRefused = s.handler.counters.requestsRefused ∧
      (s.acceptScan h i t p).handler.counters.requestsBusy = s.handler.counters.requestsBusy ∧
      (s.acceptScan h i t p).handler.counters.busyUnsent = s.handler.counters.busyUnsent ∧
      (s.acceptScan h i t p).linePort.parser = s.linePort.parser ∧
      (s.acceptScan h i t p).linePort.counters = s.linePort.counters ∧
      (s.acceptScan h i t p).linePort.adviceTurn = s.linePort.adviceTurn ∧
      (s.acceptScan h i t p).linePort.pieceTurn = s.linePort.pieceTurn := by
  simp [State.acceptScan]

@[simp] theorem State.acceptScan_other (h : Fin 16) {i : Fin 4} (t : Fin 6) (p : List Byte) {j : Fin 4} (hj : j ≠ i) :
    (s.acceptScan h i t p).strand j = s.strand j := by
  simp [State.acceptScan, hj]

@[simp] theorem State.acceptScan_setup (h : Fin 16) (i : Fin 4) (t : Fin 6) (p : List Byte) (j : Fin 4) :
    ((s.acceptScan h i t p).strand j).setup = (s.strand j).setup := by
  simp [State.acceptScan]

@[simp] theorem State.acceptScan_mount (h : Fin 16) (i : Fin 4) (t : Fin 6) (p : List Byte) (q : Fin 16) :
    ((s.acceptScan h i t p).head q).mount = (s.head q).mount := by
  simp [State.acceptScan]

@[simp] theorem State.scan_frame (h : Fin 16) (p : List Byte) :
    (s.scan h p).pending = s.pending ∧ (s.scan h p).now = s.now ∧ (s.scan h p).ownStation = s.ownStation ∧
      (s.scan h p).routes = s.routes ∧ (s.scan h p).headPort = s.headPort ∧ (s.scan h p).travel = s.travel ∧
      (s.scan h p).pressUnknown = s.pressUnknown ∧ (s.scan h p).cutInvalid = s.cutInvalid ∧
      (s.scan h p).handler.requests = s.handler.requests ∧ (s.scan h p).handler.waiting = s.handler.waiting ∧
      (s.scan h p).handler.restart = s.handler.restart ∧ (s.scan h p).handler.noticeTarget = s.handler.noticeTarget ∧
      (s.scan h p).handler.counters.requestsDone = s.handler.counters.requestsDone ∧
      (s.scan h p).handler.counters.requestsRefused = s.handler.counters.requestsRefused ∧
      (s.scan h p).handler.counters.requestsBusy = s.handler.counters.requestsBusy ∧
      (s.scan h p).handler.counters.busyUnsent = s.handler.counters.busyUnsent ∧
      (s.scan h p).linePort.parser = s.linePort.parser ∧ (s.scan h p).linePort.counters = s.linePort.counters ∧
      (s.scan h p).linePort.adviceTurn = s.linePort.adviceTurn ∧
      (s.scan h p).linePort.pieceTurn = s.linePort.pieceTurn := by
  simp only [State.scan]; split <;> simp

@[simp] theorem State.scan_setup (h : Fin 16) (p : List Byte) (j : Fin 4) :
    ((s.scan h p).strand j).setup = (s.strand j).setup := by
  simp only [State.scan]; split <;> simp

@[simp] theorem State.scan_mount (h : Fin 16) (p : List Byte) (q : Fin 16) :
    ((s.scan h p).head q).mount = (s.head q).mount := by
  simp only [State.scan]; split <;> simp

@[simp] theorem State.handOver_frame (i : Fin 4) (e : Entry) :
    (s.handOver i e).pending = s.pending ∧ (s.handOver i e).now = s.now ∧
      (s.handOver i e).ownStation = s.ownStation ∧ (s.handOver i e).routes = s.routes ∧
      (s.handOver i e).headPort = s.headPort ∧ (s.handOver i e).heads = s.heads ∧ (s.handOver i e).travel = s.travel ∧
      (s.handOver i e).scans = s.scans ∧ (s.handOver i e).pressUnknown = s.pressUnknown ∧
      (s.handOver i e).cutInvalid = s.cutInvalid ∧ (s.handOver i e).handler.requests = s.handler.requests ∧
      (s.handOver i e).handler.waiting = s.handler.waiting ∧ (s.handOver i e).handler.restart = s.handler.restart ∧
      (s.handOver i e).handler.noticeTarget = s.handler.noticeTarget ∧
      (s.handOver i e).handler.counters.requestsDone = s.handler.counters.requestsDone ∧
      (s.handOver i e).handler.counters.requestsRefused = s.handler.counters.requestsRefused ∧
      (s.handOver i e).handler.counters.requestsBusy = s.handler.counters.requestsBusy ∧
      (s.handOver i e).handler.counters.busyUnsent = s.handler.counters.busyUnsent ∧
      (s.handOver i e).linePort.parser = s.linePort.parser ∧
      (s.handOver i e).linePort.counters = s.linePort.counters ∧
      (s.handOver i e).linePort.adviceTurn = s.linePort.adviceTurn ∧
      (s.handOver i e).linePort.pieceTurn = s.linePort.pieceTurn := by
  simp [State.handOver]

@[simp] theorem State.handOver_head (i : Fin 4) (e : Entry) (q : Fin 16) : (s.handOver i e).head q = s.head q :=
  State.head_of_heads (by simp) q

@[simp] theorem State.handOver_other {i : Fin 4} (e : Entry) {j : Fin 4} (hj : j ≠ i) :
    (s.handOver i e).strand j = s.strand j := by
  simp [State.handOver, hj]

@[simp] theorem State.handOver_setup (i : Fin 4) (e : Entry) (j : Fin 4) :
    ((s.handOver i e).strand j).setup = (s.strand j).setup := by
  simp [State.handOver]

@[simp] theorem State.completionSequence_frame (i : Fin 4) (e : Entry) :
    (s.completionSequence i e).pending = s.pending ∧ (s.completionSequence i e).now = s.now ∧
      (s.completionSequence i e).ownStation = s.ownStation ∧ (s.completionSequence i e).routes = s.routes ∧
      (s.completionSequence i e).headPort = s.headPort ∧ (s.completionSequence i e).travel = s.travel ∧
      (s.completionSequence i e).scans = s.scans ∧ (s.completionSequence i e).pressUnknown = s.pressUnknown ∧
      (s.completionSequence i e).cutInvalid = s.cutInvalid ∧
      (s.completionSequence i e).handler.requests = s.handler.requests ∧
      (s.completionSequence i e).handler.waiting = s.handler.waiting ∧
      (s.completionSequence i e).handler.restart = s.handler.restart ∧
      (s.completionSequence i e).handler.noticeTarget = s.handler.noticeTarget ∧
      (s.completionSequence i e).handler.counters.requestsDone = s.handler.counters.requestsDone ∧
      (s.completionSequence i e).handler.counters.requestsRefused = s.handler.counters.requestsRefused ∧
      (s.completionSequence i e).handler.counters.requestsBusy = s.handler.counters.requestsBusy ∧
      (s.completionSequence i e).handler.counters.busyUnsent = s.handler.counters.busyUnsent ∧
      (s.completionSequence i e).linePort.parser = s.linePort.parser ∧
      (s.completionSequence i e).linePort.counters = s.linePort.counters ∧
      (s.completionSequence i e).linePort.adviceTurn = s.linePort.adviceTurn ∧
      (s.completionSequence i e).linePort.pieceTurn = s.linePort.pieceTurn := by
  simp [State.completionSequence]

@[simp] theorem State.completionSequence_other {i : Fin 4} (e : Entry) {j : Fin 4} (hj : j ≠ i) :
    (s.completionSequence i e).strand j = s.strand j := by
  simp [State.completionSequence, hj]

@[simp] theorem State.completionSequence_setup (i : Fin 4) (e : Entry) (j : Fin 4) :
    ((s.completionSequence i e).strand j).setup = (s.strand j).setup := by
  simp [State.completionSequence]

@[simp] theorem State.completionSequence_mount (i : Fin 4) (e : Entry) (q : Fin 16) :
    ((s.completionSequence i e).head q).mount = (s.head q).mount := by
  simp [State.completionSequence]

@[simp] theorem State.completeEvaluation_frame (i : Fin 4) (ev : Evaluation) :
    (s.completeEvaluation i ev).pending = s.pending ∧ (s.completeEvaluation i ev).now = s.now ∧
      (s.completeEvaluation i ev).ownStation = s.ownStation ∧ (s.completeEvaluation i ev).routes = s.routes ∧
      (s.completeEvaluation i ev).headPort = s.headPort ∧ (s.completeEvaluation i ev).travel = s.travel ∧
      (s.completeEvaluation i ev).scans = s.scans ∧ (s.completeEvaluation i ev).pressUnknown = s.pressUnknown ∧
      (s.completeEvaluation i ev).cutInvalid = s.cutInvalid ∧
      (s.completeEvaluation i ev).handler.requests = s.handler.requests ∧
      (s.completeEvaluation i ev).handler.waiting = s.handler.waiting ∧
      (s.completeEvaluation i ev).handler.restart = s.handler.restart ∧
      (s.completeEvaluation i ev).handler.noticeTarget = s.handler.noticeTarget ∧
      (s.completeEvaluation i ev).handler.counters.requestsDone = s.handler.counters.requestsDone ∧
      (s.completeEvaluation i ev).handler.counters.requestsRefused = s.handler.counters.requestsRefused ∧
      (s.completeEvaluation i ev).handler.counters.requestsBusy = s.handler.counters.requestsBusy ∧
      (s.completeEvaluation i ev).handler.counters.busyUnsent = s.handler.counters.busyUnsent ∧
      (s.completeEvaluation i ev).linePort.parser = s.linePort.parser ∧
      (s.completeEvaluation i ev).linePort.counters = s.linePort.counters ∧
      (s.completeEvaluation i ev).linePort.adviceTurn = s.linePort.adviceTurn ∧
      (s.completeEvaluation i ev).linePort.pieceTurn = s.linePort.pieceTurn := by
  simp [State.completeEvaluation]

@[simp] theorem State.completeEvaluation_other {i : Fin 4} (ev : Evaluation) {j : Fin 4} (hj : j ≠ i) :
    (s.completeEvaluation i ev).strand j = s.strand j := by
  simp [State.completeEvaluation, hj]

@[simp] theorem State.completeEvaluation_setup (i : Fin 4) (ev : Evaluation) (j : Fin 4) :
    ((s.completeEvaluation i ev).strand j).setup = (s.strand j).setup := by
  simp [State.completeEvaluation]

@[simp] theorem State.completeEvaluation_mount (i : Fin 4) (ev : Evaluation) (q : Fin 16) :
    ((s.completeEvaluation i ev).head q).mount = (s.head q).mount := by
  simp [State.completeEvaluation]

end Sys2Proof.Machine
end

