-- ==== Sys2Proof/Laws/Travel.lean ====
section
/-! SUPPORT. What the operations of the Travel Unit and of the press notices leave as it is: for each operation, the fields
of the state that it keeps, what it keeps of the Request Handler, and the configuration of the strands and of the heads. -/

namespace Sys2Proof.Machine

variable (s : State)

@[simp] theorem Travel.advance_config (t : Travel) (d : Nat) : (t.advance d).config = t.config := by
  simp only [Travel.advance]; split <;> rfl

@[simp] theorem Travel.reverse_config (t : Travel) (d : Nat) : (t.reverse d).config = t.config := by rfl

@[simp] theorem Travel.countRecord_config (t : Travel) (p : Puller) : (t.countRecord p).config = t.config := by
  cases p <;> rfl

@[simp] theorem Travel.setRef_config (t : Travel) (p : Puller) (c : Word32) : (t.setRef p c).config = t.config := by
  cases p <;> rfl

@[simp] theorem State.issueTrigger_frame (i : Fin 4) (k : Nat) :
    (s.issueTrigger i k).pending = s.pending ∧ (s.issueTrigger i k).now = s.now ∧
      (s.issueTrigger i k).ownStation = s.ownStation ∧ (s.issueTrigger i k).routes = s.routes ∧
      (s.issueTrigger i k).travel = s.travel ∧ (s.issueTrigger i k).scans = s.scans ∧
      (s.issueTrigger i k).pressUnknown = s.pressUnknown ∧ (s.issueTrigger i k).cutInvalid = s.cutInvalid ∧
      (s.issueTrigger i k).handler.requests = s.handler.requests ∧
      (s.issueTrigger i k).handler.waiting = s.handler.waiting ∧
      (s.issueTrigger i k).handler.restart = s.handler.restart ∧
      (s.issueTrigger i k).handler.noticeTarget = s.handler.noticeTarget ∧
      (s.issueTrigger i k).handler.counters.requestsDone = s.handler.counters.requestsDone ∧
      (s.issueTrigger i k).handler.counters.requestsRefused = s.handler.counters.requestsRefused ∧
      (s.issueTrigger i k).handler.counters.requestsBusy = s.handler.counters.requestsBusy ∧
      (s.issueTrigger i k).handler.counters.busyUnsent = s.handler.counters.busyUnsent ∧
      (s.issueTrigger i k).linePort.parser = s.linePort.parser ∧
      (s.issueTrigger i k).linePort.counters = s.linePort.counters ∧
      (s.issueTrigger i k).linePort.adviceTurn = s.linePort.adviceTurn ∧
      (s.issueTrigger i k).linePort.pieceTurn = s.linePort.pieceTurn := by
  simp [State.issueTrigger]

@[simp] theorem State.issueTrigger_other {i : Fin 4} (k : Nat) {j : Fin 4} (hj : j ≠ i) :
    (s.issueTrigger i k).strand j = s.strand j := by
  simp [State.issueTrigger, hj]

@[simp] theorem State.issueTrigger_setup (i : Fin 4) (k : Nat) (j : Fin 4) :
    ((s.issueTrigger i k).strand j).setup = (s.strand j).setup := by
  simp [State.issueTrigger]

@[simp] theorem State.issueTrigger_mount (i : Fin 4) (k : Nat) (q : Fin 16) :
    ((s.issueTrigger i k).head q).mount = (s.head q).mount := by
  simp [State.issueTrigger]

@[simp] theorem State.crossing_frame (i : Fin 4) :
    (s.crossing i).pending = s.pending ∧ (s.crossing i).now = s.now ∧ (s.crossing i).ownStation = s.ownStation ∧
      (s.crossing i).routes = s.routes ∧ (s.crossing i).travel = s.travel ∧ (s.crossing i).scans = s.scans ∧
      (s.crossing i).pressUnknown = s.pressUnknown ∧ (s.crossing i).cutInvalid = s.cutInvalid ∧
      (s.crossing i).handler.requests = s.handler.requests ∧ (s.crossing i).handler.waiting = s.handler.waiting ∧
      (s.crossing i).handler.restart = s.handler.restart ∧
      (s.crossing i).handler.noticeTarget = s.handler.noticeTarget ∧
      (s.crossing i).handler.counters.requestsDone = s.handler.counters.requestsDone ∧
      (s.crossing i).handler.counters.requestsRefused = s.handler.counters.requestsRefused ∧
      (s.crossing i).handler.counters.requestsBusy = s.handler.counters.requestsBusy ∧
      (s.crossing i).handler.counters.busyUnsent = s.handler.counters.busyUnsent ∧
      (s.crossing i).linePort.parser = s.linePort.parser ∧ (s.crossing i).linePort.counters = s.linePort.counters ∧
      (s.crossing i).linePort.adviceTurn = s.linePort.adviceTurn ∧
      (s.crossing i).linePort.pieceTurn = s.linePort.pieceTurn := by
  simp only [State.crossing]; (repeat' split) <;> simp

@[simp] theorem State.crossing_other {i : Fin 4} {j : Fin 4} (hj : j ≠ i) :
    (s.crossing i).strand j = s.strand j := by
  simp only [State.crossing]; (repeat' split) <;> simp [hj]

@[simp] theorem State.crossing_setup (i : Fin 4) (j : Fin 4) :
    ((s.crossing i).strand j).setup = (s.strand j).setup := by
  simp only [State.crossing]; (repeat' split) <;> simp

@[simp] theorem State.crossing_mount (i : Fin 4) (q : Fin 16) :
    ((s.crossing i).head q).mount = (s.head q).mount := by
  simp only [State.crossing]; (repeat' split) <;> simp

@[simp] theorem State.informStrand_frame (i : Fin 4) :
    (s.informStrand i).pending = s.pending ∧ (s.informStrand i).now = s.now ∧
      (s.informStrand i).ownStation = s.ownStation ∧ (s.informStrand i).routes = s.routes ∧
      (s.informStrand i).travel = s.travel ∧ (s.informStrand i).scans = s.scans ∧
      (s.informStrand i).pressUnknown = s.pressUnknown ∧ (s.informStrand i).cutInvalid = s.cutInvalid ∧
      (s.informStrand i).handler.requests = s.handler.requests ∧
      (s.informStrand i).handler.waiting = s.handler.waiting ∧
      (s.informStrand i).handler.restart = s.handler.restart ∧
      (s.informStrand i).handler.noticeTarget = s.handler.noticeTarget ∧
      (s.informStrand i).handler.counters.requestsDone = s.handler.counters.requestsDone ∧
      (s.informStrand i).handler.counters.requestsRefused = s.handler.counters.requestsRefused ∧
      (s.informStrand i).handler.counters.requestsBusy = s.handler.counters.requestsBusy ∧
      (s.informStrand i).handler.counters.busyUnsent = s.handler.counters.busyUnsent ∧
      (s.informStrand i).linePort.parser = s.linePort.parser ∧
      (s.informStrand i).linePort.counters = s.linePort.counters ∧
      (s.informStrand i).linePort.adviceTurn = s.linePort.adviceTurn ∧
      (s.informStrand i).linePort.pieceTurn = s.linePort.pieceTurn := by
  simp only [State.informStrand]; split <;> simp

@[simp] theorem State.informStrand_other {i : Fin 4} {j : Fin 4} (hj : j ≠ i) :
    (s.informStrand i).strand j = s.strand j := by
  simp only [State.informStrand]; split <;> simp [hj]

@[simp] theorem State.informStrand_setup (i : Fin 4) (j : Fin 4) :
    ((s.informStrand i).strand j).setup = (s.strand j).setup := by
  simp only [State.informStrand]; split <;> simp

@[simp] theorem State.informStrand_mount (i : Fin 4) (q : Fin 16) :
    ((s.informStrand i).head q).mount = (s.head q).mount := by
  simp only [State.informStrand]; split <;> simp

@[simp] theorem State.limitReached_frame :
    (s.limitReached).pending = s.pending ∧ (s.limitReached).now = s.now ∧
      (s.limitReached).ownStation = s.ownStation ∧ (s.limitReached).routes = s.routes ∧
      (s.limitReached).headPort = s.headPort ∧ (s.limitReached).scans = s.scans ∧
      (s.limitReached).pressUnknown = s.pressUnknown ∧ (s.limitReached).cutInvalid = s.cutInvalid ∧
      (s.limitReached).handler.requests = s.handler.requests ∧ (s.limitReached).handler.waiting = s.handler.waiting ∧
      (s.limitReached).handler.restart = s.handler.restart ∧
      (s.limitReached).handler.noticeTarget = s.handler.noticeTarget ∧
      (s.limitReached).handler.counters.requestsDone = s.handler.counters.requestsDone ∧
      (s.limitReached).handler.counters.requestsRefused = s.handler.counters.requestsRefused ∧
      (s.limitReached).handler.counters.requestsBusy = s.handler.counters.requestsBusy ∧
      (s.limitReached).handler.counters.busyUnsent = s.handler.counters.busyUnsent ∧
      (s.limitReached).linePort.parser = s.linePort.parser ∧
      (s.limitReached).linePort.counters = s.linePort.counters ∧
      (s.limitReached).linePort.adviceTurn = s.linePort.adviceTurn ∧
      (s.limitReached).linePort.pieceTurn = s.linePort.pieceTurn ∧ (s.limitReached).travel.config = s.travel.config := by
  unfold State.limitReached; split <;> simp [allStrands]

@[simp] theorem State.limitReached_setup (j : Fin 4) :
    ((s.limitReached).strand j).setup = (s.strand j).setup := by
  unfold State.limitReached; split <;> simp [allStrands]

@[simp] theorem State.limitReached_mount (q : Fin 16) :
    ((s.limitReached).head q).mount = (s.head q).mount := by
  unfold State.limitReached; split <;> simp [allStrands]

@[simp] theorem State.increase_frame :
    (s.increase).pending = s.pending ∧ (s.increase).now = s.now ∧ (s.increase).ownStation = s.ownStation ∧
      (s.increase).routes = s.routes ∧ (s.increase).scans = s.scans ∧ (s.increase).pressUnknown = s.pressUnknown ∧
      (s.increase).cutInvalid = s.cutInvalid ∧ (s.increase).handler.requests = s.handler.requests ∧
      (s.increase).handler.waiting = s.handler.waiting ∧ (s.increase).handler.restart = s.handler.restart ∧
      (s.increase).handler.noticeTarget = s.handler.noticeTarget ∧
      (s.increase).handler.counters.requestsDone = s.handler.counters.requestsDone ∧
      (s.increase).handler.counters.requestsRefused = s.handler.counters.requestsRefused ∧
      (s.increase).handler.counters.requestsBusy = s.handler.counters.requestsBusy ∧
      (s.increase).handler.counters.busyUnsent = s.handler.counters.busyUnsent ∧
      (s.increase).linePort.parser = s.linePort.parser ∧ (s.increase).linePort.counters = s.linePort.counters ∧
      (s.increase).linePort.adviceTurn = s.linePort.adviceTurn ∧
      (s.increase).linePort.pieceTurn = s.linePort.pieceTurn ∧ (s.increase).travel.config = s.travel.config := by
  simp [State.increase, allStrands]

@[simp] theorem State.increase_setup (j : Fin 4) :
    ((s.increase).strand j).setup = (s.strand j).setup := by
  simp [State.increase, allStrands]

@[simp] theorem State.increase_mount (q : Fin 16) :
    ((s.increase).head q).mount = (s.head q).mount := by
  simp [State.increase, allStrands]

@[simp] theorem State.advance_frame (d : Nat) :
    (s.advance d).pending = s.pending ∧ (s.advance d).now = s.now ∧ (s.advance d).ownStation = s.ownStation ∧
      (s.advance d).routes = s.routes ∧ (s.advance d).scans = s.scans ∧ (s.advance d).pressUnknown = s.pressUnknown ∧
      (s.advance d).cutInvalid = s.cutInvalid ∧ (s.advance d).handler.requests = s.handler.requests ∧
      (s.advance d).handler.waiting = s.handler.waiting ∧ (s.advance d).handler.restart = s.handler.restart ∧
      (s.advance d).handler.noticeTarget = s.handler.noticeTarget ∧
      (s.advance d).handler.counters.requestsDone = s.handler.counters.requestsDone ∧
      (s.advance d).handler.counters.requestsRefused = s.handler.counters.requestsRefused ∧
      (s.advance d).handler.counters.requestsBusy = s.handler.counters.requestsBusy ∧
      (s.advance d).handler.counters.busyUnsent = s.handler.counters.busyUnsent ∧
      (s.advance d).linePort.parser = s.linePort.parser ∧ (s.advance d).linePort.counters = s.linePort.counters ∧
      (s.advance d).linePort.adviceTurn = s.linePort.adviceTurn ∧
      (s.advance d).linePort.pieceTurn = s.linePort.pieceTurn ∧ (s.advance d).travel.config = s.travel.config := by
  simp only [State.advance]; (repeat' split) <;> simp

@[simp] theorem State.advance_setup (d : Nat) (j : Fin 4) :
    ((s.advance d).strand j).setup = (s.strand j).setup := by
  simp only [State.advance]; split <;> simp

@[simp] theorem State.advance_mount (d : Nat) (q : Fin 16) :
    ((s.advance d).head q).mount = (s.head q).mount := by
  simp only [State.advance]; split <;> simp

@[simp] theorem State.jump_frame (p : Puller) (c : Word32) (d : Int) :
    (s.jump p c d).pending = s.pending ∧ (s.jump p c d).now = s.now ∧ (s.jump p c d).ownStation = s.ownStation ∧
      (s.jump p c d).routes = s.routes ∧ (s.jump p c d).headPort = s.headPort ∧ (s.jump p c d).heads = s.heads ∧
      (s.jump p c d).strands = s.strands ∧ (s.jump p c d).scans = s.scans ∧
      (s.jump p c d).pressUnknown = s.pressUnknown ∧ (s.jump p c d).cutInvalid = s.cutInvalid ∧
      (s.jump p c d).handler.requests = s.handler.requests ∧ (s.jump p c d).handler.waiting = s.handler.waiting ∧
      (s.jump p c d).handler.restart = s.handler.restart ∧
      (s.jump p c d).handler.noticeTarget = s.handler.noticeTarget ∧
      (s.jump p c d).handler.counters.requestsDone = s.handler.counters.requestsDone ∧
      (s.jump p c d).handler.counters.requestsRefused = s.handler.counters.requestsRefused ∧
      (s.jump p c d).handler.counters.requestsBusy = s.handler.counters.requestsBusy ∧
      (s.jump p c d).handler.counters.busyUnsent = s.handler.counters.busyUnsent ∧
      (s.jump p c d).linePort.parser = s.linePort.parser ∧ (s.jump p c d).linePort.counters = s.linePort.counters ∧
      (s.jump p c d).linePort.adviceTurn = s.linePort.adviceTurn ∧
      (s.jump p c d).linePort.pieceTurn = s.linePort.pieceTurn ∧ (s.jump p c d).travel.config = s.travel.config := by
  simp [State.jump]

@[simp] theorem State.jump_strand (p : Puller) (c : Word32) (d : Int) (j : Fin 4) :
    (s.jump p c d).strand j = s.strand j :=
  State.strand_of_strands (by simp) j

@[simp] theorem State.jump_head (p : Puller) (c : Word32) (d : Int) (q : Fin 16) : (s.jump p c d).head q = s.head q :=
  State.head_of_heads (by simp) q

@[simp] theorem State.judgeDelta_frame (p : Puller) (c : Word32) (d : Int) :
    (s.judgeDelta p c d).pending = s.pending ∧ (s.judgeDelta p c d).now = s.now ∧
      (s.judgeDelta p c d).ownStation = s.ownStation ∧ (s.judgeDelta p c d).routes = s.routes ∧
      (s.judgeDelta p c d).scans = s.scans ∧ (s.judgeDelta p c d).pressUnknown = s.pressUnknown ∧
      (s.judgeDelta p c d).cutInvalid = s.cutInvalid ∧ (s.judgeDelta p c d).handler.requests = s.handler.requests ∧
      (s.judgeDelta p c d).handler.waiting = s.handler.waiting ∧
      (s.judgeDelta p c d).handler.restart = s.handler.restart ∧
      (s.judgeDelta p c d).handler.noticeTarget = s.handler.noticeTarget ∧
      (s.judgeDelta p c d).handler.counters.requestsDone = s.handler.counters.requestsDone ∧
      (s.judgeDelta p c d).handler.counters.requestsRefused = s.handler.counters.requestsRefused ∧
      (s.judgeDelta p c d).handler.counters.requestsBusy = s.handler.counters.requestsBusy ∧
      (s.judgeDelta p c d).handler.counters.busyUnsent = s.handler.counters.busyUnsent ∧
      (s.judgeDelta p c d).linePort.parser = s.linePort.parser ∧
      (s.judgeDelta p c d).linePort.counters = s.linePort.counters ∧
      (s.judgeDelta p c d).linePort.adviceTurn = s.linePort.adviceTurn ∧
      (s.judgeDelta p c d).linePort.pieceTurn = s.linePort.pieceTurn ∧
      (s.judgeDelta p c d).travel.config = s.travel.config := by
  simp only [State.judgeDelta]; (repeat' split) <;> simp

@[simp] theorem State.judgeDelta_setup (p : Puller) (c : Word32) (d : Int) (j : Fin 4) :
    ((s.judgeDelta p c d).strand j).setup = (s.strand j).setup := by
  simp only [State.judgeDelta]; (repeat' split) <;> simp

@[simp] theorem State.judgeDelta_mount (p : Puller) (c : Word32) (d : Int) (q : Fin 16) :
    ((s.judgeDelta p c d).head q).mount = (s.head q).mount := by
  simp only [State.judgeDelta]; (repeat' split) <;> simp

@[simp] theorem State.travelRecord_frame (p : Puller) (c : Word32) :
    (s.travelRecord p c).pending = s.pending ∧ (s.travelRecord p c).now = s.now ∧
      (s.travelRecord p c).ownStation = s.ownStation ∧ (s.travelRecord p c).routes = s.routes ∧
      (s.travelRecord p c).scans = s.scans ∧ (s.travelRecord p c).pressUnknown = s.pressUnknown ∧
      (s.travelRecord p c).cutInvalid = s.cutInvalid ∧ (s.travelRecord p c).handler.requests = s.handler.requests ∧
      (s.travelRecord p c).handler.waiting = s.handler.waiting ∧
      (s.travelRecord p c).handler.restart = s.handler.restart ∧
      (s.travelRecord p c).handler.noticeTarget = s.handler.noticeTarget ∧
      (s.travelRecord p c).handler.counters.requestsDone = s.handler.counters.requestsDone ∧
      (s.travelRecord p c).handler.counters.requestsRefused = s.handler.counters.requestsRefused ∧
      (s.travelRecord p c).handler.counters.requestsBusy = s.handler.counters.requestsBusy ∧
      (s.travelRecord p c).handler.counters.busyUnsent = s.handler.counters.busyUnsent ∧
      (s.travelRecord p c).linePort.parser = s.linePort.parser ∧
      (s.travelRecord p c).linePort.counters = s.linePort.counters ∧
      (s.travelRecord p c).linePort.adviceTurn = s.linePort.adviceTurn ∧
      (s.travelRecord p c).linePort.pieceTurn = s.linePort.pieceTurn ∧
      (s.travelRecord p c).travel.config = s.travel.config := by
  simp only [State.travelRecord]; (repeat' split) <;> simp

@[simp] theorem State.travelRecord_setup (p : Puller) (c : Word32) (j : Fin 4) :
    ((s.travelRecord p c).strand j).setup = (s.strand j).setup := by
  simp only [State.travelRecord]; (repeat' split) <;> simp

@[simp] theorem State.travelRecord_mount (p : Puller) (c : Word32) (q : Fin 16) :
    ((s.travelRecord p c).head q).mount = (s.head q).mount := by
  simp only [State.travelRecord]; (repeat' split) <;> simp

@[simp] theorem State.handover_frame (n : Nat) :
    (s.handover n).pending = s.pending ∧ (s.handover n).now = s.now ∧ (s.handover n).ownStation = s.ownStation ∧
      (s.handover n).routes = s.routes ∧ (s.handover n).headPort = s.headPort ∧ (s.handover n).linePort = s.linePort ∧
      (s.handover n).heads = s.heads ∧ (s.handover n).strands = s.strands ∧ (s.handover n).scans = s.scans ∧
      (s.handover n).pressUnknown = s.pressUnknown ∧ (s.handover n).cutInvalid = s.cutInvalid ∧
      (s.handover n).handler = s.handler ∧ (s.handover n).travel.config = s.travel.config := by
  simp only [State.handover]; (repeat' split) <;> simp

@[simp] theorem State.handover_strand (n : Nat) (j : Fin 4) : (s.handover n).strand j = s.strand j :=
  State.strand_of_strands (by simp) j

@[simp] theorem State.handover_head (n : Nat) (q : Fin 16) : (s.handover n).head q = s.head q :=
  State.head_of_heads (by simp) q

@[simp] theorem State.stallStrand_frame (i : Fin 4) :
    (s.stallStrand i).pending = s.pending ∧ (s.stallStrand i).now = s.now ∧
      (s.stallStrand i).ownStation = s.ownStation ∧ (s.stallStrand i).routes = s.routes ∧
      (s.stallStrand i).headPort = s.headPort ∧ (s.stallStrand i).heads = s.heads ∧
      (s.stallStrand i).travel = s.travel ∧ (s.stallStrand i).scans = s.scans ∧
      (s.stallStrand i).pressUnknown = s.pressUnknown ∧ (s.stallStrand i).cutInvalid = s.cutInvalid ∧
      (s.stallStrand i).handler.requests = s.handler.requests ∧
      (s.stallStrand i).handler.waiting = s.handler.waiting ∧ (s.stallStrand i).handler.restart = s.handler.restart ∧
      (s.stallStrand i).handler.noticeTarget = s.handler.noticeTarget ∧
      (s.stallStrand i).handler.counters.requestsDone = s.handler.counters.requestsDone ∧
      (s.stallStrand i).handler.counters.requestsRefused = s.handler.counters.requestsRefused ∧
      (s.stallStrand i).handler.counters.requestsBusy = s.handler.counters.requestsBusy ∧
      (s.stallStrand i).handler.counters.busyUnsent = s.handler.counters.busyUnsent ∧
      (s.stallStrand i).linePort.parser = s.linePort.parser ∧
      (s.stallStrand i).linePort.counters = s.linePort.counters ∧
      (s.stallStrand i).linePort.adviceTurn = s.linePort.adviceTurn ∧
      (s.stallStrand i).linePort.pieceTurn = s.linePort.pieceTurn := by
  simp only [State.stallStrand]; split <;> simp

@[simp] theorem State.stallStrand_head (i : Fin 4) (q : Fin 16) : (s.stallStrand i).head q = s.head q :=
  State.head_of_heads (by simp) q

@[simp] theorem State.stallStrand_other {i : Fin 4} {j : Fin 4} (hj : j ≠ i) :
    (s.stallStrand i).strand j = s.strand j := by
  simp only [State.stallStrand]; split <;> simp [hj]

@[simp] theorem State.stallStrand_setup (i : Fin 4) (j : Fin 4) :
    ((s.stallStrand i).strand j).setup = (s.strand j).setup := by
  simp only [State.stallStrand]; split <;> simp

@[simp] theorem State.stall_frame :
    (s.stall).pending = s.pending ∧ (s.stall).now = s.now ∧ (s.stall).ownStation = s.ownStation ∧
      (s.stall).routes = s.routes ∧ (s.stall).headPort = s.headPort ∧ (s.stall).heads = s.heads ∧
      (s.stall).scans = s.scans ∧ (s.stall).pressUnknown = s.pressUnknown ∧ (s.stall).cutInvalid = s.cutInvalid ∧
      (s.stall).handler.requests = s.handler.requests ∧ (s.stall).handler.waiting = s.handler.waiting ∧
      (s.stall).handler.restart = s.handler.restart ∧ (s.stall).handler.noticeTarget = s.handler.noticeTarget ∧
      (s.stall).handler.counters.requestsDone = s.handler.counters.requestsDone ∧
      (s.stall).handler.counters.requestsRefused = s.handler.counters.requestsRefused ∧
      (s.stall).handler.counters.requestsBusy = s.handler.counters.requestsBusy ∧
      (s.stall).handler.counters.busyUnsent = s.handler.counters.busyUnsent ∧
      (s.stall).linePort.parser = s.linePort.parser ∧ (s.stall).linePort.counters = s.linePort.counters ∧
      (s.stall).linePort.adviceTurn = s.linePort.adviceTurn ∧ (s.stall).linePort.pieceTurn = s.linePort.pieceTurn ∧
      (s.stall).travel.config = s.travel.config := by
  simp [State.stall, allStrands]

@[simp] theorem State.stall_head (q : Fin 16) : (s.stall).head q = s.head q :=
  State.head_of_heads (by simp) q

@[simp] theorem State.stall_setup (j : Fin 4) :
    ((s.stall).strand j).setup = (s.strand j).setup := by
  simp [State.stall, allStrands]

@[simp] theorem State.pressStop_frame (i : Fin 4) :
    (s.pressStop i).pending = s.pending ∧ (s.pressStop i).now = s.now ∧ (s.pressStop i).ownStation = s.ownStation ∧
      (s.pressStop i).routes = s.routes ∧ (s.pressStop i).headPort = s.headPort ∧ (s.pressStop i).heads = s.heads ∧
      (s.pressStop i).travel = s.travel ∧ (s.pressStop i).scans = s.scans ∧
      (s.pressStop i).pressUnknown = s.pressUnknown ∧ (s.pressStop i).cutInvalid = s.cutInvalid ∧
      (s.pressStop i).handler.requests = s.handler.requests ∧ (s.pressStop i).handler.waiting = s.handler.waiting ∧
      (s.pressStop i).handler.restart = s.handler.restart ∧
      (s.pressStop i).handler.noticeTarget = s.handler.noticeTarget ∧
      (s.pressStop i).handler.counters.requestsDone = s.handler.counters.requestsDone ∧
      (s.pressStop i).handler.counters.requestsRefused = s.handler.counters.requestsRefused ∧
      (s.pressStop i).handler.counters.requestsBusy = s.handler.counters.requestsBusy ∧
      (s.pressStop i).handler.counters.busyUnsent = s.handler.counters.busyUnsent ∧
      (s.pressStop i).linePort.parser = s.linePort.parser ∧ (s.pressStop i).linePort.counters = s.linePort.counters ∧
      (s.pressStop i).linePort.adviceTurn = s.linePort.adviceTurn ∧
      (s.pressStop i).linePort.pieceTurn = s.linePort.pieceTurn := by
  simp [State.pressStop]

@[simp] theorem State.pressStop_head (i : Fin 4) (q : Fin 16) : (s.pressStop i).head q = s.head q :=
  State.head_of_heads (by simp) q

@[simp] theorem State.pressStop_other {i : Fin 4} {j : Fin 4} (hj : j ≠ i) :
    (s.pressStop i).strand j = s.strand j := by
  simp [State.pressStop, hj]

@[simp] theorem State.pressStop_setup (i : Fin 4) (j : Fin 4) :
    ((s.pressStop i).strand j).setup = (s.strand j).setup := by
  simp [State.pressStop]

@[simp] theorem State.billetChange_frame (i : Fin 4) :
    (s.billetChange i).pending = s.pending ∧ (s.billetChange i).now = s.now ∧
      (s.billetChange i).ownStation = s.ownStation ∧ (s.billetChange i).routes = s.routes ∧
      (s.billetChange i).headPort = s.headPort ∧ (s.billetChange i).heads = s.heads ∧
      (s.billetChange i).travel = s.travel ∧ (s.billetChange i).scans = s.scans ∧
      (s.billetChange i).pressUnknown = s.pressUnknown ∧ (s.billetChange i).cutInvalid = s.cutInvalid ∧
      (s.billetChange i).handler.requests = s.handler.requests ∧
      (s.billetChange i).handler.waiting = s.handler.waiting ∧
      (s.billetChange i).handler.restart = s.handler.restart ∧
      (s.billetChange i).handler.noticeTarget = s.handler.noticeTarget ∧
      (s.billetChange i).handler.counters.requestsDone = s.handler.counters.requestsDone ∧
      (s.billetChange i).handler.counters.requestsRefused = s.handler.counters.requestsRefused ∧
      (s.billetChange i).handler.counters.requestsBusy = s.handler.counters.requestsBusy ∧
      (s.billetChange i).handler.counters.busyUnsent = s.handler.counters.busyUnsent ∧
      (s.billetChange i).linePort.parser = s.linePort.parser ∧
      (s.billetChange i).linePort.counters = s.linePort.counters ∧
      (s.billetChange i).linePort.adviceTurn = s.linePort.adviceTurn ∧
      (s.billetChange i).linePort.pieceTurn = s.linePort.pieceTurn := by
  simp only [State.billetChange]; split <;> simp

@[simp] theorem State.billetChange_head (i : Fin 4) (q : Fin 16) : (s.billetChange i).head q = s.head q :=
  State.head_of_heads (by simp) q

@[simp] theorem State.billetChange_other {i : Fin 4} {j : Fin 4} (hj : j ≠ i) :
    (s.billetChange i).strand j = s.strand j := by
  simp only [State.billetChange]; split <;> simp [hj]

@[simp] theorem State.billetChange_setup (i : Fin 4) (j : Fin 4) :
    ((s.billetChange i).strand j).setup = (s.strand j).setup := by
  simp only [State.billetChange]; split <;> simp

@[simp] theorem State.takePress_frame (k : PressKind) (i : Fin 4) :
    (State.takePress k s i).pending = s.pending ∧ (State.takePress k s i).now = s.now ∧
      (State.takePress k s i).ownStation = s.ownStation ∧ (State.takePress k s i).routes = s.routes ∧
      (State.takePress k s i).headPort = s.headPort ∧ (State.takePress k s i).travel = s.travel ∧
      (State.takePress k s i).scans = s.scans ∧ (State.takePress k s i).pressUnknown = s.pressUnknown ∧
      (State.takePress k s i).cutInvalid = s.cutInvalid ∧
      (State.takePress k s i).handler.requests = s.handler.requests ∧
      (State.takePress k s i).handler.waiting = s.handler.waiting ∧
      (State.takePress k s i).handler.restart = s.handler.restart ∧
      (State.takePress k s i).handler.noticeTarget = s.handler.noticeTarget ∧
      (State.takePress k s i).handler.counters.requestsDone = s.handler.counters.requestsDone ∧
      (State.takePress k s i).handler.counters.requestsRefused = s.handler.counters.requestsRefused ∧
      (State.takePress k s i).handler.counters.requestsBusy = s.handler.counters.requestsBusy ∧
      (State.takePress k s i).handler.counters.busyUnsent = s.handler.counters.busyUnsent ∧
      (State.takePress k s i).linePort.parser = s.linePort.parser ∧
      (State.takePress k s i).linePort.counters = s.linePort.counters ∧
      (State.takePress k s i).linePort.adviceTurn = s.linePort.adviceTurn ∧
      (State.takePress k s i).linePort.pieceTurn = s.linePort.pieceTurn := by
  simp only [State.takePress]; (repeat' split) <;> simp

@[simp] theorem State.takePress_other (k : PressKind) {i : Fin 4} {j : Fin 4} (hj : j ≠ i) :
    (State.takePress k s i).strand j = s.strand j := by
  simp only [State.takePress]; (repeat' split) <;> simp [hj]

@[simp] theorem State.takePress_setup (k : PressKind) (i : Fin 4) (j : Fin 4) :
    ((State.takePress k s i).strand j).setup = (s.strand j).setup := by
  simp only [State.takePress]; (repeat' split) <;> simp

@[simp] theorem State.takePress_mount (k : PressKind) (i : Fin 4) (q : Fin 16) :
    ((State.takePress k s i).head q).mount = (s.head q).mount := by
  simp only [State.takePress]; (repeat' split) <;> simp

@[simp] theorem State.pressNotice_frame (n : Nat) :
    (s.pressNotice n).pending = s.pending ∧ (s.pressNotice n).now = s.now ∧
      (s.pressNotice n).ownStation = s.ownStation ∧ (s.pressNotice n).routes = s.routes ∧
      (s.pressNotice n).headPort = s.headPort ∧ (s.pressNotice n).travel = s.travel ∧
      (s.pressNotice n).scans = s.scans ∧ (s.pressNotice n).cutInvalid = s.cutInvalid ∧
      (s.pressNotice n).handler.requests = s.handler.requests ∧
      (s.pressNotice n).handler.waiting = s.handler.waiting ∧ (s.pressNotice n).handler.restart = s.handler.restart ∧
      (s.pressNotice n).handler.noticeTarget = s.handler.noticeTarget ∧
      (s.pressNotice n).handler.counters.requestsDone = s.handler.counters.requestsDone ∧
      (s.pressNotice n).handler.counters.requestsRefused = s.handler.counters.requestsRefused ∧
      (s.pressNotice n).handler.counters.requestsBusy = s.handler.counters.requestsBusy ∧
      (s.pressNotice n).handler.counters.busyUnsent = s.handler.counters.busyUnsent ∧
      (s.pressNotice n).linePort.parser = s.linePort.parser ∧
      (s.pressNotice n).linePort.counters = s.linePort.counters ∧
      (s.pressNotice n).linePort.adviceTurn = s.linePort.adviceTurn ∧
      (s.pressNotice n).linePort.pieceTurn = s.linePort.pieceTurn := by
  unfold State.pressNotice; split <;> simp [allStrands]

@[simp] theorem State.pressNotice_setup (n : Nat) (j : Fin 4) :
    ((s.pressNotice n).strand j).setup = (s.strand j).setup := by
  unfold State.pressNotice; split <;> simp [allStrands]

@[simp] theorem State.pressNotice_mount (n : Nat) (q : Fin 16) :
    ((s.pressNotice n).head q).mount = (s.head q).mount := by
  unfold State.pressNotice; split <;> simp [allStrands]

end Sys2Proof.Machine
end

