-- ==== Sys2Proof/Laws/LinePort.lean ====
section
/-! SUPPORT. The frames that stand in the Line Port stay there: every operation but a transmission's end only adds records and lets
an idle transmitter make one selection (R12, R15, R17). One lemma for each operation that may add a record. -/

namespace Sys2Proof.Machine

theorem LineGrows.refl (p : LinePort) : LineGrows p p := ⟨[], .inl ⟨rfl, by simp, rfl, rfl⟩⟩

/-- One operation after another: at most one of them finds the transmitter idle and lets it select. -/
theorem LineGrows.trans {p q r : LinePort} (h : LineGrows p q) (k : LineGrows q r) : LineGrows p r := by
  obtain ⟨a, ⟨h1, h2, h3, h4⟩ | ⟨h1, x, h2, h3, h4, h5⟩ | ⟨h1, x, h2, h3, h4, h5⟩⟩ := h <;>
  obtain ⟨b, ⟨k1, k2, k3, k4⟩ | ⟨k1, y, k2, k3, k4, k5⟩ | ⟨k1, y, k2, k3, k4, k5⟩⟩ := k
  · exact ⟨a ++ b, .inl ⟨k1.trans h1, by rw [k2, h2, List.append_assoc], k3.trans h3, k4.trans h4⟩⟩
  · exact ⟨a ++ b, .inr (.inl ⟨h1.symm.trans k1, y, k2, by rw [← List.append_assoc, ← h2, k3], k4.trans h3, k5⟩)⟩
  · exact ⟨a ++ b, .inr (.inr ⟨h1.symm.trans k1, y, k2, by rw [k3, h2, List.append_assoc], h3.symm.trans k4, k5⟩)⟩
  · refine ⟨a ++ b, .inr (.inl ⟨h1, x, k1.trans h2, ?_, k3.trans h4, k4.trans h5⟩)⟩
    rw [k2, ← List.append_assoc, h3, List.cons_append]
  · rw [h2] at k1; cases k1
  · rw [h2] at k1; cases k1
  · exact ⟨a ++ b, .inr (.inr ⟨h1, x, k1.trans h2, by rw [k2, h3, List.append_assoc], by rw [h4, k3], k4.trans h5⟩)⟩
  · rw [h2] at k1; cases k1
  · rw [h2] at k1; cases k1

/-- Operations done in a row, one for each element of a list. -/
theorem foldl_lineGrows {α : Type} {f : State → α → State} (h : ∀ s a, LineGrows s.linePort (f s a).linePort) :
    ∀ (l : List α) (s : State), LineGrows s.linePort (l.foldl f s).linePort
  | [], _ => .refl _
  | a :: l, s => (h s a).trans (foldl_lineGrows h l (f s a))

/-- A change of a strand that comes after. -/
theorem LineGrows.modStrand {p : LinePort} {u : State} {i : Fin 4} {f : Strand → Strand} (h : LineGrows p u.linePort) :
    LineGrows p (u.modStrand i f).linePort := h

variable (s : State)

/-! ## Records, notices and advice -/

theorem State.kickLine_lineGrows : LineGrows s.linePort s.kickLine.linePort := by
  unfold State.kickLine
  split
  · next h =>
    have ht : s.linePort.tx = none := by simpa using h.1
    show LineGrows s.linePort s.linePort.select
    unfold LinePort.select
    split
    · exact .refl _
    · next r rest ho hf => exact ⟨[], .inr (.inl ⟨ht, r, rfl, by simp [ho], by simp [hf], rfl⟩)⟩
    · next f rest ho hf => exact ⟨[], .inr (.inr ⟨ht, f, rfl, by simp [ho], hf, rfl⟩)⟩
    · next r rest f rest' ho hf =>
      split
      · exact ⟨[], .inr (.inl ⟨ht, r, rfl, by simp [ho], rfl, rfl⟩)⟩
      · exact ⟨[], .inr (.inr ⟨ht, f, rfl, by simp, hf, rfl⟩)⟩
  · exact .refl _

theorem State.enqueueRecord_lineGrows (r : Record) : LineGrows s.linePort (s.enqueueRecord r).linePort :=
  .trans (q := { s.linePort with own := s.linePort.own ++ [r] }) ⟨[r], .inl ⟨rfl, rfl, rfl, rfl⟩⟩
    (State.kickLine_lineGrows { s with linePort := { s.linePort with own := s.linePort.own ++ [r] } })

theorem State.raise_lineGrows (n : Notice) : LineGrows s.linePort (s.raise n).linePort := by
  unfold State.raise
  dsimp only
  split
  · exact State.enqueueRecord_lineGrows s.takeNoticeNumber _
  · exact ⟨[], .inl ⟨rfl, by simp [State.takeNoticeNumber], rfl, rfl⟩⟩

theorem State.issueAdvice_lineGrows (i : Fin 4) (kind : AdviceKind) (cls : ConditionClass) (a b : Nat) :
    LineGrows s.linePort (s.issueAdvice i kind cls a b).linePort := by
  unfold State.issueAdvice
  dsimp only
  split
  · exact State.enqueueRecord_lineGrows (s.modStrand i _) _
  · exact .refl _

theorem State.changeStrand_lineGrows (i : Fin 4) (x : StrandState) :
    LineGrows s.linePort (s.changeStrand i x).linePort := by
  unfold State.changeStrand
  dsimp only
  split
  · exact .refl _
  · exact State.raise_lineGrows (s.modStrand i _) _

theorem State.idleCheck_lineGrows (i : Fin 4) : LineGrows s.linePort (s.idleCheck i).linePort := by
  unfold State.idleCheck
  dsimp only
  split
  · exact State.changeStrand_lineGrows (s.modStrand i _) i _
  · exact .refl _

/-! ## Heads and switches -/

theorem State.takeSwitch_lineGrows (i : Fin 4) (p : PendingSwitch) (k : Option Nat) :
    LineGrows s.linePort (s.takeSwitch i p k).linePort := State.raise_lineGrows (s.switchBanks i) _

theorem State.decideSwitch_lineGrows (i : Fin 4) (k : Nat) : LineGrows s.linePort (s.decideSwitch i k).linePort := by
  unfold State.decideSwitch
  split
  · split
    · split
      · exact State.takeSwitch_lineGrows s i _ _
      · exact .refl _
    · exact .refl _
  · exact .refl _

theorem State.replaceHead_lineGrows (h : Fin 16) (r : HeadRecord) :
    LineGrows s.linePort (s.replaceHead h r).linePort := by
  unfold State.replaceHead
  dsimp only
  split
  · exact .refl _
  · exact State.raise_lineGrows (s.setHead h r) _

theorem State.holdHead_lineGrows (h : Fin 16) : LineGrows s.linePort (s.holdHead h).linePort :=
  State.replaceHead_lineGrows (s.enqueueControl (.hold h)) h _

theorem State.expireRelease_lineGrows (h : Fin 16) : LineGrows s.linePort (s.expireRelease h).linePort :=
  State.replaceHead_lineGrows (s.enqueueControl (.release h)) h _

theorem State.beginRelease_lineGrows (h : Fin 16) : LineGrows s.linePort (s.beginRelease h).linePort := by
  unfold State.beginRelease
  dsimp only
  split
  · exact (State.replaceHead_lineGrows s h _).trans (State.expireRelease_lineGrows _ h)
  · exact State.replaceHead_lineGrows s h _

theorem State.faultHead_lineGrows (h : Fin 16) (c : FaultCause) : LineGrows s.linePort (s.faultHead h c).linePort :=
  State.raise_lineGrows (s.setHead h _) _

theorem State.noticeReannounced_lineGrows (h : Fin 16) (old : HeadRecord) (a : Announced) :
    LineGrows s.linePort (s.noticeReannounced h old a).linePort := by
  unfold State.noticeReannounced
  (repeat' split) <;> first | exact State.raise_lineGrows s _ | exact .refl _

theorem State.unseedHead_lineGrows (h : Fin 16) : LineGrows s.linePort (s.unseedHead h).linePort := by
  unfold State.unseedHead
  split <;> exact .refl _

theorem State.validAnnounce_lineGrows (h : Fin 16) (a : Announced) :
    LineGrows s.linePort (s.validAnnounce h a).linePort := by
  unfold State.validAnnounce
  dsimp only
  split
  · exact (State.replaceHead_lineGrows s h _).trans
      ((State.noticeReannounced_lineGrows _ h _ a).trans (State.unseedHead_lineGrows _ h))
  · exact State.replaceHead_lineGrows s h _

theorem State.announce_lineGrows (h : Fin 16) (p : List Byte) : LineGrows s.linePort (s.announce h p).linePort := by
  unfold State.announce
  split
  · exact .refl _
  · split
    · exact State.validAnnounce_lineGrows s h _
    · exact State.faultHead_lineGrows s h _

theorem State.reportMiss_lineGrows (h : Fin 16) : LineGrows s.linePort (s.reportMiss h).linePort := by
  unfold State.reportMiss
  dsimp only
  split
  · split
    · exact State.replaceHead_lineGrows (s.modHead h _) h _
    · exact .refl _
  all_goals exact .refl _

theorem State.refreshHead_lineGrows (i : Fin 4) (h : Fin 16) :
    LineGrows s.linePort (State.refreshHead i s h).linePort := by
  unfold State.refreshHead
  dsimp only
  split
  · exact State.replaceHead_lineGrows s h _
  · exact .refl _

theorem State.refreshHeads_lineGrows (i : Fin 4) : LineGrows s.linePort (s.refreshHeads i).linePort :=
  foldl_lineGrows (fun s h => State.refreshHead_lineGrows s i h) _ s

/-! ## The map and the pieces -/

theorem State.adviseRun_lineGrows (i : Fin 4) (r : Run) : LineGrows s.linePort (s.adviseRun i r).linePort := by
  unfold State.adviseRun
  split
  · exact State.issueAdvice_lineGrows s i _ _ _ _
  · exact .refl _

theorem State.closeOpenRun_lineGrows (i : Fin 4) (n : Nat) : LineGrows s.linePort (s.closeOpenRun i n).linePort := by
  unfold State.closeOpenRun
  split
  · exact .refl _
  · exact State.adviseRun_lineGrows (s.modStrand i _) i _

theorem State.enterSlice_lineGrows (i : Fin 4) (e : Entry) : LineGrows s.linePort (s.enterSlice i e).linePort := by
  have turn (r : Run) : LineGrows s.linePort (s.turnOrMerge i r e).linePort := by
    unfold State.turnOrMerge
    split
    · unfold State.mergeSlice
      dsimp only
      split
      · exact .refl _
      · exact State.raise_lineGrows (s.modStrand i _) _
    · exact State.closeOpenRun_lineGrows s i _
  unfold State.enterSlice
  dsimp only
  (repeat' split) <;> first | exact turn _ | exact .refl _

theorem State.enterSkipped_lineGrows (i : Fin 4) (k n : Nat) :
    LineGrows s.linePort (s.enterSkipped i k n).linePort := by
  induction n generalizing s k with
  | zero => exact .refl _
  | succ n ih => exact (State.enterSlice_lineGrows s i _).trans (ih _ _)

theorem State.raiseRuns_lineGrows (i : Fin 4) (m : Mark) (region : Nat × Nat) :
    LineGrows s.linePort (s.raiseRuns i m region).linePort := by
  unfold State.raiseRuns
  dsimp only
  split
  · exact State.raise_lineGrows (s.modStrand i _) _
  · exact .refl _

theorem State.splitRuns_lineGrows (i : Fin 4) (m : Mark) (region : Nat × Nat) :
    LineGrows s.linePort (s.splitRuns i m region).linePort :=
  foldl_lineGrows (fun s r => State.adviseRun_lineGrows s i r) _ (s.modStrand i _)

theorem State.applyBack_lineGrows (i : Fin 4) (m : Mark) : LineGrows s.linePort (s.applyBack i m).linePort := by
  unfold State.applyBack
  extract_lets st region t
  have h : LineGrows s.linePort t.linePort := by
    show LineGrows s.linePort (State.linePort (if m.start < st.retired then _ else s))
    split
    · exact .modStrand (.refl _)
    · exact .refl _
  split
  · exact h
  · split
    · exact h.trans (State.raiseRuns_lineGrows t i m region)
    · exact h.trans (State.splitRuns_lineGrows t i m region)

theorem State.giveMark_lineGrows (i : Fin 4) (m : Mark) : LineGrows s.linePort (s.giveMark i m).linePort := by
  have h : LineGrows s.linePort ((s.modStrand i fun st =>
      { st with mapCounters.marksMade := inc st.mapCounters.marksMade }).issueAdvice i m.kind.advice m.kind.cls m.start
        m.stop).linePort := State.issueAdvice_lineGrows (s.modStrand i _) i _ _ _ _
  unfold State.giveMark
  dsimp only
  (repeat' split) <;> first | exact h.trans (State.applyBack_lineGrows _ i m) | exact h

theorem State.offerPiece_lineGrows (i : Fin 4) : LineGrows s.linePort (s.offerPiece i).linePort := by
  unfold State.offerPiece
  (repeat' split) <;> first | exact State.enqueueRecord_lineGrows (s.modStrand i _) _ | exact .refl _

theorem State.addTail_lineGrows (i : Fin 4) (x : Nat) : LineGrows s.linePort (s.addTail i x).linePort := by
  unfold State.addTail
  dsimp only
  (repeat' split) <;> first | exact .refl _ | exact State.raise_lineGrows (s.modStrand i _) _

theorem State.closeCut_lineGrows (i : Fin 4) (cut : Cut) : LineGrows s.linePort (s.closeCut i cut).linePort := by
  unfold State.closeCut
  extract_lets tail t u
  have ht : LineGrows s.linePort t.linePort := by
    show LineGrows s.linePort (State.linePort (if tail then s.addTail i cut.position else s))
    split
    · exact State.addTail_lineGrows s i _
    · exact .refl _
  have hu : LineGrows s.linePort u.linePort := ht.modStrand.trans (State.offerPiece_lineGrows _ i)
  exact hu.modStrand.trans (State.idleCheck_lineGrows _ i)

theorem State.closeCuts_lineGrows (i : Fin 4) (n : Nat) : LineGrows s.linePort (s.closeCuts i n).linePort := by
  induction n generalizing s with
  | zero => exact .refl _
  | succ n ih =>
    unfold State.closeCuts
    (repeat' split) <;> first | exact .refl _ | exact (State.closeCut_lineGrows s i _).trans (ih _)

theorem State.closeCheck_lineGrows (i : Fin 4) : LineGrows s.linePort (s.closeCheck i).linePort :=
  State.closeCuts_lineGrows s i _

theorem State.cutNotice_lineGrows (n x : Nat) : LineGrows s.linePort (s.cutNotice n x).linePort := by
  unfold State.cutNotice
  dsimp only
  split
  · exact .refl _
  · next i h =>
    (repeat' split) <;> first
      | exact .refl _ | exact State.raise_lineGrows (s.modStrand i _) _
      | exact State.closeCheck_lineGrows (s.modStrand i _) i

/-! ## The end of a run -/

theorem State.leaveDraining_lineGrows (i : Fin 4) : LineGrows s.linePort (s.leaveDraining i).linePort := by
  have h1 : LineGrows s.linePort (s.closeAtEnd i).linePort := by
    unfold State.closeAtEnd
    split
    · exact .refl _
    · exact State.closeOpenRun_lineGrows s i _
  have h2 (t : State) : LineGrows t.linePort (t.switchAtClose i).linePort := by
    unfold State.switchAtClose
    split
    · exact State.takeSwitch_lineGrows t i _ _
    · exact .refl _
  exact h1.trans ((h2 _).trans ((State.changeStrand_lineGrows _ i _).trans
    ((State.closeCheck_lineGrows _ i).trans (State.idleCheck_lineGrows _ i))))

theorem State.drainCheck_lineGrows (i : Fin 4) : LineGrows s.linePort (s.drainCheck i).linePort := by
  unfold State.drainCheck
  split
  · exact State.leaveDraining_lineGrows s i
  · exact .refl _

theorem State.endRun_lineGrows (i : Fin 4) : LineGrows s.linePort (s.endRun i).linePort := by
  unfold State.endRun
  split
  · exact (State.changeStrand_lineGrows s i _).trans (State.drainCheck_lineGrows _ i)
  · exact .refl _

/-! ## Slices -/

theorem State.releaseRule_lineGrows (i : Fin 4) : LineGrows s.linePort (s.releaseRule i).linePort := by
  unfold State.releaseRule
  (repeat' split) <;> first | exact .refl _ | exact State.decideSwitch_lineGrows (s.modStrand i _) i _

theorem State.reportMisses_lineGrows (i : Fin 4) (x : SliceSet) :
    LineGrows s.linePort (s.reportMisses i x).linePort := by
  refine foldl_lineGrows (fun s t => ?_) _ s
  unfold State.reportSlotMiss
  (repeat' split) <;> first | exact .refl _ | exact State.reportMiss_lineGrows s _

theorem State.timeOutSet_lineGrows (i : Fin 4) (x : SliceSet) : LineGrows s.linePort (s.timeOutSet i x).linePort :=
  (State.reportMisses_lineGrows (s.modStrand i _) i x).trans (State.releaseRule_lineGrows _ i)

theorem State.openSet_lineGrows (i : Fin 4) (k : Nat) (e : BitVec 6) :
    LineGrows s.linePort (s.openSet i k e).linePort := by
  have force : LineGrows s.linePort (s.forceOldest i).linePort := by
    unfold State.forceOldest
    (repeat' split) <;> first | exact .refl _ | exact State.reportMisses_lineGrows (s.modStrand i _) i _
  unfold State.openSet
  extract_lets t
  have h : LineGrows s.linePort t.linePort := by
    show LineGrows s.linePort
      (State.linePort (if (s.strand i).sets.length < setCapacity then s else (s.forceOldest i).releaseRule i))
    split
    · exact .refl _
    · exact force.trans (State.releaseRule_lineGrows _ i)
  split <;> exact h.modStrand

theorem State.acceptScan_lineGrows (h : Fin 16) (i : Fin 4) (t : Fin 6) (p : List Byte) :
    LineGrows s.linePort (s.acceptScan h i t p).linePort := by
  have complete (u : State) (k : Nat) : LineGrows u.linePort (u.completeSet i k).linePort := by
    unfold State.completeSet
    (repeat' split) <;> first | exact .refl _ | exact State.releaseRule_lineGrows (u.modStrand i _) i
  exact .trans (State.replaceHead_lineGrows (s.modStrand i _) h _) (complete _ _)

theorem State.scan_lineGrows (h : Fin 16) (p : List Byte) : LineGrows s.linePort (s.scan h p).linePort := by
  unfold State.scan
  split <;> first | exact .refl _ | exact State.acceptScan_lineGrows s h _ _ p

theorem State.handOver_lineGrows (i : Fin 4) (e : Entry) : LineGrows s.linePort (s.handOver i e).linePort := by
  unfold State.handOver
  extract_lets first n
  exact (LineGrows.modStrand (.refl _)).trans
    ((State.enterSkipped_lineGrows _ i _ _).trans (State.enterSlice_lineGrows _ i e))

theorem State.completeEvaluation_lineGrows (i : Fin 4) (ev : Evaluation) :
    LineGrows s.linePort (s.completeEvaluation i ev).linePort := by
  unfold State.completeEvaluation State.completionSequence
  extract_lets r
  exact ((LineGrows.modStrand (.refl _)).trans (State.handOver_lineGrows _ i _)).modStrand.trans
    ((State.closeCheck_lineGrows _ i).trans ((State.releaseRule_lineGrows _ i).trans (State.drainCheck_lineGrows _ i)))

/-! ## Travel and press -/

theorem State.issueTrigger_lineGrows (i : Fin 4) (k : Nat) : LineGrows s.linePort (s.issueTrigger i k).linePort := by
  unfold State.issueTrigger
  extract_lets t
  have h : LineGrows s.linePort (t.enqueueTrigger (.trigger i k (s.headMask i))).linePort := by
    rw [State.enqueueTrigger_linePort]
    exact .modStrand (.refl _)
  exact h.trans (State.openSet_lineGrows _ i _ _)

theorem State.crossing_lineGrows (i : Fin 4) : LineGrows s.linePort (s.crossing i).linePort := by
  unfold State.crossing
  extract_lets k t
  have h : LineGrows s.linePort t.linePort := .modStrand (.refl _)
  split
  · split
    · exact h.trans (State.issueTrigger_lineGrows t i k)
    · exact h.modStrand
  · exact h

theorem State.informStrand_lineGrows (i : Fin 4) : LineGrows s.linePort (s.informStrand i).linePort := by
  unfold State.informStrand
  split
  · exact (State.changeStrand_lineGrows s i _).trans (State.crossing_lineGrows _ i)
  · exact (State.changeStrand_lineGrows s i _).trans (State.crossing_lineGrows _ i)
  · exact State.crossing_lineGrows s i
  all_goals exact .refl _

theorem State.limitReached_lineGrows : LineGrows s.linePort s.limitReached.linePort := by
  unfold State.limitReached
  split
  · have h := State.raise_lineGrows { s with travel.limitReached := true } (.lengthLimit s.travel.length)
    exact h.trans (foldl_lineGrows (fun s i => State.endRun_lineGrows s i) _ _)
  · exact .refl _

theorem State.increase_lineGrows : LineGrows s.linePort s.increase.linePort := by
  have h := foldl_lineGrows (fun s i => State.informStrand_lineGrows s i) allStrands
    { s with travel := { s.travel with moving := true, lastAdvance := some s.now } }
  exact h.trans (State.limitReached_lineGrows _)

theorem State.judgeDelta_lineGrows (p : Puller) (c : Word32) (d : Int) :
    LineGrows s.linePort (s.judgeDelta p c d).linePort := by
  unfold State.judgeDelta
  split
  · exact State.raise_lineGrows { s with travel.counters.jumps := inc s.travel.counters.jumps } _
  · split
    · exact .refl _
    · split
      · unfold State.advance
        extract_lets t
        split
        · exact State.increase_lineGrows t
        · exact .refl _
      · exact .refl _

theorem State.travelRecord_lineGrows (p : Puller) (c : Word32) :
    LineGrows s.linePort (s.travelRecord p c).linePort := by
  unfold State.travelRecord
  extract_lets t
  split
  · exact .refl _
  · split
    · exact State.judgeDelta_lineGrows t p c _
    · exact .refl _

theorem State.stall_lineGrows : LineGrows s.linePort s.stall.linePort := by
  refine foldl_lineGrows (fun s i => ?_) allStrands { s with travel.moving := false }
  unfold State.stallStrand
  split
  · exact State.changeStrand_lineGrows s i _
  · exact .refl _

theorem State.takePress_lineGrows (k : PressKind) (i : Fin 4) :
    LineGrows s.linePort (State.takePress k s i).linePort := by
  unfold State.takePress
  split
  · split
    · exact State.giveMark_lineGrows (s.modStrand i _) i _
    · unfold State.billetChange
      dsimp only
      split
      · exact State.giveMark_lineGrows (s.modStrand i _) i _
      · exact .refl _
    · exact .refl _
    · exact State.endRun_lineGrows (s.modStrand i _) i
  · exact .refl _

theorem State.pressNotice_lineGrows (n : Nat) : LineGrows s.linePort (s.pressNotice n).linePort := by
  unfold State.pressNotice
  split
  · exact foldl_lineGrows (fun s i => State.takePress_lineGrows s _ i) _ s
  · exact .refl _

/-! ## Requests -/

theorem State.offerReply_lineGrows (r : Reply) : LineGrows s.linePort (s.offerReply r).linePort := by
  unfold State.offerReply
  split
  · exact State.enqueueRecord_lineGrows { s with handler := _ } _
  · exact .refl _

theorem State.finish_lineGrows (r : Request) (a : Answer) : LineGrows s.linePort (s.finish r a).linePort :=
  State.offerReply_lineGrows (s.countRequest a.status) _

theorem State.startStrand_lineGrows (i : Fin 4) : LineGrows s.linePort (s.startStrand i).linePort :=
  (State.refreshHeads_lineGrows (s.modStrand i _) i).trans (State.changeStrand_lineGrows _ i _)

theorem State.requestRelease_lineGrows (h : Fin 16) : LineGrows s.linePort (s.requestRelease h).1.linePort := by
  unfold State.requestRelease
  split <;> first
    | exact .refl _ | exact State.beginRelease_lineGrows s h
    | exact (State.holdHead_lineGrows s h).trans (State.beginRelease_lineGrows _ h)

end Sys2Proof.Machine
end

