-- ==== Sys2Proof/Laws/Requests.lean ====
section
/-! SUPPORT. Carrying out a request: what a served command does, and what forming its reply changes (R154, R155, R164). -/

namespace Sys2Proof.Machine

variable (s : State)

/-! ### A record enters the Line Port -/

/-- The record that entered last is the latest record. -/
theorem State.kickLine_latest (h : s.linePort.own.getLast? = some r) : s.kickLine.latestRecord = some r := by
  unfold State.kickLine
  split
  · unfold LinePort.select State.latestRecord
    cases ho : s.linePort.own with
    | nil => simp [ho] at h
    | cons x rest =>
      rw [ho] at h
      cases s.linePort.forward <;> cases s.linePort.prefer <;> cases rest <;> simp_all
  · simp [State.latestRecord, h]

/-- A record that took an entry is the latest record. -/
@[simp] theorem State.enqueueRecord_latest (r : Record) : (s.enqueueRecord r).latestRecord = some r :=
  State.kickLine_latest _ (by simp)

/-- A record that takes an entry is the one record that joins the Line Port. -/
theorem State.enqueueRecord_entered (r : Record) : Entered s r (s.enqueueRecord r).linePort := by
  refine ⟨fun h => ?_, fun h1 h2 => ⟨fun f rest hf hp => ?_, fun hp x rest hx => ?_⟩⟩
  · have : ¬(s.linePort.tx.isNone = true ∧ s.handler.restart ≠ .due) := by
      rintro ⟨a, b⟩; simp_all
    unfold State.enqueueRecord State.kickLine
    exact congrArg State.linePort (if_neg this)
  · obtain ⟨x, rest', hx⟩ : ∃ x rest', s.linePort.own ++ [r] = x :: rest' := by cases s.linePort.own <;> simp
    simp [State.enqueueRecord, State.kickLine, h1, h2, LinePort.select, hx, hf, hp]
  · rcases hf : s.linePort.forward with - | ⟨f, fs⟩
    · simp [State.enqueueRecord, State.kickLine, h1, h2, LinePort.select, hx, hf]
    · have hp : s.linePort.prefer = .own := by simpa [hf] using hp
      simp [State.enqueueRecord, State.kickLine, h1, h2, LinePort.select, hx, hf, hp]

@[simp] theorem State.kickLine_noticeDrop : s.kickLine.linePort.noticeDrop = s.linePort.noticeDrop := by
  unfold State.kickLine; split <;> simp

@[simp] theorem State.enqueueRecord_noticeDrop (r : Record) :
    (s.enqueueRecord r).linePort.noticeDrop = s.linePort.noticeDrop := by simp [State.enqueueRecord]

/-! ### Counting and answering -/

theorem HandlerCounters.count_eq (c : HandlerCounters) (st : Status) :
    c.count st = { c with
      requestsDone := if st = .accepted ∨ st = .acceptedClamped then inc c.requestsDone else c.requestsDone,
      requestsRefused := if st = .accepted ∨ st = .acceptedClamped then c.requestsRefused else inc c.requestsRefused } := by
  cases st <;> rfl

@[simp] theorem State.countRequest_requests (st : Status) :
    (s.countRequest st).handler.requests = s.handler.requests := rfl
@[simp] theorem State.countRequest_waiting (st : Status) : (s.countRequest st).handler.waiting = s.handler.waiting := rfl
@[simp] theorem State.countRequest_restart (st : Status) : (s.countRequest st).handler.restart = s.handler.restart := rfl
@[simp] theorem State.countRequest_noticeTarget (st : Status) :
    (s.countRequest st).handler.noticeTarget = s.handler.noticeTarget := rfl
@[simp] theorem State.countRequest_noticeSeq (st : Status) :
    (s.countRequest st).handler.noticeSeq = s.handler.noticeSeq := rfl
@[simp] theorem State.countRequest_counters (st : Status) :
    (s.countRequest st).handler.counters = s.handler.counters.count st := rfl

/-- Offering a reply changes only the Line Port and the handler's queue. -/
@[simp] theorem State.offerReply_frame (r : Reply) :
    (s.offerReply r).pending = s.pending ∧ (s.offerReply r).now = s.now ∧
      (s.offerReply r).ownStation = s.ownStation ∧ (s.offerReply r).scans = s.scans ∧
      (s.offerReply r).pressUnknown = s.pressUnknown ∧ (s.offerReply r).cutInvalid = s.cutInvalid ∧
      (s.offerReply r).routes = s.routes ∧ (s.offerReply r).headPort = s.headPort ∧ (s.offerReply r).heads = s.heads ∧
      (s.offerReply r).travel = s.travel ∧ (s.offerReply r).strands = s.strands ∧
      (s.offerReply r).linePort.parser = s.linePort.parser ∧
      (s.offerReply r).linePort.counters = s.linePort.counters ∧
      (s.offerReply r).linePort.adviceTurn = s.linePort.adviceTurn ∧
      (s.offerReply r).linePort.pieceTurn = s.linePort.pieceTurn ∧
      (s.offerReply r).linePort.noticeDrop = s.linePort.noticeDrop ∧
      (s.offerReply r).handler.restart = s.handler.restart ∧
      (s.offerReply r).handler.noticeTarget = s.handler.noticeTarget ∧
      (s.offerReply r).handler.noticeSeq = s.handler.noticeSeq ∧
      (s.offerReply r).handler.counters = s.handler.counters := by
  unfold State.offerReply; split <;> simp

@[simp] theorem State.offerReply_strand (r : Reply) (i : Fin 4) : (s.offerReply r).strand i = s.strand i :=
  State.strand_of_strands (by simp) i

@[simp] theorem State.offerReply_head (r : Reply) (k : Fin 16) : (s.offerReply r).head k = s.head k :=
  State.head_of_heads (by simp) k

/-- Where no reply waits, an offered reply has entered the Line Port and its request has left the queue, or it waits. -/
theorem State.offerReply_answers (r : Reply) (h : s.handler.waiting = none) :
    (s.offerReply r).latestReply = some r ∧
      ((s.offerReply r).handler.waiting = none ∧ (s.offerReply r).handler.requests = s.handler.requests.tail ∨
        (s.offerReply r).handler.waiting = some r ∧ (s.offerReply r).handler.requests = s.handler.requests) := by
  unfold State.offerReply; split
  · simp [State.latestReply, h]
  · simp [State.latestReply]

/-- Answering a request changes only the Line Port and the handler. -/
@[simp] theorem State.finish_frame (r : Request) (a : Answer) :
    (s.finish r a).pending = s.pending ∧ (s.finish r a).now = s.now ∧ (s.finish r a).ownStation = s.ownStation ∧
      (s.finish r a).scans = s.scans ∧ (s.finish r a).pressUnknown = s.pressUnknown ∧
      (s.finish r a).cutInvalid = s.cutInvalid ∧ (s.finish r a).routes = s.routes ∧
      (s.finish r a).headPort = s.headPort ∧ (s.finish r a).heads = s.heads ∧ (s.finish r a).travel = s.travel ∧
      (s.finish r a).strands = s.strands ∧ (s.finish r a).linePort.parser = s.linePort.parser ∧
      (s.finish r a).linePort.counters = s.linePort.counters ∧
      (s.finish r a).linePort.adviceTurn = s.linePort.adviceTurn ∧
      (s.finish r a).linePort.pieceTurn = s.linePort.pieceTurn ∧
      (s.finish r a).linePort.noticeDrop = s.linePort.noticeDrop ∧
      (s.finish r a).handler.restart = s.handler.restart ∧
      (s.finish r a).handler.noticeTarget = s.handler.noticeTarget ∧
      (s.finish r a).handler.noticeSeq = s.handler.noticeSeq ∧
      (s.finish r a).handler.counters = s.handler.counters.count a.status := by
  simp [State.finish]

@[simp] theorem State.finish_strand (r : Request) (a : Answer) (i : Fin 4) : (s.finish r a).strand i = s.strand i :=
  State.strand_of_strands (by simp) i

@[simp] theorem State.finish_head (r : Request) (a : Answer) (k : Fin 16) : (s.finish r a).head k = s.head k :=
  State.head_of_heads (by simp) k

/-- The state `u`, reached from `s` by the action of the oldest request, is answered: what the statements call carried out. -/
theorem State.finish_carriedOut {s u : State} (r : Request) (a : Answer) (h : s.handler.waiting = none)
    (hw : u.handler.waiting = s.handler.waiting) (hr : u.handler.requests = s.handler.requests)
    (hc : u.handler.counters.requestsDone = s.handler.counters.requestsDone ∧
      u.handler.counters.requestsRefused = s.handler.counters.requestsRefused ∧
      u.handler.counters.requestsBusy = s.handler.counters.requestsBusy ∧
      u.handler.counters.busyUnsent = s.handler.counters.busyUnsent)
    (hl : SameLine s u) (hs : SameRest s u) : CarriedOut s (u.finish r a) r a := by
  have ha := State.offerReply_answers (u.countRequest a.status) (r.reply a) (by simp [hw, h])
  simp only [State.countRequest_requests, hr] at ha
  obtain ⟨h1, h2, h3, h4, h5⟩ := hl
  refine ⟨ha, ?_, ⟨?_, ?_, ?_, ?_, h5.trans (State.finish_lineGrows u r a)⟩, ?_⟩
  · simp [Counted, HandlerCounters.count_eq, hc]
  · simp [h1]
  · simp [h2]
  · simp [h3]
  · simp [h4]
  · simp [SameRest, hs]

/-- Only the Line Port and the phase of a RESTART decide what an entry does. -/
theorem Entered.of_same {s u : State} {r : Record} {q : LinePort} (h : Entered u r q) (hl : u.linePort = s.linePort)
    (hr : u.handler.restart = s.handler.restart) : Entered s r q := by
  unfold Entered at *
  rwa [hl, hr] at h

/-- An answer is one record for the Line Port. -/
theorem State.finish_oneReply {s u : State} (r : Request) (a : Answer) (h : s.handler.waiting = none)
    (hh : u.handler = s.handler) (hl : u.linePort = s.linePort) : OneReply s (u.finish r a) r a := by
  refine ⟨fun hr => ?_, fun hr => ?_⟩
  · have e := State.enqueueRecord_entered
      { u.countRequest a.status with
        handler := { (u.countRequest a.status).handler with
          requests := (u.countRequest a.status).handler.requests.drop 1 } } (.reply (r.reply a))
    have room : (u.countRequest a.status).lineHasRoom = true := by
      simp [State.lineHasRoom, lineOwnCapacity, State.countRequest, hl, hr]
    refine ⟨by simp [State.finish, State.offerReply, room, h, hh], ?_⟩
    have f : (u.finish r a).linePort = _ := congrArg State.linePort (if_pos room)
    rw [f]
    exact e.of_same hl (by simp [hh])
  · have room : (u.countRequest a.status).lineHasRoom = false := by
      simp [State.lineHasRoom, lineOwnCapacity, State.countRequest, hl, hr]
    have f : u.finish r a = _ := if_neg (ne_true_of_eq_false room)
    rw [f]
    exact ⟨rfl, hl⟩

/-- The same, where the action raised no notice and left the handler's tables. -/
theorem State.finish_quietly {s u : State} (r : Request) (a : Answer) (h : s.handler.waiting = none)
    (hh : u.handler = s.handler) (hl : u.linePort = s.linePort) (hs : SameRest s u) :
    CarriedOutQuietly s (u.finish r a) r a := by
  refine ⟨State.finish_carriedOut r a h (by rw [hh]) (by rw [hh]) (by rw [hh]; simp)
    ⟨by rw [hl], by rw [hl], by rw [hl], by rw [hl], by rw [hl]; exact .refl _⟩ hs, ?_, ?_, State.finish_oneReply r a h hh hl⟩ <;>
    simp [SameHandling, NoNotice, HandlerCounters.count_eq, hh, hl]

/-- Where nothing but the answer happened. -/
theorem State.finish_onlyAnswered (r : Request) (a : Answer) (h : s.handler.waiting = none) :
    OnlyAnswered s (s.finish r a) r a :=
  ⟨State.finish_quietly r a h rfl rfl (by simp [SameRest]), by simp⟩

/-! ### Serving -/

/-- The request that may be carried out is the oldest one, where the handler is free. -/
theorem State.ready_of_serves {s : State} {r : Request} {c : Instr} (h : Serves s r c) : s.ready c = some r := by
  obtain ⟨hw, hp, hr, hc⟩ := h
  cases hq : s.handler.requests with
  | nil => simp [hq] at hr
  | cons x rest =>
    rw [hq] at hr
    obtain rfl : x = r := by simpa using hr
    simp [State.ready, hq, State.handlerFree, hw, hp, hc]

theorem State.serves_of_ready {s : State} {r : Request} {c : Instr} (h : s.ready c = some r) : Serves s r c := by
  unfold State.ready at h
  cases hq : s.handler.requests with
  | nil => simp [hq] at h
  | cons x rest =>
    simp only [hq, State.handlerFree, Bool.and_eq_true, decide_eq_true_eq, Option.isNone_iff_eq_none] at h
    split at h
    · next hx => obtain ⟨⟨hw, hp⟩, hc⟩ := hx; cases h; exact ⟨hw, hp, by simp [hq], hc⟩
    · cases h

/-- A served request is refused for the class NONE, and else does what its block does, and is answered. -/
theorem State.carryOut_of_serves {s : State} {r : Request} {c : Instr} (act : Request → State → State × Answer)
    (h : Serves s r c) : s.carryOut c act =
      if r.sourceClass = .none then s.finish r { status := .notPermitted } else (act r s).1.finish r (act r s).2 := by
  simp [State.carryOut, State.ready_of_serves h]

/-- A served request of another class than NONE, whose action is known. -/
theorem State.carryOut_eq {s u : State} {r : Request} {c : Instr} {a : Answer} {act : Request → State → State × Answer}
    (h : Serves s r c) (hc : r.sourceClass ≠ .none) (ha : act r s = (u, a)) : s.carryOut c act = u.finish r a := by
  rw [State.carryOut_of_serves act h, if_neg hc, ha]

/-- A served request whose action changes nothing. -/
theorem State.carryOut_only {s : State} {r : Request} {c : Instr} {a : Answer} {act : Request → State → State × Answer}
    (h : Serves s r c) (hc : r.sourceClass ≠ .none) (ha : act r s = (s, a)) : OnlyAnswered s (s.carryOut c act) r a := by
  rw [State.carryOut_eq h hc ha]; exact s.finish_onlyAnswered r a h.1

/-- A command that is not served changes nothing. -/
theorem State.carryOut_of_not_serves {s : State} {c : Instr} (act : Request → State → State × Answer)
    (h : ∀ r, ¬Serves s r c) : s.carryOut c act = s := by
  cases hr : s.ready c with
  | none => simp [State.carryOut, hr]
  | some r => exact absurd (State.serves_of_ready hr) (h r)

/-! ### Indices -/

@[simp] theorem strandOfNat_val (i : Fin 4) : strandOfNat i = some i := by simp [strandOfNat]
@[simp] theorem headOfNat_val (h : Fin 16) : headOfNat h = some h := by simp [headOfNat]
@[simp] theorem slotOfNat_val (t : Fin 6) : slotOfNat t = some t := by simp [slotOfNat]
@[simp] theorem entryOfNat_val (e : Fin 64) : entryOfNat e = some e := by simp [entryOfNat]
@[simp] theorem stationOfNat_val (n : Fin 64) : stationOfNat n = some n := by simp [stationOfNat]
@[simp] theorem bankOfCode_code (id : BankId) : bankOfCode id.code = some id := by cases id <;> rfl
@[simp] theorem actionOfCode_code (a : RouteAction) : actionOfCode a.code = some a := by cases a <;> rfl
@[simp] theorem classOfCode_code (c : SourceClass) : classOfCode c.code = some c := by cases c <;> rfl
theorem strandOfNat_none {n : Nat} (h : 3 < n) : strandOfNat n = none := by simp [strandOfNat]; omega
theorem headOfNat_none {n : Nat} (h : 15 < n) : headOfNat n = none := by simp [headOfNat]; omega
theorem entryOfNat_none {n : Nat} (h : 63 < n) : entryOfNat n = none := by simp [entryOfNat]; omega
theorem stationOfNat_none {n : Nat} (h : 63 < n) : stationOfNat n = none := by simp [stationOfNat]; omega
theorem bankOfCode_none {n : Nat} (h : 1 < n) : bankOfCode n = none := by
  unfold bankOfCode; split <;> simp_all
theorem actionOfCode_none {n : Nat} (h : 1 < n) : actionOfCode n = none := by
  unfold actionOfCode; split <;> simp_all
theorem classOfCode_none {n : Nat} (h : 2 < n) : classOfCode n = none := by
  unfold classOfCode; split <;> simp_all

/-! ### The checks of an owning block -/

@[simp] theorem engineering_of_engineering {r : Request} (act : State → State × Answer) (h : r.sourceClass = .engineering) :
    engineering act r s = act s := by simp [engineering, h]

theorem engineering_refuses {r : Request} (act : State → State × Answer) (h : r.sourceClass ≠ .engineering) :
    engineering act r s = (s, { status := .notPermitted }) := by simp [engineering, h]

@[simp] theorem onStrand_val (i : Fin 4) (act : Fin 4 → State → State × Answer) : onStrand i act s = act i s := by
  simp [onStrand]

theorem onStrand_refuses {n : Nat} (act : Fin 4 → State → State × Answer) (h : 3 < n) :
    onStrand n act s = (s, { status := .outOfRange }) := by simp [onStrand, strandOfNat_none h, refusal]

@[simp] theorem onHead_val (h : Fin 16) (act : Fin 16 → State → State × Answer) : onHead h act s = act h s := by
  simp [onHead]

theorem onHead_refuses {n : Nat} (act : Fin 16 → State → State × Answer) (h : 15 < n) :
    onHead n act s = (s, { status := .outOfRange }) := by simp [onHead, headOfNat_none h, refusal]

@[simp] theorem onBank_val (i : Fin 4) (id : BankId) (act : Fin 4 → BankId → State → State × Answer) :
    onBank i id.code act s = act i id s := by simp [onBank]

theorem onBank_refuses {n b : Nat} (act : Fin 4 → BankId → State → State × Answer) (h : 3 < n ∨ 1 < b) :
    onBank n b act s = (s, { status := .outOfRange }) := by
  rcases h with h | h
  · simp [onBank, strandOfNat_none h, refusal]
  · simp only [onBank, bankOfCode_none h]; cases strandOfNat n <;> rfl

@[simp] theorem onEntry_val (i : Fin 4) (id : BankId) (e : Fin 64)
    (act : Fin 4 → BankId → Fin 64 → State → State × Answer) : onEntry i id.code e act s = act i id e s := by
  simp [onEntry]

theorem onEntry_refuses {n b e : Nat} (act : Fin 4 → BankId → Fin 64 → State → State × Answer)
    (h : 3 < n ∨ 1 < b ∨ 63 < e) : onEntry n b e act s = (s, { status := .outOfRange }) := by
  rcases h with h | h | h
  · exact onBank_refuses s _ (.inl h)
  · exact onBank_refuses s _ (.inr h)
  · simp only [onEntry, onBank, entryOfNat_none h, refusal]; cases strandOfNat n <;> cases bankOfCode b <;> rfl

end Sys2Proof.Machine
end

