-- ==== Sys2Proof/Laws/Reception.lean ====
section
/-! SUPPORT. What the bytes that complete a frame do at a port (R1, R4, R5). -/

namespace Sys2Proof.Machine

variable (port : Port)

@[simp] theorem State.setParser_setParser (s : State) (p q : Parser) :
    (s.setParser port p).setParser port q = s.setParser port q := by cases port <;> rfl

/-- The check bytes after which the frame is complete. -/
theorem State.receiveBytes_check (h : Header) (mode : CheckMode) (payload rest : List Byte) :
    ∀ (held : List Byte) (s : State), s.parser port = .check h mode payload held → rest ≠ [] →
      held.length + rest.length = mode.length →
      s.receiveBytes port rest = s.frameDone port h mode payload (held ++ rest) := by
  induction rest with
  | nil => intro held s _ hn; exact absurd rfl hn
  | cons x xs ih =>
    intro held s hp _ hl
    simp only [List.length_cons] at hl
    cases xs with
    | nil =>
      have : ¬held.length + 1 < mode.length := by simp at hl; omega
      simp [State.receiveBytes, State.receiveByte, hp, this]
    | cons y ys =>
      have : held.length + 1 < mode.length := by simp at hl; omega
      have e : s.receiveByte port x = s.setParser port (.check h mode payload (held ++ [x])) := by
        simp [State.receiveByte, hp, this]
      have := ih (held ++ [x]) (s.setParser port (.check h mode payload (held ++ [x]))) (by simp) (by simp)
        (by simp at hl ⊢; omega)
      rw [State.receiveBytes, List.foldl_cons, e]
      simpa [State.frameDone, State.receiveBytes] using this

/-- The payload bytes, up to the last. -/
theorem State.receiveBytes_payload (h : Header) (mode : CheckMode) (rest : List Byte) :
    ∀ (held : List Byte) (s : State), s.parser port = .payload h mode held → rest ≠ [] →
      held.length + rest.length = h.length →
      s.receiveBytes port rest = s.setParser port (.check h mode (held ++ rest) []) := by
  induction rest with
  | nil => intro held s _ hn; exact absurd rfl hn
  | cons x xs ih =>
    intro held s hp _ hl
    simp only [List.length_cons] at hl
    cases xs with
    | nil =>
      have : ¬held.length + 1 < h.length := by simp at hl; omega
      simp [State.receiveBytes, State.receiveByte, hp, this]
    | cons y ys =>
      have : held.length + 1 < h.length := by simp at hl; omega
      have e : s.receiveByte port x = s.setParser port (.payload h mode (held ++ [x])) := by
        simp [State.receiveByte, hp, this]
      have := ih (held ++ [x]) (s.setParser port (.payload h mode (held ++ [x]))) (by simp) (by simp)
        (by simp at hl ⊢; omega)
      rw [State.receiveBytes, List.foldl_cons, e]
      simpa [State.receiveBytes] using this

/-- The bytes that follow an accepted header complete the frame, and its payload check is judged. -/
theorem State.receiveBytes_tail (s : State) (h : Header) (mode : CheckMode) (payload check : List Byte)
    (hp : s.parser port = parserAfter h mode) (hl : payload.length = h.length) (hc : check.length = mode.length) :
    s.receiveBytes port (payload ++ check) = s.frameDone port h mode payload check := by
  have pos : check ≠ [] := by
    rintro rfl; cases mode <;> simp [CheckMode.length] at hc
  by_cases h0 : h.length = 0
  · have : payload = [] := List.length_eq_zero_iff.mp (hl.trans h0)
    subst this
    simpa using State.receiveBytes_check port h mode [] check [] s (by simp [hp, parserAfter, h0]) pos (by simpa using hc)
  · have e := State.receiveBytes_payload port h mode payload [] s (by simp [hp, parserAfter, h0])
      (by rintro rfl; exact h0 hl.symm) (by simpa using hl)
    have f := State.receiveBytes_check port h mode payload check [] (s.setParser port (.check h mode payload []))
      (by simp) pos (by simpa using hc)
    rw [State.receiveBytes, List.foldl_append]
    simp only [State.receiveBytes, List.nil_append] at e f
    rw [e, f]
    simp [State.frameDone]

/-- A frame whose header was accepted and whose check passes is a good frame when its last byte is received. -/
theorem State.receiveBytes_good {s : State} {f : Frame} {mode : CheckMode} (h : Awaits s port f mode) :
    s.receiveBytes port f.tailBytes = (s.setParser port .hunt).goodFrame port f := by
  rw [Frame.tailBytes, State.receiveBytes_tail port s _ mode f.payload f.check h.1 rfl h.2.1]
  simp [State.frameDone, h.2.2]

end Sys2Proof.Machine
end

