-- ==== Sys2Proof/Laws/Writes.lean ====
section
/-! SUPPORT. What a request that changes one strand does, and what a bank write answers (R83 to R85, R98). -/

namespace Sys2Proof.Machine

/-- A served request whose act changes one strand answers, raises no notice, and changes nothing but that strand. -/
theorem State.carryOut_modStrand {s : State} {r : Request} {c : Instr} {act : Request → State → State × Answer} (a : Answer)
    (i : Fin 4) (f : Strand → Strand) (hs : Serves s r c) (hc : r.sourceClass ≠ .none)
    (ha : act r s = (s.modStrand i f, a)) :
    let t := s.carryOut c act
    CarriedOutQuietly s t r a ∧ t.headPort = s.headPort ∧ t.heads = s.heads ∧ t.travel = s.travel ∧ t.routes = s.routes ∧
      OtherStrands s t i ∧ t.strand i = f (s.strand i) := by
  simp only [State.carryOut_eq hs hc ha]
  refine ⟨State.finish_quietly r a hs.1 (by simp) (by simp) (by simp [SameRest]), by simp, by simp, by simp, by simp, ?_,
    by simp⟩
  intro j hj
  simp [hj]

/-- What a bank write does after its class and index checks: the role is judged first, then the generation. -/
theorem State.bankWrite_spec (s : State) (i : Fin 4) (id : BankId) (n : Nat) (f : Bank → Bank) (clamped : Bool) :
    let st := s.strand i
    (st.role id = .active → s.bankWrite i id n f clamped = s.refuseWrite i .activeBank) ∧
      (st.role id = .pending → s.bankWrite i id n f clamped = s.refuseWrite i .pending) ∧
      (st.role id = .standby →
        ((st.bank id).generation ≠ n → s.bankWrite i id n f clamped = s.refuseWrite i .stale) ∧
        ((st.bank id).generation = n → n = 4294967295 → s.bankWrite i id n f clamped = s.refuseWrite i .outOfRange) ∧
        ((st.bank id).generation = n → n < 4294967295 →
          s.bankWrite i id n f clamped = (s.modStrand i fun st => st.writeBank id f, writtenAnswer clamped))) := by
  refine ⟨fun h => ?_, fun h => ?_, fun h => ⟨fun h1 => ?_, fun h1 h2 => ?_, fun h1 h2 => ?_⟩⟩
  · simp [State.bankWrite, Strand.writeRefusal, h]
  · simp [State.bankWrite, Strand.writeRefusal, h]
  · simp [State.bankWrite, Strand.writeRefusal, h, h1]
  · simp [State.bankWrite, Strand.writeRefusal, h, h1, h2, maxGeneration]
  · have : ¬n = 4294967295 := by omega
    simp [State.bankWrite, Strand.writeRefusal, h, h1, maxGeneration, this]

end Sys2Proof.Machine
end

