-- ==== Sys2Proof/Tests/Slice0.lean ====
section
/-! SUPPORT. Tests: ill-formed terms, the worked tables of the spec one step at a time, and for each statement that has
hypotheses a witness that meets them. The expected values of the `test_` theorems are those of the spec's tables. -/

namespace Sys2Proof.Tests

open Sys2Proof Sys2Proof.Machine

-- One theorem is checked at a time: each evaluates a whole state, and several at once take too much memory.
set_option Elab.async false

/-! ## Ill-formed terms -/

/-- Each check of the fields of a command refuses a value that does not fit its bytes. -/
theorem smoke_fields :
    WellFormed.code 256 = false ∧ WellFormed.short 65536 = false ∧ WellFormed.word 4294967296 = false ∧
      WellFormed.signed 2147483648 = false ∧ WellFormed.signed (-2147483649) = false ∧
      WellFormed.geometry { stride := 65536 } = false ∧ WellFormed.tolerance { smoothing := 256 } = false ∧
      WellFormed.header { settleCount := 256 } = false ∧
      WellFormed.header { widths := #v[0, 0, 0, 0, 0, 65536] } = false ∧
      WellFormed.strandParams { missLimit := 256 } = false ∧ WellFormed.travelConfig { num := 65536 } = false := by
  decide

/-- Runs of data bytes of a length that their event cannot have. -/
theorem smoke_bytes :
    (Instr.headerReceived .head [0, 0, 0, 0, 0]).wellFormed = false ∧
      (Instr.frameComplete .head []).wellFormed = false ∧
      (Instr.frameComplete .head (List.replicate 1043 0)).wellFormed = false := by decide +kernel

/-- Reads with an operand that does not fit one byte. -/
theorem smoke_reads :
    (Instr.headRead 256).wellFormed = false ∧ (Instr.strandRead 256).wellFormed = false ∧
      (Instr.entryRead 0 256 0).wellFormed = false ∧ (Instr.bankRead 0 256).wellFormed = false ∧
      (Instr.mapRead 0 256).wellFormed = false ∧ (Instr.countersRead 256).wellFormed = false := by decide

/-- Writes with an operand that does not fit its field, or with the code that belongs to the sibling command. -/
theorem smoke_writes :
    (Instr.entryWriteGeometry 0 0 256 0 0 {}).wellFormed = false ∧
      (Instr.entryWriteGeometry 0 0 0 1 0 {}).wellFormed = false ∧
      (Instr.entryWriteTolerance 0 0 0 4294967296 {}).wellFormed = false ∧
      (Instr.bankParamWrite 256 0 0 {}).wellFormed = false ∧ (Instr.bankCopy 0 4294967296).wellFormed = false ∧
      (Instr.bankSwitch 0 1).wellFormed = false ∧ (Instr.bankSwitchCancel 256).wellFormed = false ∧
      (Instr.strandConfigWrite 0 #v[0, 0, 0, 0, 0, 256] {}).wellFormed = false ∧
      (Instr.travelConfigWrite { stallTime := 65536 }).wellFormed = false ∧
      (Instr.headCalWrite 0 0 65536 0).wellFormed = false ∧ (Instr.routeWrite 0 0 256).wellFormed = false ∧
      (Instr.noticeTargetWrite 256).wellFormed = false := by decide

/-- Control requests with a number that does not fit one byte. -/
theorem smoke_control :
    (Instr.headHold 256).wellFormed = false ∧ (Instr.headRelease 256).wellFormed = false ∧
      (Instr.strandStart 256).wellFormed = false ∧ (Instr.strandStop 256).wellFormed = false ∧
      (Instr.strandReset 256).wellFormed = false ∧ (Instr.unknownRequest 256).wellFormed = false := by decide

/-! ## Small states -/

/-- The state after a command. -/
def after (c : Instr) (s : State) : State :=
  match exec c s with
  | .next t => t
  | .fault _ => s
  | .refused _ => s

/-- The request of command `c` from a source of a class. -/
def ask (c : Instr) (k : SourceClass) : Request := { source := 1, sourceClass := k, tag := 7, op := c }

/-- The state in which that request is the only one. -/
def asked (s : State) (c : Instr) (k : SourceClass) : State :=
  { s with handler := { s.handler with requests := [ask c k] } }

/-- The state after that request was carried out. -/
def done (c : Instr) (k : SourceClass) (s : State) : State := after c (asked s c k)

/-- The status of the reply that was last formed. -/
def statusOf (s : State) : Option Status := s.latestReply.map Reply.status

/-- A frame with the CRC-16 of its payload. -/
def sendable (dest source : Nat) (kind : Byte) (payload : List Byte) : Frame := ownFrame source dest kind payload

/-- The state in which a port awaits a frame's payload. -/
def awaiting (s : State) (port : Port) (f : Frame) (mode : CheckMode) : State :=
  s.setParser port (parserAfter { dest := f.dest, source := f.source, kind := f.kind, length := f.payload.length } mode)

/-- The state after a frame with a CRC-16 has arrived whole. -/
def arrive (s : State) (port : Port) (dest source : Nat) (kind : Byte) (payload : List Byte) : State :=
  let f := sendable dest source kind payload
  after (.frameComplete port f.tailBytes) (awaiting s port f .crc16)

/-- The state with one strand replaced, and then one head. -/
def put (i : Fin 4) (st : Strand) (s : State) : State := s.setStrand i st

/-- The Line Port in the middle of a forwarded frame, with `n` notices in its own-origin queue. -/
def busyLine (n : Nat) (s : State) : State :=
  { s with
    linePort :=
      { s.linePort with
        tx := some (.forwarded (sendable 0 10 0x05 [2])),
        own := List.replicate n (.notice 3 0 (.lengthLimit 0)) } }

/-- The piece in transmission at the Line Port. -/
def pieceSent (s : State) : Option Piece :=
  match s.linePort.tx with
  | some (.own (.piece p)) => some p
  | _ => none

/-- What an announce of width 64 writes. -/
def plain : Announced :=
  { width := 64, order := .forward, sign := .up, scaleCode := 0, checkMode := .crc16, serialTag := 7 }

/-- A head ONLINE at a strand and slot. -/
def onlineAt (i : Fin 4) (t : Fin 6) : HeadRecord :=
  { state := .online, assignment := some (i, t), announced := some plain }

/-! ## The runout link -/

/-- R4: the check bytes of an empty payload are 0xFF and 0xFF, and they pass. -/
theorem test_check_of_empty_payload : crcBytes [] = [0xFF, 0xFF] ∧ checkPasses .crc16 [] [0xFF, 0xFF] = true := by
  decide +kernel

/-- 01, "Tracing one frame": the press notice from station 10 to station 0 joins the Line Port forward queue as its fourth. -/
theorem test_trace_press_notice :
    let f := sendable 9 0 0x03 []
    let s := { busyLine 1 State.reset with linePort.forward := [f, f, f] }
    let t := arrive s .head 0 10 0x05 [0]
    t.headPort.parser = .hunt ∧ t.headPort.counters = { framesReceived := 1 } ∧
      t.linePort.forward = [f, f, f, sendable 0 10 0x05 [0]] ∧ t.linePort.own.length = 1 := by decide +kernel

/-- The same trace: preference OWN takes the record, and then preference FORWARD the oldest forwarded frame. -/
theorem test_trace_selection :
    let f := sendable 9 0 0x03 []
    let s := { busyLine 1 State.reset with linePort.forward := [f, f, f, f] }
    let t := after (.frameTransmitted .line) s
    let u := after (.frameTransmitted .line) t
    t.linePort.own = [] ∧ t.linePort.forward.length = 4 ∧ t.linePort.prefer = .forward ∧
      t.linePort.counters.framesSent = 1 ∧ u.linePort.tx = some (.forwarded f) ∧ u.linePort.forward.length = 3 := by
  decide +kernel

/-- R18, R166, R169: a HEAD_HOLD to head 5 on the wire, and the 15 bytes of a STOP advice of strand 1; R165: a signed word. -/
theorem test_sent_frames :
    ((HeadFrame.frame 48 (.hold 5)).bytes.take 7 = [0x15, 0x30, 0x11, 0, 1, 0x35, 5]) ∧
      ((Record.advice { strand := 1, kind := .stop, cls := .stopMark, lo := 0, hi := 259 }).frame 48).payload =
        [1, 2, 5, 0, 0, 0, 0, 0, 0, 0, 0, 0, 0, 1, 3] ∧
      bytesOf [(4, twos 4 (-2))] = [0xFF, 0xFF, 0xFF, 0xFE] := by decide +kernel

/-- R2: the header of the traced notice is accepted; one with destination 64 is not. -/
theorem test_header :
    (after (.headerReceived .head [0, 10, 5, 0, 1, 14]) (after (.frameStart .head) State.reset)).headPort.parser =
        .payload { dest := 0, source := 10, kind := 5, length := 1 } .crc16 [] ∧
      (after (.headerReceived .head [64, 10, 5, 0, 1, 78]) (after (.frameStart .head) State.reset)).headPort.parser =
        .hunt := by decide +kernel

/-- R3: an idle symbol inside a frame ends it, and is counted once. -/
theorem test_truncated :
    let t := after (.truncated .line .idle) (after (.frameStart .line) State.reset)
    t.linePort.parser = .hunt ∧ t.linePort.counters.truncated = 1 := by decide +kernel

/-! ## Heads (02, "A head through shimmer and re-announce") -/

/-- 20 ms: the release delay expires, and the head is AWAITING with a deadline of 220 ms. -/
theorem test_release_delay :
    let s := State.reset.setHead 5 { state := .releasing, deadline := some 20000 }
    let t := after (.releaseDelayExpiry 5) s
    (t.head 5).state = .awaiting ∧ (t.head 5).deadline = some 220000 ∧ t.headPort.tx = some (.own (.release 5)) := by
  decide +kernel

/-- R26: no announce in time: FAULTED with cause MUTE. -/
theorem test_announce_timeout :
    let s := State.reset.setHead 5 { state := .awaiting, deadline := some 220000 }
    let t := after (.announceTimeoutExpiry 5) s
    (t.head 5).state = .faulted ∧ (t.head 5).cause = some .mute ∧ t.now = 220000 := by decide +kernel

/-- 71 ms: the announce with marker 0xA5C3, width 256, scale code 3 and check mode 1. -/
theorem test_announce :
    let s := State.reset.setHead 5 { state := .awaiting, deadline := some 220000, assignment := some (1, 2) }
    let t := arrive s .head 0 21 0x02 [0xA5, 0xC3, 1, 0, 3, 1, 0, 0, 0, 7]
    (t.head 5).state = .online ∧ (t.head 5).announced =
      some { width := 256, order := .reversed, sign := .up, scaleCode := 3, checkMode := .lrc8, serialTag := 7 } ∧
      (t.head 5).mismatch = true := by decide +kernel

/-- The sixteenth miss in a row makes the head SILENT, and the next ones are counted up to 20. -/
theorem test_misses :
    let s := put 1 {} (State.reset.setHead 5 { onlineAt 1 2 with misses := 15 })
    let t := s.reportMiss 5
    (t.head 5).state = .silent ∧ (t.head 5).misses = 16 ∧ (t.reportMiss 5).handler.noticeSeq = 1 ∧
      ((t.reportMiss 5).head 5).misses = 17 := by decide +kernel

/-- R24, R25: a release with a delay of 0 goes on to AWAITING. -/
theorem test_release_at_once :
    let t := done (.headRelease 5) .operator (State.reset.setHead 5 { releaseDelay := 0 })
    (t.head 5).state = .awaiting ∧ (t.head 5).deadline = some 200000 ∧ t.handler.noticeSeq = 2 := by decide +kernel

/-- R23: a hold in OFFLINE. -/
theorem test_hold :
    let t := done (.headHold 5) .operator State.reset
    (t.head 5).state = .held ∧ t.headPort.tx = some (.own (.hold 5)) ∧ statusOf t = some .accepted := by decide +kernel

/-! ## Travel and strands -/

/-- 03, "Following the arithmetic": a state of its table. -/
def scale7over3 (reference debt residue length : Nat) : State :=
  { State.reset with
    travel :=
      { config := { num := 7, den := 3 }, refA := some (BitVec.ofNat 32 reference), debt := debt, residue := residue,
        length := length } }

/-- The record 1,305 pays 11; effective 4; L + 9, remainder 2. -/
theorem test_advance_pays_debt :
    let t := (arrive (scale7over3 1290 11 1 702) .head 0 8 0x03 [0, 0, 5, 25]).travel
    t.refA = some 1305 ∧ t.debt = 0 ∧ t.residue = 2 ∧ t.length = 711 := by decide +kernel

/-- The record 9,000 is a jump: above 4,096. -/
theorem test_jump :
    let t := (scale7over3 1305 0 2 711).travelRecord .a 9000
    t.travel.refA = some 9000 ∧ t.travel.length = 711 ∧ t.travel.counters.jumps = 1 ∧ t.handler.noticeSeq = 1 := by
  decide +kernel

/-- The record 1,290 after 1,301 is a reversal of 11. -/
theorem test_reversal : ((scale7over3 1301 0 1 702).travelRecord .a 1290).travel.debt = 11 := by decide +kernel

/-- 11.4: the handover clears the debt; the record of B then pays its own 30 and carries the remainder 1. -/
theorem test_handover :
    let s : State :=
      { State.reset with
        travel :=
          { config := { num := 25, den := 2 }, refA := some 500280, refB := some 7000150, debt := 20,
            length := 30003750 } }
    let t := ((arrive s .line 63 0 0x04 [1]).travelRecord .b 7000120).travelRecord .b 7000401
    t.travel.driving = .b ∧ t.travel.debt = 0 ∧ t.travel.residue = 1 ∧ t.travel.length = 30006887 := by decide +kernel

/-- 03, "Crossings at two speeds", 30 m/s: strand 0 at a time, with its last triggered index. -/
def atSpeed (time : Nat) (last : Option Nat) (lastTime : Option Nat) (state : StrandState) (length : Nat) : State :=
  put 0 { state := state, origin := some 0, lastTriggered := last, lastTriggerTime := lastTime }
    { State.reset with now := time, travel := { length := length } }

/-- At 0 us: TRIGGER 0, and ARMED to RUNNING. At 100 us: withheld. At 300 us: TRIGGER 2. -/
theorem test_crossings :
    let a := ((atSpeed 0 none none .armed 3000).informStrand 0).strand 0
    let b := ((atSpeed 100 (some 0) (some 0) .running 6000).informStrand 0).strand 0
    let c := ((atSpeed 300 (some 1) (some 0) .running 12000).informStrand 0)
    a.state = .running ∧ a.lastTriggered = some 0 ∧ a.lastTriggerTime = some 0 ∧
      b.lastTriggered = some 1 ∧ b.lastTriggerTime = some 0 ∧ b.counters.triggerWithheld = 1 ∧
      (c.strand 0).lastTriggerTime = some 300 ∧ (c.strand 0).sets.length = 1 ∧
      c.headPort.tx = some (.own (.trigger 0 2 0)) := by decide +kernel

/-- R46: the stall time passes, 500 ms after the last advance. -/
theorem test_stall :
    let s := put 0 { state := .running }
      { State.reset with travel := { moving := true, lastAdvance := some 100 } }
    let t := after .stallTimeExpiry s
    t.now = 500100 ∧ (t.strand 0).state = .stalled ∧ t.travel.moving = false := by decide +kernel

/-- 03, "A press stop seen by two strands": strand 2, and L at 62,000,000. -/
def pressed : State :=
  put 2
    { state := .running, origin := some 10350000, pendingSwitch := some { target := .b },
      params := { planeOffset := 4200000, weldLength := 1800000, stopMarkLength := 60000 } }
    { State.reset with travel := { length := 62000000 } }

/-- The stop mark of strand 2. -/
theorem test_press_stop :
    ((arrive pressed .head 0 10 0x05 [0]).strand 2).marks =
      [{ kind := .stopMark, start := 55850000, stop := 55910000 }] := by decide +kernel

/-- The weld zone that merges with it, and the switch length. -/
theorem test_billet_change :
    let t := (arrive (pressed.takePress .pressStop 2) .head 0 10 0x05 [1]).strand 2
    t.marks = [{ kind := .weldZone, start := 55850000, stop := 57650000 }] ∧
      t.pendingSwitch = some { target := .b, switchLength := some 55850000 } := by decide +kernel

/-! ## Slice assembly (04, "Three sets out of order") -/

/-- Strand 1 with heads 2, 3 and 4 at its slots 0, 1 and 2, and the given sets; the clock at a time. -/
def threeHeads (time : Nat) (sets : List SliceSet) (evaluating : Option Evaluation) : State :=
  let s := put 1
    { state := .running, origin := some 0, slots := #v[some 2, some 3, some 4, none, none, none], lastReleased := some 39,
      front := 200000, sets := sets, eval := evaluating }
    { State.reset with now := time }
  ((s.setHead 2 (onlineAt 1 0)).setHead 3 (onlineAt 1 1)).setHead 4 (onlineAt 1 2)

/-- A buffer of 64 samples of a head at a slot. -/
def scanOf (h : Fin 16) (t : Fin 6) : Buffer :=
  { head := h, slot := t, samples := List.replicate 64 0, order := .forward, sign := .up, scaleCode := 0 }

/-- Set 40 without the scan of slot 2. -/
def set40 : SliceSet :=
  { slice := 40, openTime := 0, deadline := 5000, expected := 7,
    scans := #v[some (scanOf 2 0), some (scanOf 3 1), none, none, none, none] }

/-- Set 41, READY. -/
def set41 : SliceSet :=
  { slice := 41, openTime := 300, deadline := 5300, expected := 7,
    scans := #v[some (scanOf 2 0), some (scanOf 3 1), some (scanOf 4 2), none, none, none], ready := true }

/-- The SCAN payload of strand 1 and a slice, with 64 samples of 0. -/
def scanBytes (slice : Byte) : List Byte := [1, 0, 0, 0, slice] ++ List.replicate 11 0 ++ List.replicate 128 0

/-- 5,000 us: the deadline of 40; a miss for head 4; 40 is released. -/
theorem test_deadline_of_oldest :
    let t := after (.scanWaitExpiry 1) (threeHeads 4000 [set40, set41] none)
    (t.strand 1).sets = [set41] ∧ ((t.strand 1).eval.map fun ev => ev.set.slice) = some 40 ∧
      (t.head 4).misses = 1 ∧ (t.head 3).misses = 0 ∧ t.now = 5000 ∧ t.buffersFree = 59 := by decide +kernel

/-- 5,020 us: the scan of head 4 for slice 40 is LATE. -/
theorem test_late_scan :
    let t := (threeHeads 5020 [set41] none).scan 4 (scanBytes 40)
    t.scans.late = 1 ∧ (t.head 4).counters.scansDiscarded = 1 ∧ (t.strand 1).sets = [set41] := by decide +kernel

/-- The scan that completes set 40, with the engine free. -/
theorem test_scan_completes :
    let t := (threeHeads 200 [set40] none).scan 4 (scanBytes 40)
    (t.strand 1).sets = [] ∧ (t.strand 1).asmCounters = { setsCompleted := 1, slicesReleased := 1 } ∧
      (t.head 4).counters.scansAccepted = 1 ∧ t.buffersFree = 61 := by decide +kernel

/-- R33, R37: an accepted scan returns a SILENT head to ONLINE with one notice; head 3's scan is still missing. -/
theorem test_silent_head_returns :
    let s := (threeHeads 200 [{ set40 with scans := set40.scans.set 1 none }] none).setHead 4
      { onlineAt 1 2 with state := .silent, misses := 16 }
    let t := s.scan 4 (scanBytes 40)
    (t.head 4).state = .online ∧ (t.head 4).misses = 0 ∧
      t.latestRecord = some (.notice 3 0 (.headState 4 .silent .online none)) ∧ t.handler.noticeSeq = 1 ∧
      (t.strand 1).asmCounters.setsCompleted = 0 := by decide +kernel

/-- 5,240 us: the evaluation of 43 completes; 42 is a skipped index; front 220,000. -/
theorem test_skipped_index :
    let ev : Evaluation :=
      { set := { set41 with slice := 43 }, bank := .a, mismatch := 0, offsets := Vector.replicate 6 0, began := 5160 }
    let s := (threeHeads 5240 [] (some ev)).modStrand 1 fun st => { st with lastReleased := some 41, front := 210000 }
    let t := (after (.evaluationComplete 1) s).strand 1
    t.asmCounters.slicesSkipped = 1 ∧ t.lastReleased = some 43 ∧ t.front = 220000 ∧ t.eval = none ∧
      t.runs.map Run.cls = [.unseen] ∧ t.settle = 1 := by decide +kernel

/-- 04, "When the list fills": the oldest set is READY and the engine is busy, so the ninth is refused. -/
theorem test_set_refused :
    let ev : Evaluation :=
      { set := set40, bank := .a, mismatch := 0, offsets := Vector.replicate 6 0, began := 5000 }
    let t := ((threeHeads 6000 (List.replicate 8 set41) (some ev)).openSet 1 51 7).strand 1
    t.asmCounters = { setRefused := 1 } ∧ t.sets.length = 8 := by decide +kernel

/-! ## Templates -/

/-- 05, "Expanding a template": bank B of strand 0. -/
def expanded (repeats2 : Nat) : Bank :=
  { header := { entryCount := 3, widths := #v[512, 256, 512, 512, 128, 512] },
    entries := ((Vector.replicate 64 {}).set 0 { geo := { slot := 1, first := 20, last := 27, repeats := 3, stride := 40 } }
      |>.set 1 { geo := { slot := 4, first := 0, last := 63 } }).set 2
        { geo := { slot := 1, first := 200, last := 203, repeats := repeats2, stride := 4 } } }

/-- The bank has 18 instances and passes; with a repeat of 14 it fails at entry 2 with WINDOW. -/
theorem test_expansion :
    let st : Strand := { slots := #v[none, some 6, none, none, some 9, none] }
    (expanded 12).placements.length = 18 ∧ ((expanded 12).placements.map fun p => p.last).getLast? = some 251 ∧
      st.validate (expanded 12) = none ∧ st.validate (expanded 14) = some (2, .window) := by decide +kernel

/-- 05, "Two stations on one bank": strand 2, bank B at a generation with entry 5. -/
def twoStations (generation : Nat) (geo : Geometry) (tol : Tolerance) : State :=
  put 2
    { state := .running,
      bankB := { generation := generation, entries := (Vector.replicate 64 {}).set 5 { geo := geo, tol := tol } } }
    State.reset

/-- The operator's Lt of -250 is clamped into [-200, 0]; the engineer's geometry write then expects 17 and is STALE. -/
theorem test_operator_band :
    let c := Instr.entryWriteTolerance 2 1 5 17 { lower := -250, upper := 120, smoothing := 3, warn := 8 }
    let t := done c .operator (twoStations 17 { floor := -200, ceiling := 150 }
      { lower := -120, upper := 100, smoothing := 3, warn := 8 })
    statusOf t = some .acceptedClamped ∧ (t.strand 2).bankB.generation = 18 ∧
      (t.strand 2).bankB.entries[5].tol = { lower := -200, upper := 120, smoothing := 3, warn := 8 } ∧
      statusOf (done (.entryWriteGeometry 2 1 5 0 17 { floor := -150 }) .engineering t) = some .stale := by decide +kernel

/-- The engineer's second geometry write, and the operator's refusal. -/
theorem test_geometry_write :
    let s := twoStations 18 { floor := -200, ceiling := 150 } { lower := -200, upper := 120, smoothing := 3, warn := 8 }
    let t := done (.entryWriteGeometry 2 1 5 0 18 { floor := -150, ceiling := 150 }) .engineering s
    statusOf t = some .accepted ∧ (t.strand 2).bankB.generation = 19 ∧
      (t.strand 2).bankB.entries[5].geo.floor = -150 ∧ (t.strand 2).bankB.entries[5].tol.lower = -200 ∧
      statusOf (done (.entryWriteGeometry 2 1 5 0 20 {}) .operator t) = some .notPermitted := by decide +kernel

/-- R86: an entry count of 70 is stored as 64, and an expected width of 40 as 64. -/
theorem test_header_clamped :
    let t := done (.bankParamWrite 0 1 0 { entryCount := 70, widths := #v[40, 512, 512, 512, 512, 512] }) .engineering
      State.reset
    statusOf t = some .acceptedClamped ∧ (t.strand 0).bankB.header.entryCount = 64 ∧
      (t.strand 0).bankB.header.widths[0] = 64 := by decide +kernel

/-- 11.2: BANK_COPY, expected 30. -/
theorem test_bank_copy :
    let s := put 2 { state := .running, bankA := { expanded 3 with generation := 12 }, bankB := { generation := 30 } }
      State.reset
    let t := done (.bankCopy 2 30) .engineering s
    (t.strand 2).bankB.generation = 31 ∧ (t.strand 2).bankB.entries[0] = (expanded 3).entries[0] ∧
      (t.strand 2).bankB.header = (expanded 3).header ∧ statusOf t = some .accepted := by decide +kernel

/-- 05, "A switch across a billet boundary": the switch is pending, and its length is fixed. -/
def switchFixed : State :=
  put 1
    { state := .running, pendingSwitch := some { target := .b, switchLength := some 74200000 },
      bankB := { generation := 52 } } State.reset

/-- Slice 14,839 straddles the length, and 14,841 begins beyond it. -/
theorem test_switch_taken :
    ((switchFixed.decideSwitch 1 14839).strand 1).active = .a ∧
      ((switchFixed.decideSwitch 1 14841).strand 1).active = .b ∧
      (switchFixed.decideSwitch 1 14841).linePort.tx =
        some (.own (.notice 3 0 (.bankTaken 1 .b 52 (some 74200000) (some 14841)))) := by decide +kernel

/-- R92: in RUNNING a valid bank is pending. R94: a cancel clears it. -/
theorem test_switch_pending :
    let s := put 0 { state := .running, slots := #v[none, some 6, none, none, some 9, none], bankB := expanded 12 }
      State.reset
    let t := done (.bankSwitch 0 0) .engineering s
    (t.strand 0).pendingSwitch = some { target := .b } ∧ (t.strand 0).active = .a ∧ statusOf t = some .accepted ∧
      ((done (.bankSwitchCancel 0) .engineering t).strand 0).pendingSwitch = none := by decide +kernel

/-! ## Gauge evaluation -/

/-- 06, "One instance, stage by stage". -/
theorem test_one_instance :
    let samples := ((((Vector.replicate 64 0#16).set 53 2540#16).set 52 2535#16).set 51 0x8000#16 |>.set 50 2590#16).set 49
      2548#16
    let b : Buffer :=
      { head := 0, slot := 3, samples := samples.toList, order := .reversed, sign := .up, scaleCode := 2 }
    let e : GaugeEntry :=
      { geo := { slot := 3, first := 10, last := 14, nominal := 8000, minValid := 4, surfaceWidth := 3 },
        tol := { lower := -150, upper := 150, smoothing := 2, warn := 8 } }
    let j := ({ entry := e, first := 10, last := 14 } : Placement).judgeOn b (-2000) (some 30720)
    (j.map fun x => (x.stats.n, x.stats.outOfBand, x.stats.longest, x.stats.peak)) = some (4, 3, 2, some 360) ∧
      (j.map fun x => (x.mean, x.trend, x.verdict, x.excess)) = some (213, 36672, .dimension, 63) := by decide +kernel

/-- 06, "Reading a drifting gauge": the five steps after the seed. -/
theorem test_trend :
    trendAfter none 3 60 = 15360 ∧ trendAfter (some 15360) 3 80 = 16000 ∧ trendAfter (some 16560) 3 90 = 17370 ∧
      trendAfter (some 17370) 3 90 = 18079 ∧ trendAfter (some 18859) 3 95 = 19542 := by decide +kernel

/-! ## The map and the pieces -/

/-- 07, "Folds and their cancelling". -/
theorem test_folds :
    addArea 1800000000 0 600000000 = (-1894967296, 1) ∧ reportArea (-1894967296) 1 = (2147483647, true) ∧
      addArea (-1894967296) 1 (-679767040) = (1720232960, 0) := by decide +kernel

/-- 07, "Runs built slice by slice": slice 108 closes R1 at 540,000 and opens R2. -/
theorem test_settled_run :
    let r : Run := { start := 510000, body := .running 103 0, cls := .dimension, cause := none, sliceCount := 6 }
    let s := put 3 { state := .running, runs := [r], settle := 2, front := 540000 } State.reset
    let t := s.enterSlice 3 { slice := 108, cls := .sound, cause := none, area := 0 }
    (t.strand 3).runs = [{ r with body := .closed 540000 103 false },
        { start := 540000, body := .running 0 0, cls := .sound, cause := none, sliceCount := 1 }] ∧
      (t.strand 3).settle = 0 ∧ (t.strand 3).pieceCounters.adviceIssued = 1 := by decide +kernel

/-- R123, R133: a closed run of class UNSEEN gives no advice, and one of class SURFACE does; R122: settle count 3. -/
theorem test_advice_at_close :
    let s (c : ConditionClass) (settle : Nat) := put 0
      { state := .running, settle := settle,
        runs := [{ start := 0, body := .running 0 0, cls := c, cause := none, sliceCount := 2 }] } State.reset
    let t (c : ConditionClass) (settle : Nat) :=
      ((s c settle).enterSlice 0 { slice := 2, cls := .sound, cause := none, area := 0 }).strand 0
    (t .unseen 2).pieceCounters.adviceIssued = 0 ∧ (t .unseen 2).runs.length = 2 ∧
      (t .surface 2).pieceCounters.adviceIssued = 1 ∧ (t .surface 1).runs.length = 1 ∧ (t .surface 1).settle = 2 := by
  decide +kernel

/-- 07, "A stop mark behind the front". -/
theorem test_mark_behind :
    let ra : Run := { start := 500000, body := .closed 540000 120 false, cls := .dimension, cause := none, sliceCount := 8 }
    let rb : Run := { start := 540000, body := .running (-40) 0, cls := .sound, cause := none, sliceCount := 12 }
    let s := put 1 { state := .running, runs := [ra, rb], front := 600000, retired := 500000 } State.reset
    let t := (s.giveMark 1 { kind := .stopMark, start := 597000, stop := 599000 }).strand 1
    t.runs = [ra, { rb with body := .closed 595000 (-40) false, sliceCount := 11 },
      { start := 595000, body := .running 0 0, cls := .stopMark, cause := some (.mark .stopMark), sliceCount := 1,
        split := true }] ∧ t.marks = [] ∧ t.mapCounters.marksAppliedBack = 1 := by decide +kernel

/-- 08, "Two cuts on a running strand": the strand before the first cut. -/
def twoCuts : State :=
  let closed (a b n : Nat) (c : ConditionClass) (z : Option Cause) : Run :=
    { start := a, body := .closed b 0 false, cls := c, cause := z, sliceCount := n }
  put 0
    { state := .running, origin := some 0, front := 1100000, retired := 1000000, pieceCounter := 6,
      bankA := { generation := 40, header :=
        { surfaceAllowance := 20000, unseenAllowance := 10000, driftAllowance := 50000 } },
      runs := [closed 1000000 1040000 8 .sound none, closed 1040000 1055000 3 .drift (some (.label 12)),
        closed 1055000 1060000 1 .unseen none, closed 1060000 1070000 2 .surface (some (.label 31)),
        { start := 1070000, body := .running 0 0, cls := .sound, cause := none, sliceCount := 6 }] } State.reset

/-- The first cut, at 1,062,500: piece 7. -/
theorem test_first_cut :
    let t := arrive twoCuts .line 63 2 0x06 [0, 0, 0, 16, 54, 100]
    t.linePort.tx = some (.own (.piece
      { strand := 0, number := 7, start := 1000000, stop := 1062500, verdict := .hold, worst := .surface,
        cause := some (.label 31), lengths := #v[40000, 15000, 5000, 2500, 0, 0, 0], area := 0, saturated := false,
        mergedCut := false, unseenTail := false, mapMerged := false, bank := .a, generation := 40 })) ∧
      ((t.strand 0).runs.map fun r => (r.start, r.sliceCount, r.split)) = [(1062500, 1, true), (1070000, 6, false)] := by
  decide +kernel

/-- R141 step 3 on the run that this cut splits: of its two slices one begins behind the cut, so the part taken keeps one. -/
theorem test_part_before_cut :
    let r : Run := { start := 1060000, body := .closed 1070000 0 false, cls := .surface, cause := none, sliceCount := 2 }
    (takeRuns 1062500 1100000 5000 [r]).1.map Run.sliceCount = [1] := by decide

/-- 08, "A cut over the tail": the strand, CLOSED. -/
def tailCut : State :=
  put 2
    { state := .closed, origin := some 0, front := 2000000, retired := 1950000,
      marks := [{ kind := .weldZone, start := 2010000, stop := 2030000 }],
      runs := [{ start := 1950000, body := .closed 2000000 0 false, cls := .sound, cause := none, sliceCount := 10 }] }
    State.reset

/-- The piece carries the tail, and the strand returns to IDLE. -/
theorem test_tail :
    ((tailCut.cutNotice 2 2040000).strand 2).state = .idle ∧ ((tailCut.cutNotice 2 2040000).strand 2).pieceCounter = 1 ∧
      (pieceSent (tailCut.cutNotice 2 2040000)).map (fun p => (p.lengths, p.verdict, p.unseenTail)) =
        some (#v[50000, 0, 20000, 0, 0, 0, 20000], .scrap, true) := by decide +kernel

/-! ## Management requests -/

/-- 09, "Requests under a congested Line Port": the one free entry goes to reply 101, and reply 102 waits. -/
theorem test_congested :
    let s := busyLine 31 State.reset
    let t := done (.headRead 0) .operator s
    let u := done (.strandRead 0) .operator t
    t.linePort.own.length = 32 ∧ t.handler.requests = [] ∧ u.handler.requests.length = 1 ∧ u.handler.waiting.isSome ∧
      (after (.mapRead 0 0) u).handler = u.handler := by decide +kernel

/-- The same: a full request queue and no free entry: BUSY_UNSENT. The freed entry goes to the waiting reply. -/
theorem test_busy_unsent :
    let r := ask (.mapRead 0 0) .operator
    let s := { busyLine 32 State.reset with handler := { requests := [r, r, r, r], waiting := some (r.reply ⟨.accepted, []⟩) } }
    let t := arrive s .line 48 1 0x20 [0, 9, 23]
    let u := after (.frameTransmitted .line) s
    t.handler.counters.busyUnsent = 1 ∧ t.handler.requests = [r, r, r, r] ∧
      u.handler.waiting = none ∧ u.handler.requests = [r, r, r] ∧ u.linePort.own.length = 32 := by decide +kernel

/-- The lengths of R168 are those of the encoded requests. -/
theorem test_request_lengths :
    ([.headRead 0, .strandRead 0, .entryRead 0 0 0, .bankRead 0 0, .mapRead 0 0, .countersRead 0, .routeRead,
      .entryWriteGeometry 0 0 0 0 0 {}, .entryWriteTolerance 0 0 0 0 {}, .bankParamWrite 0 0 0 {}, .bankCopy 0 0,
      .bankSwitch 0 0, .bankSwitchCancel 0, .strandConfigWrite 0 (Vector.replicate 6 255) {}, .travelConfigWrite {},
      .headCalWrite 0 0 0 0, .routeWrite 0 0 0, .noticeTargetWrite 0, .headHold 0, .headRelease 0, .strandStart 0,
      .strandStop 0, .strandReset 0, .countersClear, .restart] : List Instr).all
        (fun c => requestLength (requestKindOf c) == some (encodeRequest 5 c).length) = true := by decide +kernel

/-- R50, R62, R168: item 1 of STRAND_READ is 82 bytes and then the six strand counters, and item 7 carries them again. -/
theorem test_strand_read_counters :
    let c : StrandCounters :=
      { triggersIssued := 1, triggerWithheld := 2, pressStopTaken := 3,
        billetChangeTaken := 4, pressRunTaken := 5, runEndTaken := 6 }
    let s := put 0 { counters := c } State.reset
    let words : List Byte := [0, 0, 0, 1, 0, 0, 0, 2, 0, 0, 0, 3, 0, 0, 0, 4, 0, 0, 0, 5, 0, 0, 0, 6]
    (s.recordView 0).drop 82 = words ∧ ((s.strandBody 0).drop ((s.strandBody 0).length - 160)).take 24 = words := by
  decide +kernel

/-- Requests are refused: kind 77 is unknown; a read of group 6 is out of range. -/
theorem test_refusals :
    statusOf (done (.unknownRequest 77) .engineering State.reset) = some .unknownRequest ∧
      statusOf (done (.countersRead 6) .operator State.reset) = some .outOfRange ∧
      statusOf (done (.entryRead 0 1 64) .operator State.reset) = some .outOfRange ∧
      statusOf (done (.bankRead 0 1) .none State.reset) = some .notPermitted := by decide +kernel

/-- R168: ROUTE_READ of the power-on table begins with the own station; station 0 is OPERATOR and station 1 ENGINEERING. -/
theorem test_route_read :
    ((done .routeRead .operator State.reset).latestReply.map fun r => (r.body.take 5, r.body.length)) =
      some ([48, 0, 1, 0, 2], 129) := by decide +kernel

/-- R165: a release delay of 300 is stored as 255; R51: a scan wait of 60,000 as 50,000. -/
theorem test_clamped_on_receipt :
    ((done (.headCalWrite 3 5 300 200) .engineering State.reset).head 3).releaseDelay = 255 ∧
      ((done (.strandConfigWrite 0 (Vector.replicate 6 255) { scanWait := 60000 }) .engineering
        State.reset).strand 0).params.scanWait = 50000 := by decide +kernel

/-- R51 step 4: a head at two slots is HEAD_TAKEN at the first. R41: a strand that is not IDLE refuses the travel write. -/
theorem test_configuration_refused :
    ((done (.strandConfigWrite 0 #v[255, 3, 255, 3, 255, 255] {}) .engineering State.reset).latestReply.map
        fun r => (r.status, r.body)) = some (.invalid, [1, 6]) ∧
      statusOf (done (.travelConfigWrite {}) .engineering (put 3 { state := .closed } State.reset)) =
        some .wrongState := by decide +kernel

/-- R161: the route and the notice target are replaced. -/
theorem test_tables_written :
    let t := done (.noticeTargetWrite 9) .engineering (done (.routeWrite 4 1 2) .engineering State.reset)
    t.routes[4] = { action := .stop, sourceClass := .engineering } ∧ t.handler.noticeTarget = 9 := by decide +kernel

/-- R52, R54, R56: a strand starts ARMED at L, stops to IDLE, and a reset is accepted in every state. -/
theorem test_strand_control :
    let s := put 0 { slots := #v[none, some 6, none, none, some 9, none], bankA := expanded 12 }
      { State.reset with travel := { length := 5000000 } }
    let t := done (.strandStart 0) .operator s
    (t.strand 0).state = .armed ∧ (t.strand 0).origin = some 5000000 ∧
      ((done (.strandStop 0) .operator t).strand 0).state = .idle ∧
      statusOf (done (.strandReset 0) .operator t) = some .accepted := by decide +kernel

/-- R160: a clear leaves every counter at 0, and its own reply is not counted. -/
theorem test_counters_clear :
    let t := done .countersClear .operator { State.reset with pressUnknown := 4, handler.counters.requestsDone := 7 }
    t.pressUnknown = 0 ∧ t.handler.counters = {} ∧ statusOf t = some .accepted := by decide +kernel

/-- A RUNNING strand, and a RESTART that was carried out. -/
def restarting : State := done .restart .engineering (put 0 { state := .running } State.reset)

/-- R162, R18: the RESTART takes effect after the end of its reply's transmission. -/
theorem test_restart :
    (restarting.strand 0).state = .running ∧ (after (.frameTransmitted .line) restarting).handler.restart = .due ∧
      ((after .restartTakesEffect (after (.frameTransmitted .line) restarting)).strand 0).state = .idle ∧
      ((after .restartTakesEffect restarting).strand 0).state = .running := by decide +kernel

/-- R6: the straps give the station, and a power-on reset clears the tables. -/
theorem test_power_on :
    let t := after (.powerOnReset 7) (put 1 { state := .running } State.reset)
    t.ownStation = 55 ∧ (t.strand 1).state = .idle ∧ t.routes = State.reset.routes := by decide +kernel

/-! ## Witnesses: states and operands that meet the hypotheses of the statements, clause by clause -/

/-- A state with one command waiting. -/
def waiting (c : Instr) : State := { State.reset with pending := [c] }

theorem witness_StepRunsCommand :
    (State.reset.pending = [] ∧ State.reset.due = none) ∧
      ((asked State.reset .routeRead .operator).pending = [] ∧
        (asked State.reset .routeRead .operator).due = some .routeRead) := by decide +kernel

theorem witness_EveryCommandCompletes :
    (∀ straps, Instr.routeRead ≠ .powerOnReset straps) ∧ (∀ n a k, Instr.routeRead ≠ .routeWrite n a k) ∧
      (∀ n, Instr.routeRead ≠ .noticeTargetWrite n) ∧ (∀ x, Instr.routeRead ≠ .travelConfigWrite x) ∧
      (∀ n v p, Instr.routeRead ≠ .strandConfigWrite n v p) ∧ (∀ n o d w, Instr.routeRead ≠ .headCalWrite n o d w) := by
  simp

/-- The state of the strand of 04 obeys the laws and has a next state. -/
theorem witness_HeadTableLawsKept :
    AssignmentLaw (threeHeads 0 [set40] none) ∧ (∀ h, HeadLaw ((threeHeads 0 [set40] none).head h)) ∧
      ∃ t, step (threeHeads 0 [set40] none) = .next t := by
  refine ⟨by decide +kernel, by decide +kernel, _, rfl⟩

theorem witness_PortLawsKept :
    QueuesFit (busyLine 32 State.reset) ∧ TransmittersBusy (busyLine 32 State.reset) ∧
      ∃ t, step (busyLine 32 State.reset) = .next t := by
  refine ⟨by decide +kernel, by decide +kernel, _, rfl⟩

/-- Slices 0 to 39 released, the sets 40 and 41 waiting, a cut beyond the front, and one open run. -/
def lawful : State :=
  (threeHeads 0 [set40, set41] none).modStrand 1 fun st =>
    { st with
      lastTriggered := some 41, cuts := [{ position := 200001, merged := false }],
      runs := [{ start := 0, body := .running 0 0, cls := .sound, cause := none, sliceCount := 40 }] }

theorem witness_StrandLawsKept :
    (∀ i, ListsFit (lawful.strand i) ∧ QuietLaw (lawful.strand i) ∧ MapLaw (lawful.strand i)) ∧
      (∀ i, SetLaw (lawful.strand i)) ∧ lawful.buffersInUse ≤ 64 ∧
      (∀ i, OrderLaw (lawful.strand i) ∧ CoverLaw (lawful.strand i)) ∧ ∃ t, step lawful = .next t := by
  refine ⟨by decide +kernel, by decide +kernel, by decide +kernel, fun i => ?_, _, rfl⟩
  have h : ∀ i, lawful.strand i = if i = 1 then lawful.strand 1 else {} := by decide +kernel
  rw [h i]
  split
  · refine ⟨⟨by decide +kernel, by decide +kernel, fun ev he => ?_⟩, ⟨rfl, ?_, rfl⟩, by decide +kernel⟩
    · cases he
    · decide +kernel
  · exact ⟨⟨by decide, by decide, fun ev he => by cases he⟩, rfl, by decide⟩

theorem witness_StoredValuesInRange :
    (∀ i, ParamsLaw (State.reset.strand i).params ∧ ∀ id, BankLaw ((State.reset.strand i).bank id)) ∧
      TravelLaw State.reset.travel ∧ ∃ t, step State.reset = .next t := by
  have e : EntryLaw {} := by decide
  have b : BankLaw {} := ⟨by decide, by decide, by decide, by decide, by decide, by decide, by decide, by decide, by decide, by decide,
    fun k => by
    have h : ({} : Bank).entries[k] = {} := by simp
    rw [h]; exact e⟩
  have h : ∀ i, State.reset.strand i = {} := fun i => by simp [State.strand, State.reset, State.powerOn]
  refine ⟨fun i => ?_, by decide, _, rfl⟩
  rw [h i]
  exact ⟨by decide, fun id => by cases id <;> exact b⟩

theorem witness_OnlyStandbyBanksWritten :
    (∀ straps, (waiting .restart).pending.head? ≠ some (.powerOnReset straps)) ∧
      ∃ t, step (waiting .restart) = .next t := ⟨by decide, _, rfl⟩

theorem witness_RequestDecodesBack :
    65535 < 65536 ∧ (Instr.entryWriteGeometry 3 1 63 0 4294967295 { nominal := -2147483648 }).wellFormed = true ∧
      (Instr.entryWriteGeometry 3 1 63 0 4294967295 { nominal := -2147483648 }).isRequest = true ∧
      (Instr.unknownRequest 255).wellFormed = true := by decide

theorem witness_SymbolEndsFrame :
    (State.reset.setParser .line (.header [])).parser .line ≠ .hunt ∧ State.reset.parser .line = .hunt := by decide

/-- The header passes at the greatest destination, source and length, and fails one above the greatest length. -/
theorem witness_HeaderJudged :
    (State.reset.setParser .line (.header [])).parser .line = .header [] ∧
      (0x25#8 = 63#8 ^^^ 62#8 ^^^ 0x30#8 ^^^ 0x04#8 ^^^ 0x10#8 ∧ (63#8).toNat ≤ 63 ∧ (62#8).toNat ≤ 62 ∧
        (0x04#8).toNat * 256 + (0x10#8).toNat = 1040) ∧
      ¬(0x04#8).toNat * 256 + (0x11#8).toNat ≤ 1040 := by decide

/-- The header of a SCAN of head 5 with an empty payload. -/
def badScan (r : HeadRecord) : State :=
  (State.reset.setHead 5 r).setParser .head (parserAfter { dest := 0, source := 21, kind := 1, length := 1 } .crc16)

theorem witness_PayloadCheckFails :
    (badScan {}).parser .head = parserAfter { dest := 0, source := 21, kind := 1, length := 1 } .crc16 ∧
      checkPasses .crc16 [0] [0, 0] = false ∧ checkPasses .lrc8 [0] [1] = false ∧
      (((badScan {}).head 5).state ≠ .online ∧ ((badScan {}).head 5).state ≠ .silent) ∧
      (((badScan { state := .online, checkErrors := 6 }).head 5).state = .online ∧
        ((badScan { state := .online, checkErrors := 6 }).head 5).checkErrors + 1 < 8) ∧
      8 ≤ ((badScan { state := .silent, checkErrors := 7 }).head 5).checkErrors + 1 := by decide +kernel

/-- The port of a frame that has arrived up to its header awaits it. -/
theorem awaits (s : State) (port : Port) (dest source : Nat) (kind : Byte) (payload : List Byte)
    (h : checkPasses .crc16 payload (crcBytes payload) = true) :
    Awaits (awaiting s port (sendable dest source kind payload) .crc16) port (sendable dest source kind payload) .crc16 := by
  refine ⟨?_, rfl, h⟩
  cases port <;> rfl

/-- One frame for each clause. -/
theorem witness_GoodFrameNotConsumed :
    (let f := sendable 0 48 0x30 []
     Awaits (awaiting State.reset .head f .crc16) .head f .crc16 ∧ f.source = State.reset.ownStation) ∧
    (let f := sendable 48 1 0x20 [0]
     Awaits (awaiting State.reset .head f .crc16) .head f .crc16 ∧ f.source ≠ State.reset.ownStation ∧
       f.kind = 0x20 ∧ f.dest = State.reset.ownStation) ∧
    (let f := sendable 0 7 0x03 [0, 0, 0, 1]
     Awaits (awaiting State.reset .head f .crc16) .head f .crc16 ∧ ¬MatchesRow State.reset .head f) ∧
    (let f := sendable 0 8 0x03 [0, 0, 1]
     Awaits (awaiting State.reset .head f .crc16) .head f .crc16 ∧ MatchesRow State.reset .head f ∧ ¬LengthFits f) :=
  ⟨⟨awaits _ _ _ _ _ _ (by decide +kernel), by decide⟩, ⟨awaits _ _ _ _ _ _ (by decide +kernel), by decide⟩,
    ⟨awaits _ _ _ _ _ _ (by decide +kernel), by decide⟩, awaits _ _ _ _ _ _ (by decide +kernel), by decide, by decide⟩

/-- A frame of each row, at the least length and for a SCAN at the greatest as well. -/
theorem witness_GoodFrameConsumed :
    (let f := sendable 0 16 0x01 (List.replicate 18 0)
     Awaits (awaiting State.reset .head f .crc16) .head f .crc16 ∧ f.source = 16 + (0 : Fin 16)) ∧
    (18 ≤ 1040 ∧ 1040 ≤ 1040 ∧ 1040 % 2 = 0) ∧
    (let f := sendable 0 31 0x02 (List.replicate 10 0)
     Awaits (awaiting State.reset .head f .crc16) .head f .crc16 ∧ f.source = 16 + (15 : Fin 16)) ∧
    (let f := sendable 0 9 0x03 [0, 0, 0, 1]
     Awaits (awaiting State.reset .line f .crc16) .line f .crc16 ∧ f.payload.length = 4) ∧
    (let f := sendable 0 10 0x05 [3]
     Awaits (awaiting State.reset .line f .crc16) .line f .crc16 ∧ f.payload.length = 1) ∧
    (let f := sendable 63 0 0x04 [1]
     Awaits (awaiting State.reset .line f .crc16) .line f .crc16 ∧ f.payload.length = 1) ∧
    (let f := sendable 63 2 0x06 [0, 0, 0, 0, 0, 1]
     Awaits (awaiting State.reset .line f .crc16) .line f .crc16 ∧ f.payload.length = 6) ∧
    (let f := sendable 48 1 0x20 [0, 9, 23]
     Awaits (awaiting State.reset .line f .crc16) .line f .crc16 ∧ f.dest = State.reset.ownStation ∧
       3 ≤ f.payload.length) := by decide +kernel

/-- The Head Port transmitting, with `n` frames in its forward queue. -/
def busyHead (n : Nat) : State :=
  { State.reset with
    headPort := { tx := some (.own (.hold 0)), forward := List.replicate n (sendable 16 0 0x30 []) } }

theorem witness_ForwardingDecided :
    (let f := sendable 48 1 0x30 []
     f.dest = State.reset.ownStation) ∧
    (let f := sendable 16 0 0x30 []
     f.dest ≠ State.reset.ownStation ∧
       (({ State.reset with routes := State.reset.routes.set 16 ⟨.stop, .none⟩ } : State).route f.dest).action = .stop ∧
       ((busyHead 16).route f.dest).action = .pass ∧ 16 ≤ ((busyHead 16).forwardOf .head).length ∧
       ((busyHead 15).forwardOf .head).length < 16 ∧ (busyHead 15).transmitting .head ≠ none ∧
       State.reset.transmitting .head = none ∧ State.reset.forwardOf .head = [] ∧ State.reset.headPort.own = []) := by
  decide +kernel

/-- R17, R18: an idle Line Port with a record and each preference, one while a RESTART is due, and one whose queues are empty; and
an idle Head Port with a frame of its own. -/
theorem witness_ForwardingDecided_idle :
    let f := sendable 16 0 0x30 []
    let g := sendable 8 0 0x30 []
    let n := Record.notice 3 0 (.lengthLimit 0)
    let s (p : LinePort) (x : RestartPhase) := ({ State.reset with linePort := p, handler := { restart := x } } : State)
    let t (p : LinePort) (x : RestartPhase) := (s p x).forwardFrame .head f false
    (s {} .idle).route 16 = ⟨.pass, .none⟩ ∧ 16 ≠ (s {} .idle).ownStation ∧
      (t { own := [n], prefer := .own } .idle).linePort = { tx := some (.own n), forward := [f], prefer := .forward } ∧
      (t { own := [n], forward := [g], prefer := .forward } .idle).linePort =
        { own := [n], tx := some (.forwarded g), forward := [f], prefer := .own } ∧
      (t { prefer := .forward } .idle).linePort = { tx := some (.forwarded f), prefer := .own } ∧
      (t { own := [n] } .due).linePort = { own := [n], forward := [f] } ∧
      (({ State.reset with headPort.own := [.hold 1, .hold 2] } : State).forwardFrame .line f false).headPort =
        { tx := some (.own (.hold 1)), own := [.hold 2], forward := [f] } := by decide +kernel

/-- A state with `n` requests and `m` records in the Line Port own-origin queue. -/
def crowded (n m : Nat) : State :=
  { busyLine m State.reset with handler := { requests := List.replicate n (ask .routeRead .operator) } }

theorem witness_RequestTakenOrBusy :
    (crowded 3 0).handler.requests.length < 4 ∧ 4 ≤ (crowded 4 31).handler.requests.length ∧
      (crowded 4 31).linePort.own.length < 32 ∧ 32 ≤ (crowded 4 32).linePort.own.length := by decide +kernel

/-- An advice record and a piece record of strand 1. -/
def someAdvice : Advice := { strand := 1, kind := .stop, cls := .stopMark, lo := 0, hi := 1 }

/-- The Line Port in the middle of a frame, with the given waiting records. -/
def arbiter (reply : Option Reply) (held : List Advice) (closed : List Piece) : State :=
  put 1 { held := held, closed := closed } { busyLine 1 State.reset with handler := { waiting := reply } }

theorem witness_TransmittersSelect :
    (busyHead 1).headPort.tx = some (.own (.hold 0)) ∧
      ({ busyHead 1 with headPort.own := [.hold 1] } : State).headPort.own = [.hold 1] ∧ (busyHead 1).headPort.own = [] ∧
      (busyHead 1).headPort.forward = [sendable 16 0 0x30 []] ∧ (busyHead 0).headPort.forward = [] ∧
      (busyLine 1 State.reset).linePort.tx = some (.forwarded (sendable 0 10 0x05 [2])) ∧
      (busyLine 1 State.reset).isRestartReply (.forwarded (sendable 0 10 0x05 [2])) = false ∧
      (busyLine 0 State.reset).linePort.own = [] ∧ (busyLine 0 State.reset).linePort.forward = [] ∧
      (arbiter (some ((ask .routeRead .none).reply ⟨.accepted, []⟩)) [] []).handler.waiting.isSome ∧
      (arbiter none [someAdvice] []).handler.waiting = none ∧
      (arbiter none [someAdvice] []).adviceStrand = some (1, someAdvice) ∧
      (arbiter none [] []).adviceStrand = none ∧ (arbiter none [] []).pieceStrand = none ∧
      (let p := Strand.pieceOf {} 1 { position := 1, merged := false } false []
       (arbiter none [] [p]).adviceStrand = none ∧ (arbiter none [] [p]).pieceStrand = some (1, p)) := by decide +kernel

/-- R16: strands 1 and 3 hold advice, and 1 a piece as well. From turn 2 the first is strand 3, and from turn 0 strand 1. -/
theorem witness_TransmittersSelect_turn :
    let s (turn : Fin 4) : State :=
      let a := put 3 { held := [someAdvice, { someAdvice with lo := 9 }] } (arbiter none [someAdvice] [])
      { a with linePort := { a.linePort with adviceTurn := turn } }
    (s 2).adviceStrand = some (3, someAdvice) ∧ (s 0).adviceStrand = some (1, someAdvice) ∧ (3 : Fin 4) = 2 + 1 ∧
      ((s 2).strand (2 + 0)).held = [] ∧ ((s 0).strand (0 + 0)).held = [] := by decide +kernel

theorem witness_NoticeRaised :
    (busyLine 28 State.reset).linePort.own.length ≤ 28 ∧ 29 ≤ (busyLine 29 State.reset).linePort.own.length := by
  decide +kernel

/-- R15, R17, R18: a notice at a busy port; at an idle one that prefers a waiting frame or its own record; while a RESTART is due. -/
theorem witness_NoticeRaised_entered :
    let f := sendable 0 10 0x05 [2]
    let n := Notice.lengthLimit 4
    let r := Record.notice 3 0 n
    let t (p : LinePort) (x : RestartPhase) : LinePort :=
      (({ State.reset with linePort := p, handler := { restart := x } } : State).raise n).linePort
    (t (busyLine 1 State.reset).linePort .idle).own.getLast? = some r ∧
      t { forward := [f], prefer := .forward } .idle = { own := [r], tx := some (.forwarded f), prefer := .own } ∧
      t { forward := [f] } .idle = { tx := some (.own r), forward := [f], prefer := .forward } ∧
      t {} .due = { own := [r] } := by decide +kernel

/-- No reference; a reference with B driving; no movement; a jump of one above the limit; a reversal of exactly the limit. -/
theorem witness_TravelRecordJudged :
    State.reset.travel.ref .a = none ∧
      (let t := (scale7over3 5000 0 0 0).travel
       t.ref .a = some 5000 ∧ t.driving = .a ∧ ({ t with driving := .b } : Travel).driving ≠ .a ∧
         (5000#32 - 5000#32).toInt = 0 ∧ t.config.maxStep < (9097#32 - 5000#32).toInt.natAbs ∧
         (904#32 - 5000#32).toInt < 0 ∧ (904#32 - 5000#32).toInt.natAbs ≤ t.config.maxStep) := by decide

/-- An advance of exactly the limit, one that the debt takes whole, and one at the greatest length. -/
theorem witness_AdvanceMovesLength :
    (let t := (scale7over3 1000 0 0 0).travel
     t.ref .a = some 1000 ∧ t.driving = .a ∧ (5096#32 - 1000#32).toInt = (4096 : Nat) ∧ 4096 ≤ t.config.maxStep ∧
       t.debt < 4096 ∧ t.length < 1099511627775) ∧
      (1 ≤ (scale7over3 1000 1 0 0).travel.debt ∧ (scale7over3 1000 0 0 1099511627775).travel.length = 1099511627775) := by
  decide

theorem witness_IncreaseInformsStrands :
    (State.reset.strand 0).state.live = false ∧ ((atSpeed 0 none none .armed 3000).strand 0).state.live = true ∧
      (atSpeed 0 none none .armed 3000).travel.length < 1099511627775 ∧
      (atSpeed 0 none none .armed 1099511627775).travel.length = 1099511627775 ∧
      (atSpeed 0 none none .armed 1099511627775).travel.limitReached = false := by decide +kernel

theorem witness_HandoverChangesDriver :
    2 ≤ 255 ∧ 0 = Puller.a.code ∧ 1 = Puller.b.code ∧ State.reset.travel.driving = .a ∧
      State.reset.travel.driving ≠ .b := by decide

theorem witness_StallTimeExpires :
    let s : State := { State.reset with travel := { moving := true, lastAdvance := some 100 } }
    s.travel.moving = true ∧ s.travel.lastAdvance = some 100 := by decide

/-- R57: RUNNING to STALLED is noticed once, and a change to the state that holds already is none. -/
theorem witness_StallTimeExpires_notice :
    let s := put 1 { state := .running } State.reset
    let t := s.changeStrand 1 .stalled
    (s.strand 1).state ≠ .stalled ∧ (t.strand 1).state = .stalled ∧ t.handler.noticeSeq = 1 ∧
      t.latestRecord = some (.notice 3 0 (.strandState 1 .running .stalled)) ∧ t.changeStrand 1 .stalled = t := by
  decide +kernel

/-- The clauses in turn: not above the last index; one microsecond before the guard has passed; the moment it has passed. -/
theorem witness_CrossingRule :
    ((atSpeed 200 (some 1) (some 0) .running 9000).strand 0).state.live = true ∧
      (∀ l, ((atSpeed 200 (some 1) (some 0) .running 9000).strand 0).lastTriggered = some l →
        (atSpeed 200 (some 1) (some 0) .running 9000).ell 0 / 5000 ≤ l) ∧
      (∀ l, ((atSpeed 249 (some 1) (some 0) .running 10000).strand 0).lastTriggered = some l →
        l < (atSpeed 249 (some 1) (some 0) .running 10000).ell 0 / 5000) ∧
      (∃ m, ((atSpeed 249 (some 1) (some 0) .running 10000).strand 0).lastTriggerTime = some m ∧ 249 < m + 250) ∧
      (∀ m, ((atSpeed 250 (some 1) (some 0) .running 10000).strand 0).lastTriggerTime = some m → m + 250 ≤ 250) := by
  refine ⟨by decide, ?_, ?_, ⟨0, by decide⟩, ?_⟩
  · intro l h; obtain rfl : l = 1 := by simpa [atSpeed, put, State.strand, State.setStrand] using h.symm
    decide
  · intro l h; obtain rfl : l = 1 := by simpa [atSpeed, put, State.strand, State.setStrand] using h.symm
    decide
  · intro m h; obtain rfl : m = 0 := by simpa [atSpeed, put, State.strand, State.setStrand] using h.symm
    decide

/-- R59, R65: of heads 2, 3 and 4 at slots 0, 1 and 2 the second is SILENT; head 5 is ONLINE at no slot. -/
theorem witness_CrossingRule_online :
    let s := ((threeHeads 0 [] none).setHead 3 { onlineAt 1 1 with state := .silent }).setHead 5 { state := .online }
    s.headMask 1 = 0x14#16 ∧ s.onlineSlots 1 = 5#6 ∧ s.headMask 0 = 0#16 := by decide +kernel

/-- Eight sets, the oldest READY or OPEN. -/
def eightSets (ready : Bool) : List SliceSet :=
  { set40 with ready := ready } :: (List.range 7).map fun k => { set41 with slice := 41 + k }

/-- A queue with one free entry and a full one; seven sets, and eight with the oldest OPEN or READY and the engine FREE or not. -/
theorem witness_CrossingRule_sets :
    ({ own := List.replicate 7 (.hold 0) } : HeadPort).own.length < 8 ∧
      8 ≤ ({ own := List.replicate 8 (.hold 0) } : HeadPort).own.length ∧
      ((threeHeads 0 (eightSets true).tail none).strand 1).sets.length < 8 ∧
      (∀ ready, (eightSets ready).length = 8 ∧ ∀ y ∈ (eightSets ready).tail, y.slice ≠ { set40 with ready := ready }.slice) ∧
      (let ev : Evaluation := { set := set40, bank := .a, mismatch := 0, offsets := Vector.replicate 6 0, began := 0 }
       ((threeHeads 0 (eightSets false) (some ev)).strand 1).eval ≠ none) ∧
      ((threeHeads 0 (eightSets false) none).strand 1).eval = none := by decide +kernel

theorem witness_PressNoticeTaken :
    (State.reset.strand 0).state.live = false ∧ (pressed.strand 2).state.live = true ∧
      (pressed.strand 2).pendingSwitch = some { target := .b } ∧ (pressed.strand 2).params.weldLength ≠ 0 ∧
      (twoCuts.strand 0).pendingSwitch = none ∧ (twoCuts.strand 0).params.weldLength = 0 := by decide +kernel

/-- A notice of kind 3 ends the run of every strand that takes it; kind 4 is the first unknown one. -/
theorem witness_PressNoticeTaken_kinds :
    let s := put 3 { state := .armed } (put 1 { state := .stalled } State.reset)
    let t := s.pressNotice 3
    (t.strand 1).counters.runEndTaken = 1 ∧ (t.strand 3).counters.runEndTaken = 1 ∧ t.strand 0 = s.strand 0 ∧
      t.handler.noticeSeq = 6 ∧ s.pressNotice 4 = { s with pressUnknown := 1 } := by decide +kernel

/-- Marks at the front and at the last mark of the queue, a queue with room and a full one; advice with one free entry of the Line
Port and with none, and one holding slot free or none. -/
theorem witness_PressNoticeTaken_marks :
    let st := tailCut.strand 2
    let m (a b : Nat) : Mark := { kind := .stopMark, start := a, stop := b }
    let l : Mark := { kind := .weldZone, start := 2010000, stop := 2030000 }
    st.front ≤ (m 2000000 2000001).start ∧ (m 1999999 2000000).start < st.front ∧ (m 1999999 2000000).stop ≤ st.front ∧
      st.front < (m 1999999 2000001).stop ∧ (State.reset.strand 0).marks = [] ∧ st.marks = [] ++ [l] ∧
      (m 2030000 2030001).start ≤ l.stop ∧ l.stop < (m 2030001 2030002).start ∧ st.marks.length < 4 ∧
      4 ≤ ({ st with marks := List.replicate 3 l ++ [l] } : Strand).marks.length ∧
      (busyLine 31 tailCut).linePort.own.length < 32 ∧ 32 ≤ (busyLine 32 tailCut).linePort.own.length ∧
      ((arbiter none [someAdvice] []).strand 1).held.length < 2 ∧
      2 ≤ ((arbiter none [someAdvice, someAdvice] []).strand 1).held.length := by decide +kernel

/-- Stray at a head without a slot; malformed at another width; late without the set; duplicate at slot 0; and no buffer. -/
theorem witness_ScanDiscarded :
    (State.reset.head 0).assignment = none ∧
      (let s := threeHeads 0 [set40, set41] none
       (s.head 4).state = .online ∧ (s.head 4).assignment = some (1, 2) ∧ beNat ((scanBytes 40).take 1) = (1 : Fin 4) ∧
         (s.head 4).announced = some plain ∧ plain.width = (scanSamples (scanBytes 40)).length ∧
         plain.width ≠ (scanSamples ((scanBytes 40).drop 2)).length ∧
         (∀ x ∈ (s.strand 1).sets, x.slice = scanSlice (scanBytes 41) → x.ready = true) ∧
         (s.strand 1).openSet (scanSlice (scanBytes 40)) = some set40 ∧ set40.scans[(0 : Fin 6)] ≠ none ∧
         set40.scans[(2 : Fin 6)] = none) ∧
      (let full : SliceSet := { set41 with scans := Vector.replicate 6 (some (scanOf 2 0)) }
       let s := threeHeads 0 ({ set40 with slice := 42, ready := true } :: set40 :: List.replicate 10 full) none
       s.buffersFree = 0 ∧ (s.strand 1).openSet (scanSlice (scanBytes 40)) = some set40) := by decide +kernel

/-- R167: slice 0x01020304 and samples of -2 and 256, of 20 bytes. -/
theorem witness_ScanDiscarded_layout :
    let data : List Byte := [9, 9, 9, 9, 9, 9, 9, 9, 9, 9, 9]
    let p : List Byte := [3, 1, 2, 3, 4] ++ data ++ [0xFF, 0xFE, 1, 0]
    data.length = 11 ∧ beNat (p.take 1) = 3 ∧ scanSlice p = 16909060 ∧ (scanSamples p).map BitVec.toInt = [-2, 256] ∧
      p.length = 16 + 2 * 2 := by decide

theorem witness_ScanAccepted :
    let s := threeHeads 0 [set40, set41] none
    (s.head 4).state = .online ∧ (s.head 4).assignment = some (1, 2) ∧ beNat ((scanBytes 40).take 1) = (1 : Fin 4) ∧
      (s.head 4).announced = some plain ∧ plain.width = (scanSamples (scanBytes 40)).length ∧
      (s.strand 1).openSet (scanSlice (scanBytes 40)) = some set40 ∧ set40.scans[(2 : Fin 6)] = none ∧
      s.buffersFree ≠ 0 ∧ (∀ y ∈ (s.strand 1).sets, y.slice = scanSlice (scanBytes 40) → y = set40) ∧
      set40.expected ≠ 0 ∧
      ({ set40 with scans := set40.scans.set 2 (some (scanOf 4 2)) } : SliceSet).allReceived = true ∧
      ({ set40 with expected := 15, scans := set40.scans.set 2 (some (scanOf 4 2)) } : SliceSet).allReceived =
        false := by decide +kernel

/-- The same: a SILENT head; no expected slot; the completed set first with the engine free or busy, and behind an OPEN one. -/
theorem witness_ScanAccepted_ready :
    let ev : Evaluation := { set := set41, bank := .a, mismatch := 0, offsets := Vector.replicate 6 0, began := 0 }
    let older : SliceSet := { set40 with slice := 39 }
    let filled : SliceSet := { set40 with scans := set40.scans.set 2 (some (scanOf 4 2)) }
    let ready := fun y : SliceSet => if y = set40 then { filled with ready := true } else y
    ((({ onlineAt 1 2 with state := .silent } : HeadRecord)).state = .silent) ∧
      ({ set40 with expected := 0 } : SliceSet).expected = 0 ∧ ((threeHeads 0 [set40] none).strand 1).eval = none ∧
      ((threeHeads 0 [set40] (some ev)).strand 1).eval ≠ none ∧ [set40, set41].map ready = ready set40 :: [set41] ∧
      (ready set40).ready = true ∧ [older, set40].map ready = older :: [ready set40] ∧ older.ready = false := by
  decide +kernel

/-- The engine free with the OPEN set first; busy; and an OPEN set behind a READY one. -/
theorem witness_ScanWaitExpires :
    let ev : Evaluation := { set := set41, bank := .a, mismatch := 0, offsets := Vector.replicate 6 0, began := 0 }
    let s := threeHeads 0 [set40, set41] none
    (s.strand 1).oldestOpen = some set40 ∧ (∀ y ∈ (s.strand 1).sets, y.slice = set40.slice → y = set40) ∧
      (s.strand 1).eval = none ∧ ((threeHeads 0 [set40] (some ev)).strand 1).eval ≠ none ∧
      ((threeHeads 0 [set41, set40] none).strand 1).oldestOpen = some set40 := by decide +kernel

/-- A miss at the limit and below it; of a SILENT head; and of one out of service. -/
theorem witness_ScanWaitExpires_miss :
    let s (x : HeadState) (n : Nat) := put 1 {} (State.reset.setHead 5 { onlineAt 1 2 with state := x, misses := n })
    let t := (s .online 15).reportMiss 5
    (s .online 15).head 5 = { onlineAt 1 2 with misses := 15 } ∧ ((s .online 15).strand 1).params.missLimit = 16 ∧
      t.latestRecord = some (.notice 3 0 (.headState 5 .online .silent none)) ∧ (t.head 5).counters.silences = 1 ∧
      ((s .online 14).reportMiss 5).head 5 = { onlineAt 1 2 with misses := 15, counters := { misses := 1 } } ∧
      (((s .silent 255).reportMiss 5).head 5).misses = 255 ∧ (((s .held 3).reportMiss 5).head 5).misses = 3 := by
  decide +kernel

theorem witness_EvaluationCompletes :
    let ev : Evaluation := { set := set40, bank := .a, mismatch := 0, offsets := Vector.replicate 6 0, began := 0 }
    let s := threeHeads 0 [set41] (some ev)
    (s.strand 1).eval = some ev ∧ (s.strand 1).state.live = true ∧ (s.strand 1).sets = [set41] ∧ set41.ready = true ∧
      set40.ready = false ∧ ((threeHeads 0 [] (some ev)).strand 1).sets = [] ∧
      ((s.modStrand 1 fun st => { st with state := .draining }).strand 1).state = .draining ∧
      (s.strand 1).pendingSwitch = none ∧ (s.strand 1).state ≠ .draining ∧ (s.strand 1).cuts = [] ∧
      (let d := (threeHeads 0 [] (some ev)).modStrand 1 fun st => { st with state := .draining }
       (d.strand 1).eval = some ev ∧ (d.strand 1).state = .draining ∧ (d.strand 1).sets = []) := by decide +kernel

/-- R55, R75, R97: the last evaluation of a DRAINING strand is entered, and then its run is closed at the front, its pending switch is
taken with a BANK_TAKEN without a slice, and it is CLOSED. -/
theorem test_drained :
    let ev : Evaluation := { set := set40, bank := .a, mismatch := 0, offsets := Vector.replicate 6 0, began := 0 }
    let s := (threeHeads 0 [] (some ev)).modStrand 1 fun st =>
      { st with state := .draining, pendingSwitch := some { target := .b }, bankB.generation := 9 }
    let t := after (.evaluationComplete 1) { s with linePort := (busyLine 0 s).linePort }
    (t.strand 1).state = .closed ∧ (t.strand 1).front = 205000 ∧ (t.strand 1).active = .b ∧
      (t.strand 1).pendingSwitch = none ∧ ((t.strand 1).runs.map fun r => (r.start, r.stop?, r.cls)) =
        [(200000, some 205000, .sound)] ∧
      t.linePort.own = [.notice 3 0 (.bankTaken 1 .b 9 none none), .notice 3 1 (.strandState 1 .draining .closed)] := by
  decide +kernel

/-- The release rule: no set; the oldest OPEN; the engine busy; and a READY set before and at the length of a pending switch. -/
theorem witness_EvaluationCompletes_release :
    let ev : Evaluation := { set := set40, bank := .a, mismatch := 0, offsets := Vector.replicate 6 0, began := 0 }
    let s := threeHeads 0 [set41] none
    let at_ (n : Nat) : Option PendingSwitch := some { target := .b, switchLength := some n }
    ((threeHeads 0 [] none).strand 1).sets = [] ∧ set40.ready = false ∧ ((threeHeads 0 [set41] (some ev)).strand 1).eval ≠ none ∧
      (s.strand 1).sets = set41 :: [] ∧ set41.ready = true ∧ (s.strand 1).eval = none ∧
      (s.strand 1).pendingSwitch = none ∧
      ((s.modStrand 1 fun st => { st with pendingSwitch := at_ 205000 }).strand 1).pendingSwitch = at_ 205000 ∧
      205000 ≤ set41.slice * (s.strand 1).params.pitch ∧ set41.slice * (s.strand 1).params.pitch < 205001 ∧
      s.linePort.own.length ≤ 28 := by decide +kernel

/-- R110: the rows of its table, for Δ of 23,808, 1,000, -1,000, 4, -4, -5, -1 and 1. -/
theorem test_trend_steps :
    let step (delta : Int) (k : Nat) := trendAfter (some (-delta)) k 0 + delta
    [step 23808 2, step 1000 3, step (-1000) 3, step 4 3, step (-4) 3, step (-5) 3, step (-1) 1, step 1 1] =
      [5952, 125, -125, 1, 0, -1, 0, 1] := by decide +kernel

/-- An instance judged with a verdict. -/
def judgedAs (v : GaugeVerdict) : Judged :=
  { placement := { entry := {}, first := 0, last := 0 }, stats := {}, mean := 0, trend := 0, verdict := v, excess := 0 }

theorem witness_MeanAndTrendInRange :
    ([(-1 : Int), 0] ≠ [] ∧ (∀ e ∈ [(-1 : Int), 0], -1 ≤ e ∧ e ≤ 0)) ∧
      (∀ m ∈ [(60 : Int), 80], 15360 ≤ m * 256 ∧ m * 256 ≤ 20480) ∧ 1 ≤ 1 := by decide

/-- The same: a slot without a scan, with its mismatch flag set, and with a buffer of another width; a usable buffer with one
valid sample too few and with just enough; and a window that ends at the last sample, of VOID samples and of others. -/
theorem witness_MeanAndTrendInRange_window :
    let ev (mismatch : BitVec 6) : Evaluation :=
      { set := set40, bank := .a, mismatch := mismatch, offsets := Vector.replicate 6 0, began := 0 }
    let bank (w : Nat) : Bank := { header.widths := Vector.replicate 6 w }
    let b := scanOf 2 0
    let p (minValid : Nat) : Placement := { entry := { geo := { minValid := minValid } }, first := 0, last := 63 }
    let void : Buffer := { b with samples := List.replicate 64 0x8000, scaleCode := 7 }
    set40.scans[(5 : Fin 6)] = none ∧ hasSlot (ev 1).mismatch 0 = true ∧ set40.scans[(0 : Fin 6)] = some b ∧
      b.samples.length ≠ (bank 65).header.widths[(0 : Fin 6)] ∧ hasSlot (ev 2).mismatch 0 = false ∧
      b.samples.length = (bank 64).header.widths[(0 : Fin 6)] ∧ (p 65).entry.geo.slot = (0 : Fin 6) ∧
      ((p 65).stats b 0).n < 65 ∧ 64 ≤ ((p 64).stats b 0).n ∧ [some (judgedAs .sound)].length ≤ [(none : Option Int)].length ∧
      ([1, 2, 4, 5, 8, 10, 16, 20] : List Int)[void.scaleCode]? = some 20 ∧ (p 1).first ≤ (p 1).last ∧
      (p 1).last < void.samples.length ∧ ((void.samples.map BitVec.toInt).filter fun r => r != -32768) = [] ∧
      ((b.samples.map BitVec.toInt).filter fun r => r != -32768) ≠ [] := by decide +kernel

theorem witness_ExcessIffDimension :
    let e : GaugeEntry := { tol := { lower := -150, upper := 150 } }
    e.tol.lower ≤ 0 ∧ 0 ≤ e.tol.upper ∧ e.tol.upper < 151 ∧ -151 < e.tol.lower ∧
      (2655340 : Int).natAbs ≤ 2655340 := by decide

/-- The four verdicts at their limits: an entry with Lt = -150, Ut = 150, w = 8 and surface width 4; and w = 0. -/
theorem witness_ExcessIffDimension_verdicts :
    let e : GaugeEntry := { geo := { surfaceWidth := 4 }, tol := { lower := -150, upper := 150, warn := 8 } }
    verdictOf e 151 0 0 = .dimension ∧ verdictOf e 150 4 99999 = .surface ∧ verdictOf e (-150) 3 19201 = .drift ∧
      verdictOf e 0 3 (-19201) = .drift ∧ verdictOf e 0 3 19200 = .sound ∧
      verdictOf { e with tol := { e.tol with warn := 0 } } 0 3 99999 = .sound := by decide +kernel

/-- R111: the warn limits at their greatest magnitude, with w = 16; w = 0; and Lt = Ut = 0; and an instance that is judged. -/
theorem witness_ExcessIffDimension_limits :
    let ev : Evaluation := { set := set40, bank := .a, mismatch := 0, offsets := Vector.replicate 6 0, began := 0 }
    (ev.judge { header.widths := Vector.replicate 6 64 } { entry := {}, first := 0, last := 63 } none).isSome = true ∧
    let e (l u : Int) (w : Nat) : GaugeEntry := { tol := { lower := l, upper := u, warn := w } }
    let f := e (-100000) 100000 16
    (-100000 ≤ f.tol.lower ∧ f.tol.upper ≤ 100000 ∧ f.tol.warn ≤ 16 ∧ f.tol.warn = 16) ∧
      f.tol.upper * f.tol.warn * 16 = 25600000 ∧ (e 0 0 0).tol.warn = 0 ∧ (e 0 0 1).tol.lower = 0 ∧
      (e 0 0 1).tol.upper = 0 ∧ 0 < (e 0 0 1).tol.warn ∧ verdictOf (e 0 0 1) 1 0 0 = .dimension ∧
      verdictOf (e 0 0 1) 0 0 1 = .drift ∧ verdictOf (e 0 0 1) 0 0 0 = .sound ∧
      verdictOf (e 0 0 0) 0 0 1 = .sound := by decide +kernel

/-- DRIFT with two VOID instances, above and at the allowance; SURFACE; and SOUND with every instance VOID. -/
theorem witness_SliceResultFormed :
    let js := [none, some (judgedAs .sound), some (judgedAs .drift), none]
    (∃ j, some j ∈ js ∧ j.verdict.cls = .drift) ∧ (judgedAs .sound).verdict.cls.severity ≤ ConditionClass.drift.severity ∧
      ¬(voidCountOf js ≤ 1 ∨ 2 ≤ ConditionClass.drift.severity) ∧ voidCountOf js ≤ 2 ∧
      2 ≤ ConditionClass.surface.severity ∧ js = [none, some (judgedAs .sound)] ++ some (judgedAs .drift) :: [none] ∧
      js.length ≤ 256 ∧ (judgedAs .drift).excess.natAbs ≤ 2655340 := by
  exact ⟨⟨judgedAs .drift, by decide, rfl⟩, by decide⟩

/-- R113, R117: two DIMENSION excesses, one VOID instance, and the cause instance; and instances judged past the filters given. -/
theorem witness_SliceResultFormed_counts :
    let ev : Evaluation := { set := set40, bank := .a, mismatch := 0, offsets := Vector.replicate 6 0, began := 0 }
    let j (e : Int) : Judged := { judgedAs .dimension with excess := e, stats := { n := 4, peak := some 9 }, mean := 7 }
    let r := ev.result {} none [none, some (j (-30)), some (j 12), some (judgedAs .drift)]
    let ps : List Placement := [{ entry := {}, first := 0, last := 63 }, { entry := {}, first := 1, last := 2 }]
    (r.area, r.voidCount, r.soundCount, r.driftCount, r.surfaceCount, r.dimensionCount) = (-18, 1, 0, 1, 0, 2) ∧
      (r.causeInstance.map fun c => (c.number, c.n, c.mean, c.peak)) = some (1, 4, 7, 9) ∧
      ps[1]? = some { entry := {}, first := 1, last := 2 } ∧ ([some 5] : List (Option Int))[1]? = none ∧
      (ev.judgeAll { header.widths := Vector.replicate 6 64 } ps [some 5]).length = 2 := by decide +kernel

/-- Slice 40 of pitch 5,000: a mark that reaches one micrometre into it on either side, and marks that end or begin at its ends;
a weld zone beside a stop mark. -/
theorem witness_SliceResultFormed_overlay :
    let ev : Evaluation := { set := set40, bank := .a, mismatch := 0, offsets := Vector.replicate 6 0, began := 0 }
    let m (k : MarkKind) (a b : Nat) : Mark := { kind := k, start := a, stop := b }
    let class_ (l : List Mark) := (({ marks := l } : Strand).evaluate ev).cls
    class_ [m .stopMark 190000 200001] = .stopMark ∧ class_ [m .stopMark 204999 205000] = .stopMark ∧
      class_ [m .stopMark 190000 200000, m .weldZone 205000 210000] = .sound ∧
      class_ [m .stopMark 190000 200001, m .weldZone 204999 210000] = .weldZone := by decide +kernel

theorem witness_ValidationPasses :
    ({ slots := #v[none, some 6, none, none, some 9, none] } : Strand).validate (expanded 12) = none ∧
      (expanded 12).template ≠ [] := by decide +kernel

/-- R91, R82: no entry; entry 2 past its width; a slot without a head before a window past it; nine entries of 32 instances; a
greatest minimum; and the instances of entry 0. -/
theorem witness_ValidationPasses_failures :
    let st : Strand := { slots := #v[none, some 6, none, none, some 9, none] }
    let one (g : Geometry) (n : Nat) : Bank :=
      { header := { entryCount := n }, entries := Vector.replicate 64 { geo := g } }
    st.validate {} = some (0, .empty) ∧ ({} : Bank).template = [] ∧ st.validate (expanded 14) = some (2, .window) ∧
      st.validate (one { slot := 0, first := 9, last := 3 } 1) = some (0, .slot) ∧
      st.validate (one { slot := 1, last := 9, repeats := 31 } 9) = some (8, .instances) ∧
      st.validate (one { slot := 1, last := 9, minValid := 11 } 1) = some (0, .minValid) ∧
      st.validate (one { slot := 1, last := 9, minValid := 10, floor := 1 } 2) = some (0, .band) ∧
      ((expanded 12).placements.take 5).map (fun p => (p.first, p.last)) =
        [(20, 27), (60, 67), (100, 107), (140, 147), (0, 63)] := by decide +kernel

/-- A slice at the front, and the batch of a slice that skips one index and of one that skips none. -/
theorem witness_SliceExtendsCover :
    let st : Strand :=
      { state := .running, front := 10000, lastReleased := some 1, runs :=
        [{ start := 0, body := .running 0 0, cls := .drift, cause := none, sliceCount := 2 }] }
    MapLaw st ∧ st.state ≠ .closed ∧ 1 ≤ st.params.pitch ∧ Tiles st.runs st.retired (2 * st.params.pitch) ∧
      st.nextIndex = 2 ∧ 2 ≤ 3 ∧ 2 ≤ 2 := by
  exact ⟨by decide, by decide, by decide, by simp [Run.stopAt, Run.stop?, Tiles], by decide⟩

theorem witness_CutTakesItsLength :
    Tiles (twoCuts.strand 0).runs 1000000 1100000 ∧ 1000000 < 1062500 ∧ 1062500 ≤ 1100000 ∧ 1100000 ≤ 1100000 := by
  simp [twoCuts, put, State.strand, State.setStrand, Tiles, Run.stopAt, Run.stop?]

/-- A strand with `n` runs of 10,000 um each from 0 on, the last one open, and a mark kind that all of them are under. -/
def mapOf (n : Nat) (x : StrandState) : State :=
  put 0
    { state := x, front := n * 10000, runs := (List.range n).map fun k =>
        { start := k * 10000, body := if k + 1 = n ∧ x ≠ .closed then .running 0 0 else .closed ((k + 1) * 10000) 0 false,
          cls := if k % 2 = 0 then .sound else .drift, cause := none, sliceCount := 2 } } State.reset

/-- R130, R133: an open SURFACE run that a stop mark splits in the middle closes two parts, each with RUN advice (in order along the
strand, entry 27), and its last part stays open. -/
theorem test_split_advice :
    let r : Run := { start := 0, body := .running 9 0, cls := .surface, cause := none, sliceCount := 6 }
    let t := (put 0 { state := .running, front := 30000, runs := [r] } State.reset).applyBack 0
      { kind := .stopMark, start := 10000, stop := 20000 }
    (t.strand 0).runs.map (fun x => (x.start, x.stop?, x.cls)) =
        [(0, some 10000, .surface), (10000, some 20000, .stopMark), (20000, none, .surface)] ∧
      t.linePort.tx = some (.own (.advice { strand := 0, kind := .run, cls := .surface, lo := 0, hi := 60000 })) ∧
      t.linePort.own = [.advice { strand := 0, kind := .run, cls := .stopMark, lo := 0, hi := 70000 }] ∧
      (t.strand 0).mapCounters.runsClosed = 2 := by decide +kernel

/-- R124: a worse slice opens the 96th run, and is merged into the 96th run with one notice. -/
theorem test_merge :
    let e (k : Nat) : Entry := { slice := k, cls := .dimension, cause := some (.label 7), area := 9 }
    let t := (mapOf 95 .running).enterSlice 0 (e 190)
    let u := (mapOf 96 .running).enterSlice 0 (e 192)
    (t.strand 0).runs.length = 96 ∧ t.handler.noticeSeq = 0 ∧
      (u.strand 0).openRun = some
        { start := 950000, body := .running 9 0, cls := .dimension, cause := some (.label 7), sliceCount := 3,
          merged := true } ∧
      u.latestRecord = some (.notice 3 0 (.mapMerged 0 950000 .dimension)) := by decide +kernel

/-- The cases of a slice: no run, and a closed last run; an open last run, and a slice of its class or of a worse one, at 95 and at
96 runs; a lower slice that the settle counter still takes, and one that reaches the settle count; classes without advice and with. -/
theorem witness_SliceExtendsCover_cases :
    let st := (mapOf 95 .running).strand 0
    let r : Run := { start := 940000, body := .running 0 0, cls := .sound, cause := none, sliceCount := 2 }
    (∀ x, (State.reset.strand 0).runs.getLast? = some x → x.isOpen = false) ∧
      (∀ x, ((mapOf 2 .closed).strand 0).runs.getLast? = some x → x.isOpen = false) ∧
      (∃ before, st.runs = before ++ [r]) ∧ r.body = .running 0 0 ∧ r.cls = .sound ∧
      r.cls.severity < ConditionClass.drift.severity ∧ st.runs.length < 96 ∧
      96 ≤ ((mapOf 96 .running).strand 0).runs.length ∧ r.merged = false ∧
      (let low := (mapOf 2 .running).strand 0
       low.openRun.map Run.cls = some .drift ∧ ConditionClass.sound.severity < ConditionClass.drift.severity ∧
         low.settle + 1 < low.activeBank.header.settleCount ∧
         low.activeBank.header.settleCount ≤ ({ low with settle := 2 } : Strand).settle + 1) ∧
      ¬3 ≤ ConditionClass.unseen.severity ∧ 3 ≤ ConditionClass.surface.severity := by
  exact ⟨by decide +kernel, by decide +kernel, ⟨((mapOf 95 .running).strand 0).runs.dropLast, by decide +kernel⟩,
    by decide +kernel⟩

/-- A cut inside the first run; a run that a region does not meet, and one that it meets in each of the four forms; a mark behind
the front whose region is empty, splits the map, or would split it beyond 96 runs. -/
theorem witness_CutTakesItsLength_split :
    let r : Run := { start := 10, body := .closed 20 0 false, cls := .sound, cause := none, sliceCount := 2 }
    let region (s : State) (m : Mark) : Nat × Nat :=
      let st := s.strand 0
      (max st.retired (m.start / 5000 * 5000), min st.front ((m.stop + 4999) / 5000 * 5000))
    let parts (s : State) (m : Mark) : List Run :=
      (s.strand 0).runs.flatMap fun r => r.splitBy m.kind (region s m) (s.strand 0).front 5000
    let m : Mark := { kind := .stopMark, start := 10000, stop := 10001 }
    (r.start < 11 ∧ 11 < r.stopAt 30) ∧ (19 < 20 ∧ 10 < r.stopAt 30) ∧ ¬r.Under .stopMark 20 30 30 ∧
      (r.Under .stopMark 11 19 30 ∧ r.start < 11 ∧ 19 < r.stopAt 30) ∧ (r.Under .stopMark 11 20 30 ∧ ¬20 < r.stopAt 30) ∧
      (r.Under .stopMark 10 19 30 ∧ ¬r.start < 10) ∧ r.Under .weldZone 10 20 30 ∧
      (let s := mapOf 0 .running
       (region s m).2 ≤ (region s m).1) ∧
      (let s := mapOf 95 .running
       (region s m).1 < (region s m).2 ∧ (parts s m).length ≤ 96 ∧
         ∀ x ∈ (s.strand 0).runs, x.isOpen = true → ¬x.Under m.kind (region s m).1 (region s m).2 950000) ∧
      (let s := mapOf 96 .running
       96 < (parts s m).length ∧ (s.strand 0).runs.length ≤ 96 ∧ s.linePort.own.length ≤ 28 ∧
         (∀ x ∈ (s.strand 0).runs.take 1, ¬x.Under m.kind (region s m).1 (region s m).2 960000) ∧
         ∃ x ∈ (s.strand 0).runs, x.Under m.kind (region s m).1 (region s m).2 960000) := by decide +kernel

theorem witness_CutTakesItsLength_cover : Tiles ((mapOf 2 .running).strand 0).runs 0 20000 :=
  ⟨rfl, by decide +kernel, rfl, by decide +kernel, rfl⟩

/-- A strand that does not exist; an IDLE one; a cut at the retired point; one at the last cut; a full list; a cut taken. -/
theorem witness_CutNoticeJudged :
    let st : Strand :=
      { state := .running, retired := 5, cuts := List.replicate 4 { position := 9, merged := false } }
    4 ≤ 4 ∧ (State.reset.strand 3).state = .idle ∧ st.state ≠ .idle ∧ 5 ≤ st.retired ∧
      st.cuts = List.replicate 3 { position := 9, merged := false } ++ [{ position := 9, merged := false }] ∧ 9 ≤ 9 ∧
      4 ≤ st.cuts.length ∧ ({ st with cuts := st.cuts.tail } : Strand).cuts.length < 4 := by decide

theorem witness_CloseCheckClosesPiece :
    let cut : Cut := { position := 1100000, merged := false }
    let s := twoCuts.modStrand 0 fun st => { st with cuts := [cut] }
    (s.strand 0).cuts = cut :: [] ∧ (s.strand 0).closed = [] ∧ cut.position ≤ (s.strand 0).front ∧
      (s.strand 0).state ≠ .closed ∧ s.linePort.own.length < 32 ∧
      32 ≤ ({ s with linePort := (busyLine 32 s).linePort } : State).linePort.own.length ∧
      ((s.modStrand 0 fun st => { st with front := 1099999 }).strand 0).front < cut.position := by decide +kernel

/-- A cut at the front; one beyond the front of a CLOSED strand, with a further one behind it or none, with closed pieces or
none, and with one free entry of the Line Port or none. -/
theorem witness_CloseCheckClosesPiece_cuts :
    let cut : Cut := { position := 2040000, merged := false }
    let p := Strand.pieceOf {} 2 cut false []
    let s (cuts : List Cut) (closed : List Piece) : State := tailCut.modStrand 2 fun st => { st with cuts := cuts, closed := closed }
    ((s [cut] []).strand 2).front < cut.position ∧ ((s [cut] []).strand 2).state = .closed ∧
      ((s [cut] []).strand 2).closed = [] ∧ ((s [cut, { cut with position := 2040001 }] (List.replicate 7 p)).strand 2).closed ≠ [] ∧
      ((s [cut] (List.replicate 7 p)).strand 2).closed.length < 8 ∧
      (let u := (s [cut] []).addTail 2 cut.position
       (takeRuns 2040000 (u.strand 2).front 5000 (u.strand 2).runs).2 = [] ∧ u.linePort.own.length < 32) ∧
      32 ≤ ((busyLine 32 (s [cut] [])).addTail 2 cut.position).linePort.own.length :=
  by decide +kernel

/-- A tail whose runs fit; one of two runs at 95 runs; and one at a full list, whose last run is closed. -/
theorem witness_CloseCheckClosesPiece_tail :
    let x := 970000
    let marked (n : Nat) : State := (mapOf n .closed).modStrand 0 fun st =>
      { st with marks := [{ kind := .stopMark, start := 960001, stop := 960002 }] }
    (∀ r ∈ ((mapOf 95 .closed).strand 0).runs, r.isOpen = false) ∧
      (let st := (mapOf 95 .closed).strand 0
       st.front < x ∧ st.runs.length + (st.tailRuns x).length ≤ 96) ∧
      (let st := (marked 95).strand 0
       st.front < x ∧ 96 < st.runs.length + (st.tailRuns x).length ∧ (∀ m ∈ st.marks, m.start < m.stop) ∧
         st.runs.length < 96) ∧
      (let st := (marked 96).strand 0
       st.front < x ∧ 96 < st.runs.length + (st.tailRuns x).length ∧ 96 ≤ st.runs.length ∧
         ∃ r ∈ st.runs.getLast?, r.body = .closed 960000 0 false) := by decide +kernel

/-- R141, R151: a cut at the front retires the open run with a settle counter of 0, and counts the piece. -/
theorem test_cut_at_front :
    let s := (mapOf 3 .running).modStrand 0 fun st => { st with settle := 2, cuts := [{ position := 30000, merged := false }] }
    let t := (s.closeCut 0 { position := 30000, merged := false }).strand 0
    t.runs = [] ∧ t.settle = 0 ∧ t.retired = 30000 ∧ t.pieceCounters.runsRetired = 3 ∧ t.pieceCounters.piecesClosed = 1 ∧
      t.pieceCounters.piecesHold = 1 ∧ t.pieceCounters.piecesPrime = 0 := by decide +kernel

/-- R144: two DRIFT runs, the first of them with the cause. -/
theorem witness_PieceVerdictJudged_lengths :
    let r (a b : Nat) (c : ConditionClass) (z : Option Cause) : Run :=
      { start := a, body := .closed b 0 false, cls := c, cause := z, sliceCount := 1 }
    let l := [r 0 4 .sound none, r 4 9 .drift (some (.label 5)), r 9 11 .drift (some (.label 6))]
    let p := Strand.pieceOf {} 1 { position := 11, merged := false } false l
    p.lengths = #v[4, 7, 0, 0, 0, 0, 0] ∧ p.worst = .drift ∧ p.cause = some (.label 5) ∧ l ≠ [] := by decide +kernel

theorem witness_PieceVerdictJudged :
    let r : Run := { start := 0, body := .closed 1 0 false, cls := .dimension, cause := none, sliceCount := 1 }
    ∃ x ∈ [r], 4 ≤ x.cls.severity ∧ 0 < x.length := by decide

/-- R125, R126: folds at both ends of A and at both limits of O; R141: slices that begin in [5, 10) and in [6, 10) at pitch 5. -/
theorem witness_AreasFoldAndReport_limits :
    addArea 2147483647 30 1 = (-2147483648, 31) ∧ addArea 2147483647 31 1 = (-2147483648, 31) ∧
      addArea (-2147483648) (-31) (-1) = (2147483647, -32) ∧ addArea (-2147483648) (-32) (-1) = (2147483647, -32) ∧
      addArea 2147483646 3 1 = (2147483647, 3) ∧ reportArea 5 31 = (2147483647, true) ∧
      reportArea 5 (-1) = (-2147483648, true) ∧ reportArea (-5) 0 = (-5, false) ∧ slicesBetween 5 5 10 = 1 ∧
      slicesBetween 5 6 10 = 0 ∧ slicesBetween 5 6 11 = 1 := by decide +kernel

/-- Four areas from an empty accumulator, and the greatest reported areas. -/
theorem witness_AreasFoldAndReport :
    (∀ v ∈ [(600000000 : Int), -679767040, 679767040], -679767040 ≤ v ∧ v ≤ 679767040) ∧ (-32 : Int) + 3 ≤ 0 ∧
      (0 : Int) + 3 ≤ 31 ∧
      (let r : Run := { start := 0, body := .closed 1 2147483647 true, cls := .sound, cause := none, sliceCount := 1 }
       (-2147483648 ≤ r.reported.1) ∧ r.reported.1 ≤ 2147483647) := by decide

/-- HELD and not; a valid and an invalid announce; fields held before that differ and that do not, of an assigned head in and out
of service, and with an evaluation in flight or none; and each range of the payload at its ends. -/
theorem witness_AnnounceJudged :
    let a := { plain with width := 256, order := SampleOrder.reversed }
    let changed (o : Announced) : Prop := o.order ≠ a.order ∨ o.sign ≠ a.sign ∨ o.scaleCode ≠ a.scaleCode ∨ o.width ≠ a.width
    let ev : Evaluation := { set := set40, bank := .a, mismatch := 0, offsets := Vector.replicate 6 0, began := 0 }
    (State.reset.head 0).state ≠ .held ∧ ((State.reset.setHead 0 { state := .held }).head 0).state = .held ∧
      (judgeAnnounce [0xA5, 0xC3, 1, 0, 0, 0, 0, 0, 0, 7]).toOption = some a ∧
      (judgeAnnounce [0xA5, 0xC3, 0, 63, 3, 1, 0, 0, 0, 7]).toOption = none ∧
      (let s := threeHeads 0 [] none
       (s.head 4).announced = some plain ∧ (s.head 4).state = .online ∧ (s.head 4).assignment = some (1, 2) ∧
         (s.strand 1).eval = none ∧ s.linePort.own.length ≤ 27) ∧
      changed plain ∧ ¬changed a ∧ ((threeHeads 0 [] (some ev)).strand 1).eval ≠ none ∧
      (State.reset.head 0).announced = none ∧ (onlineAt 1 2).state = .online ∧
      ({ onlineAt 1 2 with state := .awaiting } : HeadRecord).state ≠ .online ∧
      (0xC3A5 = 0xC3 * 256 + 0xA5 ∧ 64 ≤ 0 * 256 + 64 ∧ 2 * 256 + 0 ≤ 512 ∧ 0 * 256 + 63 < 64 ∧ 512 < 2 * 256 + 1) ∧
      (7 ≤ 7 ∧ 7 < 8 ∧ 1 ≤ 1 ∧ 1 < 2) := by decide +kernel

/-- R37, R30: an announce that brings a SILENT head ONLINE with another convention. -/
theorem test_announce_notices :
    let s := threeHeads 0 [] none
    let t := State.announce
      { s.setHead 4 { onlineAt 1 2 with state := .silent } with linePort := (busyLine 0 s).linePort } 4
      [0xA5, 0xC3, 0, 64, 0, 0, 0, 0, 0, 7]
    t.linePort.own = [.notice 3 0 (.headState 4 .silent .online none),
      .notice 3 1 (.headReannounced 4 plain { plain with order := .reversed })] := by decide +kernel

theorem witness_HeadWaitsExpire :
    ((State.reset.setHead 5 { state := .releasing, deadline := some 20000 }).head 5).deadline = some 20000 ∧
      ((State.reset.setHead 5 { state := .releasing, deadline := some 20000 }).head 5).state = .releasing ∧
      ((State.reset.setHead 5 { state := .awaiting, deadline := some 0 }).head 5).deadline = some 0 ∧
      ((State.reset.setHead 5 { state := .awaiting, deadline := some 0 }).head 5).state = .awaiting := by decide +kernel

/-- A queue with one free entry; a full one with a TRIGGER; and a full one of other frames. -/
theorem witness_HeadWaitsExpire_queue :
    let control (x : HeadFrame) : Prop := ∀ i k mask, x ≠ .trigger i k mask
    ({ own := List.replicate 7 (.hold 0) } : HeadPort).own.length < 8 ∧
      8 ≤ ({ own := List.replicate 6 (.hold 0) ++ .trigger 0 1 1 :: [.release 3] } : HeadPort).own.length ∧
      (∀ x ∈ [HeadFrame.release 3], control x) ∧ (∀ x ∈ List.replicate 8 (HeadFrame.hold 0), control x) := by
  refine ⟨by decide, by decide, ?_, ?_⟩
  · simp
  · intro x hx; obtain ⟨-, rfl⟩ := List.mem_replicate.mp hx; simp

/-! ### Requests -/

/-- A request that is alone in the queue may be carried out. -/
theorem serves (s : State) (c : Instr) (k : SourceClass) (h : s.handler = {}) : Serves (asked s c k) (ask c k) c := by
  simp [Serves, asked, ask, h]

theorem witness_RequestRefusedUnchanged :
    (Serves (asked State.reset (.unknownRequest 255) .none) (ask (.unknownRequest 255) .none) (.unknownRequest 255)) ∧
      Serves (asked State.reset .routeRead .none) (ask .routeRead .none) .routeRead ∧
      Serves (asked State.reset .restart .operator) (ask .restart .operator) .restart ∧
      Serves (asked State.reset (.entryRead 0 1 64) .engineering) (ask (.entryRead 0 1 64) .engineering)
        (.entryRead 0 1 64) := ⟨serves _ _ _ rfl, serves _ _ _ rfl, serves _ _ _ rfl, serves _ _ _ rfl⟩

/-- R155: numbers outside their ranges, from an OPERATOR. -/
theorem witness_RequestRefusedUnchanged_operator :
    ([.headRead 16, .headRelease 16, .strandRead 4, .strandStart 4, .strandStop 4, .mapRead 0 96, .bankRead 0 2,
      .entryRead 0 0 64, .countersRead 6, .entryWriteTolerance 0 1 64 0 {}] : List Instr).all
        (fun c => statusOf (done c .operator State.reset) == some .outOfRange) = true := by decide +kernel

theorem witness_ReadsAnswerAndChangeNothing :
    Serves (asked State.reset (.mapRead 3 95) .operator) (ask (.mapRead 3 95) .operator) (.mapRead 3 95) ∧
      (∀ c ∈ [Instr.headRead 15, .strandRead 3, .bankRead 3 1, .entryRead 3 1 63, .countersRead 0, .countersRead 1,
        .countersRead 5, .routeRead], Serves (asked State.reset c .operator) (ask c .operator) c) ∧
      State.reset.counterGroup 5 = some (State.reset.strand 3).counterList :=
  ⟨serves _ _ _ rfl, fun _ _ => serves _ _ _ rfl, rfl⟩

/-- A strand whose bank B has a generation and whose switch may be pending. -/
def bankState (generation : Nat) (p : Option PendingSwitch) : State :=
  put 3 { state := .running, bankB := { generation := generation }, pendingSwitch := p } State.reset

theorem witness_BankWriteRefused :
    (∀ n : Nat, ∀ s, s.handler = {} → Serves (asked s (.bankCopy 3 n) .engineering) (ask (.bankCopy 3 n) .engineering)
      (.bankCopy (3 : Fin 4) n)) ∧
      ((bankState 0 none).strand 3).role .a = .active ∧
      ((bankState 0 (some { target := .b })).strand 3).role .b = .pending ∧
      (((bankState 5 none).strand 3).role .b = .standby ∧ (((bankState 5 none).strand 3).bank .b).generation ≠ 4) ∧
      (((bankState 4294967295 none).strand 3).bank .b).generation = 4294967295 ∧
      BankId.b = ((bankState 0 none).strand 3).active.other :=
  ⟨fun _ s h => serves s _ _ h, by decide +kernel⟩

/-- R83: an OPERATOR's TOLERANCE write to the active bank, to a pending one, and with another generation; and at the greatest one. -/
theorem witness_BankWriteRefused_operator :
    let ask (b n : Nat) (s : State) := statusOf (done (.entryWriteTolerance 3 b 63 n {}) .operator s)
    ask 0 0 (bankState 0 none) = some .activeBank ∧ ask 1 0 (bankState 0 (some { target := .b })) = some .pending ∧
      ask 1 4 (bankState 5 none) = some .stale ∧ ask 1 4294967295 (bankState 4294967295 none) = some .outOfRange := by
  decide +kernel

/-- R86: the values of its examples, and a value above its range. -/
theorem test_nearer_ends :
    (clampHeader { entryCount := 70, widths := Vector.replicate 6 40 }).entryCount = 64 ∧
      (clampHeader { widths := Vector.replicate 6 40 }).widths[5] = 64 ∧ (clampTolerance { smoothing := 0 }).smoothing = 1 ∧
      (clampTolerance { upper := -20 }).upper = 0 ∧ (clampGeometry { nominal := -1000001 }).nominal = -1000000 ∧
      (clampGeometry { surfaceWidth := 65 }).surfaceWidth = 64 ∧ (clampParams { pitch := 999 }).pitch = 1000 ∧
      (clampParams { scanWait := 60000 }).scanWait = 50000 := by decide +kernel

theorem witness_BankWriteAccepted :
    ((bankState 4294967294 none).strand 3).role .b = .standby ∧
      (((bankState 4294967294 none).strand 3).bank .b).generation = 4294967294 ∧ 4294967294 < 4294967295 ∧
      ({ slot := 5 } : Geometry).slot ≤ 5 ∧
      Serves (asked (bankState 4294967294 none) (.entryWriteTolerance 3 1 63 4294967294 {}) .operator)
        (ask (.entryWriteTolerance 3 1 63 4294967294 {}) .operator)
        (.entryWriteTolerance (3 : Fin 4) BankId.b.code (63 : Fin 64) 4294967294 {}) :=
  ⟨by decide +kernel, by decide +kernel, by decide, by decide, serves _ _ _ rfl⟩

/-- A strand in a state, with a bank that passes its validation as standby. -/
def switchable (x : StrandState) (p : Option PendingSwitch) : State :=
  put 0
    { state := x, slots := #v[none, some 6, none, none, some 9, none], bankB := expanded 12, pendingSwitch := p } State.reset

theorem witness_BankSwitchJudged :
    (∀ x p, Serves (asked (switchable x p) (.bankSwitch 0 0) .engineering) (ask (.bankSwitch 0 0) .engineering)
      (.bankSwitch (0 : Fin 4) 0)) ∧
      ((switchable .running (some { target := .b })).strand 0).pendingSwitch ≠ none ∧
      (let st := (switchable .draining none).strand 0
       st.pendingSwitch = none ∧ st.state = .draining ∧ st.validate (st.bank st.active.other) = none) ∧
      (State.reset.strand 0).validate ((State.reset.strand 0).bank .b) = some (0, .empty) :=
  ⟨fun x p => serves (switchable x p) _ _ rfl, by decide +kernel⟩

theorem witness_BankSwitchCancelled :
    Serves (asked State.reset (.bankSwitchCancel 3) .engineering) (ask (.bankSwitchCancel 3) .engineering)
      (.bankSwitchCancel (3 : Fin 4)) ∧ BankId.b ≠ (State.reset.strand 3).active := ⟨serves _ _ _ rfl, by decide⟩

/-- A free head, a head at two slots, and a strand that is not IDLE. -/
theorem witness_StrandConfigured :
    let slots : Vector (Option (Fin 16)) 6 := #v[some 0, none, none, none, none, some 15]
    let bytes : Vector Nat 6 := #v[0, 255, 255, 255, 255, 15]
    Serves (asked State.reset (.strandConfigWrite 1 bytes {}) .engineering) (ask (.strandConfigWrite 1 bytes {}) .engineering)
        (.strandConfigWrite (1 : Fin 4) bytes {}) ∧
      (∀ k : Fin 6, (slots[k] = none ∧ bytes[k] = 255) ∨ ∃ h : Fin 16, slots[k] = some h ∧ bytes[k] = h) ∧
      (State.reset.strand 1).state = .idle ∧
      (∀ k : Fin 6, ¬∃ h : Fin 16, slots[k] = some h ∧ ((∃ u : Fin 6, u ≠ k ∧ slots[u] = some h) ∨
        ∃ (j : Fin 4) (u : Fin 6), j ≠ 1 ∧ (State.reset.strand j).slots[u] = some h)) ∧
      ((threeHeads 0 [] none).strand 1).state ≠ .idle ∧ ((threeHeads 0 [] none).strand 1).slots[(0 : Fin 6)] = some 2 :=
  ⟨serves _ _ _ rfl, by decide +kernel⟩

/-- R31: an announced width of 64 differs from the default 512 of the new slot, and a head that leaves its slot is clear. -/
theorem witness_StrandConfigured_mismatch :
    let s := (threeHeads 0 [] none).modStrand 1 fun st => { st with state := .idle }
    let t := done (.strandConfigWrite 1 #v[3, 255, 255, 255, 255, 15] {}) .engineering (s.setHead 2
      { onlineAt 1 0 with mismatch := true })
    statusOf t = some .accepted ∧ (t.head 3).assignment = some (1, 0) ∧ (t.head 3).mismatch = true ∧
      (t.head 15).assignment = some (1, 5) ∧ (t.head 15).mismatch = false ∧ (t.head 2).assignment = none ∧
      (t.head 2).mismatch = false := by decide +kernel

theorem witness_TravelConfigured :
    Serves (asked State.reset (.travelConfigWrite { num := 0 }) .engineering)
        (ask (.travelConfigWrite { num := 0 }) .engineering) (.travelConfigWrite { num := 0 }) ∧
      (∀ i, (State.reset.strand i).state = .idle) ∧ ((bankState 0 none).strand 3).state ≠ .idle ∧
      (ask .restart .operator).sourceClass ≠ .engineering := ⟨serves _ _ _ rfl, by decide +kernel⟩

theorem witness_CalibrationAndTablesWritten :
    Serves (asked State.reset (.headCalWrite 15 (-1000001) 255 1000) .engineering)
        (ask (.headCalWrite 15 (-1000001) 255 1000) .engineering) (.headCalWrite (15 : Fin 16) (-1000001) 255 1000) ∧
      Serves (asked State.reset (.routeWrite 63 1 2) .engineering) (ask (.routeWrite 63 1 2) .engineering)
        (.routeWrite (63 : Fin 64) RouteAction.stop.code SourceClass.engineering.code) ∧
      Serves (asked State.reset (.noticeTargetWrite 63) .engineering) (ask (.noticeTargetWrite 63) .engineering)
        (.noticeTargetWrite 63) := ⟨serves _ _ _ rfl, serves _ _ _ rfl, serves _ _ _ rfl⟩

theorem witness_HeadHeld :
    Serves (asked State.reset (.headHold 15) .operator) (ask (.headHold 15) .operator) (.headHold 15) ∧
      Serves (asked State.reset (.headHold 16) .operator) (ask (.headHold 16) .operator) (.headHold 16) ∧
      Serves (asked State.reset (.headHold 0) .none) (ask (.headHold 0) .none) (.headHold 0) ∧
      15 = (15 : Fin 16).val ∧ (State.reset.head 15).state ≠ .held ∧
      ((State.reset.setHead 0 { state := .held }).head 0).state = .held :=
  ⟨serves _ _ _ rfl, serves _ _ _ rfl, serves _ _ _ rfl, by decide⟩

/-- R37: the records of a hold and of a release of an ONLINE head, with the reply last. -/
theorem test_head_notices :
    let s := State.reset.setHead 5 (onlineAt 1 2)
    let own (c : Instr) := (done c .operator { s with linePort := (busyLine 0 s).linePort }).linePort.own
    let reply (c : Instr) := Record.reply ((ask c .operator).reply ⟨.accepted, []⟩)
    own (.headHold 5) = [.notice 3 0 (.headState 5 .online .held none), reply (.headHold 5)] ∧
      own (.headRelease 5) = [.notice 3 0 (.headState 5 .online .held none),
        .notice 3 1 (.headState 5 .held .releasing none), reply (.headRelease 5)] := by decide +kernel

theorem witness_HeadReleased :
    Serves (asked State.reset (.headRelease 5) .operator) (ask (.headRelease 5) .operator) (.headRelease (5 : Fin 16)) ∧
      (ask (.headRelease 5) .operator).sourceClass ≠ .none ∧ (State.reset.head 5).state = .offline ∧
      (State.reset.head 5).releaseDelay ≠ 0 ∧
      ((State.reset.setHead 5 { state := .silent, releaseDelay := 0 }).head 5).releaseDelay = 0 ∧
      ((State.reset.setHead 5 { state := .awaiting }).head 5).state = .awaiting := ⟨serves _ _ _ rfl, by decide +kernel⟩

/-- An IDLE strand with a valid active bank. -/
def startable : State :=
  put 0 { slots := #v[none, some 6, none, none, some 9, none], bankA := expanded 12 } State.reset

theorem witness_StrandStarted :
    Serves (asked startable (.strandStart 0) .operator) (ask (.strandStart 0) .operator) (.strandStart (0 : Fin 4)) ∧
      (startable.strand 0).state = .idle ∧ startable.travel.limitReached = false ∧
      (startable.strand 0).validate (startable.strand 0).activeBank = none ∧
      (State.reset.strand 0).validate (State.reset.strand 0).activeBank = some (0, .empty) ∧
      ((bankState 0 none).strand 3).state ≠ .idle := ⟨serves _ _ _ rfl, by decide +kernel⟩

theorem witness_StrandStopped :
    Serves (asked twoCuts (.strandStop 0) .operator) (ask (.strandStop 0) .operator) (.strandStop (0 : Fin 4)) ∧
      (twoCuts.strand 0).state.live = true ∧ (twoCuts.strand 0).sets = [] ∧ (twoCuts.strand 0).eval = none ∧
      (State.reset.strand 0).state.live = false ∧ ((threeHeads 0 [set40] none).strand 1).sets ≠ [] ∧
      ((bankState 0 (some { target := .b })).strand 3).pendingSwitch = some { target := .b } ∧
      ((bankState 0 none).strand 3).runs = [] ∧ ((bankState 0 none).strand 3).cuts = [] :=
  ⟨serves _ _ _ rfl, by decide +kernel⟩

/-- A DRAINING strand with runs and without, no pending cut, and a pending switch of a fixed length; a CLOSED one without runs. -/
theorem witness_StrandStopped_leaving :
    let p : PendingSwitch := { target := .b, switchLength := some 7 }
    let d := twoCuts.modStrand 0 fun st => { st with state := .draining, pendingSwitch := some p }
    let e := d.modStrand 0 fun st => { st with runs := [] }
    let left (s : State) := (State.leaveDraining { s with linePort := (busyLine 0 s).linePort } 0).linePort.own
    let taken := [Record.notice 3 0 (.bankTaken 0 .b 0 (some 7) none), .notice 3 1 (.strandState 0 .draining .closed)]
    (d.strand 0).state = .draining ∧ (d.strand 0).runs ≠ [] ∧ (d.strand 0).cuts = [] ∧ (e.strand 0).runs = [] ∧
      (d.strand 0).pendingSwitch = some p ∧ left d = taken ∧
      left e = taken ++ [.notice 3 2 (.strandState 0 .closed .idle)] ∧
      ((d.leaveDraining 0).strand 0).runs.getLast?.map Run.stop? = some (some 1100000) := by decide +kernel

theorem witness_StrandResetClears :
    Serves (asked twoCuts (.strandReset 3) .operator) (ask (.strandReset 3) .operator) (.strandReset 3) ∧
      Serves (asked twoCuts (.strandReset 4) .operator) (ask (.strandReset 4) .operator) (.strandReset 4) ∧
      Serves (asked twoCuts (.strandReset 0) .none) (ask (.strandReset 0) .none) (.strandReset 0) ∧
      3 = (3 : Fin 4).val ∧ (twoCuts.strand 3).state = .idle :=
  ⟨serves _ _ _ rfl, serves _ _ _ rfl, serves _ _ _ rfl, by decide +kernel⟩

theorem witness_CountersCleared :
    Serves (asked State.reset .countersClear .operator) (ask .countersClear .operator) .countersClear ∧
      (ask .countersClear .operator).sourceClass ≠ .none ∧ (State.reset.counterGroup 5).isSome :=
  ⟨serves _ _ _ rfl, by decide, by decide +kernel⟩

theorem witness_RestartCarriedOut :
    Serves (asked State.reset .restart .engineering) (ask .restart .engineering) .restart ∧
      restarting.linePort.tx = some (.own (.reply ((ask .restart .engineering).reply ⟨.accepted, []⟩))) ∧
      ((ask .restart .engineering).reply ⟨.accepted, []⟩).kind = 23 ∧ restarting.handler.restart = .carried :=
  ⟨serves _ _ _ rfl, by decide +kernel⟩

theorem witness_RestartTakesEffect :
    (after (.frameTransmitted .line) restarting).handler.restart = .due ∧ (busyHead 1).headPort.tx = some (.own (.hold 0)) ∧
      (∀ h, ((busyHead 1).head h).state ≠ .awaiting) := by decide +kernel

end Sys2Proof.Tests
end

section
/-! Proofs: the hold of a head (R23, R37). -/

namespace Sys2Proof.Machine

variable (s : State)

/-! ### A notice, and a head's record replaced -/

/-- A notice takes one number, whether or not it finds an entry (R15, R163). -/
@[simp] theorem State.raise_noticeSeq (n : Notice) : (s.raise n).handler.noticeSeq = s.handler.noticeSeq + 1 := by
  simp only [State.raise]; split <;> simp [State.takeNoticeNumber]

/-- A head's record replaced by one of the same state raises no notice (R37). -/
theorem State.replaceHead_of_state_eq {h : Fin 16} {r : HeadRecord} (hs : (s.head h).state = r.state) :
    s.replaceHead h r = s.setHead h r := if_pos hs

/-- A head's record replaced by one of another state raises HEAD_STATE (R37). -/
theorem State.replaceHead_of_state_ne {h : Fin 16} {r : HeadRecord} (hs : (s.head h).state ≠ r.state) :
    s.replaceHead h r = (s.setHead h r).raise
      (.headState h (s.head h).state r.state (if r.state = .faulted then r.cause else none)) := by
  simp [State.replaceHead, State.noticeHead, hs]

/-- The record of a head that was replaced is the new one. -/
@[simp] theorem State.replaceHead_head_same (h : Fin 16) (r : HeadRecord) : (s.replaceHead h r).head h = r := by
  simp only [State.replaceHead]; split <;> simp

/-! ### A head held -/

@[simp] theorem State.holdHead_head_same (h : Fin 16) :
    (s.holdHead h).head h = { s.head h with state := .held, deadline := none, cause := none } := by
  simp [State.holdHead]

@[simp] theorem State.holdHead_headPort (h : Fin 16) :
    (s.holdHead h).headPort = s.headPort.enqueueControl (.hold h) := by
  simp [State.holdHead, State.enqueueControl]

/-- A head that is HELD already raises no notice (R37). -/
theorem State.holdHead_of_held {h : Fin 16} (hs : (s.head h).state = .held) :
    s.holdHead h = (s.enqueueControl (.hold h)).setHead h
      { s.head h with state := .held, deadline := none, cause := none } :=
  State.replaceHead_of_state_eq _ hs

/-- A head of any other state raises HEAD_STATE to HELD, without a cause (R37). -/
theorem State.holdHead_of_not_held {h : Fin 16} (hs : (s.head h).state ≠ .held) :
    s.holdHead h = ((s.enqueueControl (.hold h)).setHead h
      { s.head h with state := .held, deadline := none, cause := none }).raise
        (.headState h (s.head h).state .held none) :=
  State.replaceHead_of_state_ne _ hs

/-- A hold as a whole: the frame, the record, and the notice of a head that was not HELD. -/
theorem State.holdHead_eq (h : Fin 16) :
    let held := (s.enqueueControl (.hold h)).setHead h
      { s.head h with state := .held, deadline := none, cause := none }
    s.holdHead h =
      if (s.head h).state = .held then held else held.raise (.headState h (s.head h).state .held none) := by
  split
  · next hs => exact s.holdHead_of_held hs
  · next hs => exact s.holdHead_of_not_held hs

/-- A hold is carried out once it is answered. -/
theorem State.holdHead_carriedOut (h : Fin 16) (r : Request) (a : Answer) (hw : s.handler.waiting = none) :
    CarriedOut s ((s.holdHead h).finish r a) r a :=
  State.finish_carriedOut r a hw (by simp) (by simp) (by simp)
    ⟨by simp, by simp, by simp, by simp, s.holdHead_lineGrows h⟩ (by simp [SameRest])

/-- HEAD_HOLD carries out its request with a hold of the head that it names. -/
theorem exec_headHold (n : Nat) : exec (.headHold n) s =
    .next (s.carryOut (.headHold n) fun _ => onHead n fun h t => (t.holdHead h, { status := .accepted })) := rfl

/-- Settles O53: the refusals only answer; an accepted hold is `holdHead`, answered, by whether the head was HELD before. -/
theorem headHeld : Obligations.HeadHeld := by
  intro s r n serves
  refine ⟨_, exec_headHold s n, fun hc => ?_, fun hc hn => ?_, ?_⟩
  · rw [State.carryOut_of_serves _ serves, if_pos hc]
    exact s.finish_onlyAnswered r _ serves.1
  · exact State.carryOut_only serves hc (onHead_refuses s _ hn)
  · rintro h hc rfl
    rw [State.carryOut_eq serves hc (onHead_val s h _)]
    refine ⟨s.holdHead_carriedOut h r _ serves.1, by simp [SameHandling], by simp, by simp,
      fun k hk => by simp [hk], fun hs => ?_, fun hs => ?_, by simp, by simp, by simp, ?_⟩
    · simp [NoNotice, HandlerCounters.count_eq, s.holdHead_of_held hs]
    · simp [s.holdHead_of_not_held hs]
    · simp only [State.finish_head, State.finish_frame, State.holdHead_head_same, State.holdHead_headPort]
      exact congrArg (State.finish · r _) (s.holdHead_eq h)

end Sys2Proof.Machine
end

section
/-! Proofs: the records of the pullers (R42 to R44) and the handover between them (R47). -/

namespace Sys2Proof.Machine

/-! ### What counting a record and moving a reference leave of the Travel Unit -/

@[simp] theorem Travel.countRecord_debt (t : Travel) (p : Puller) : (t.countRecord p).debt = t.debt := by
  cases p <;> rfl

@[simp] theorem Travel.setRef_debt (t : Travel) (p : Puller) (c : Word32) : (t.setRef p c).debt = t.debt := by
  cases p <;> rfl

variable (s : State)

/-! ### A difference judged, case by case -/

/-- A record that does not move the count does nothing: no difference of 0 exceeds a step. -/
theorem State.judgeDelta_zero (p : Puller) (count : Word32) : s.judgeDelta p count 0 = s := by
  simp [State.judgeDelta]

/-- A difference above the greatest step is a jump, in either direction (R43). -/
theorem State.judgeDelta_of_jump {p : Puller} {count : Word32} {delta : Int}
    (h : s.travel.config.maxStep < delta.natAbs) : s.judgeDelta p count delta = s.jump p count delta := if_pos h

/-- A backward difference within the greatest step is a reversal (R44). -/
theorem State.judgeDelta_of_reversal {p : Puller} {count : Word32} {delta : Int} (hneg : delta < 0)
    (hstep : delta.natAbs ≤ s.travel.config.maxStep) :
    s.judgeDelta p count delta = { s with travel := s.travel.reverse delta.natAbs } := by
  rw [State.judgeDelta, if_neg hstep.not_gt, if_pos hneg]

/-! ### A record taken, by its puller -/

/-- A puller without a reference is seeded, and that is all (R42). -/
theorem State.travelRecord_of_unseeded {p : Puller} (count : Word32) (h : s.travel.ref p = none) :
    s.travelRecord p count = { s with travel := (s.travel.countRecord p).setRef p count } := by
  simp [State.travelRecord, h]

/-- A puller that is not driving moves its reference, and that is all (R42). -/
theorem State.travelRecord_of_not_driving {p : Puller} {ref : Word32} (count : Word32) (h : s.travel.ref p = some ref)
    (hd : s.travel.driving ≠ p) :
    s.travelRecord p count = { s with travel := (s.travel.countRecord p).setRef p count } := by
  simp [State.travelRecord, h, hd]

/-- The driving puller's difference is judged once its reference has moved (R42). -/
theorem State.travelRecord_of_driving {p : Puller} {ref : Word32} (count : Word32) (h : s.travel.ref p = some ref)
    (hd : s.travel.driving = p) :
    s.travelRecord p count =
      State.judgeDelta { s with travel := (s.travel.countRecord p).setRef p count } p count (count - ref).toInt := by
  simp [State.travelRecord, h, hd]

/-- Settles O21: the puller's record by whether it was seeded and drives, then the driving one's difference by its size and
sign. -/
theorem travelRecordJudged : Obligations.TravelRecordJudged := by
  intro s p count u
  refine ⟨s.travelRecord_of_unseeded count, ?_⟩
  intro ref href delta
  refine ⟨s.travelRecord_of_not_driving count href, fun hd => ?_⟩
  have judged : s.travelRecord p count = u.judgeDelta p count delta := s.travelRecord_of_driving count href hd
  have hstep : u.travel.config.maxStep = s.travel.config.maxStep := by simp [u]
  have hdebt : u.travel.debt = s.travel.debt := by simp [u]
  rw [judged]
  refine ⟨fun hzero => ?_, fun hjump => ?_, fun hneg hle => ?_⟩
  · rw [hzero, u.judgeDelta_zero]
  · exact u.judgeDelta_of_jump (hstep ▸ hjump)
  · rw [u.judgeDelta_of_reversal hneg (hstep ▸ hle), Travel.reverse, hdebt, maxDebt]

/-! ### A handover -/

/-- A code that names no puller is only counted (R47). -/
theorem State.handover_invalid {code : Nat} (h : 2 ≤ code) : s.handover code =
    { s with travel := { s.travel with counters.handoverInvalid := inc s.travel.counters.handoverInvalid } } := by
  match code, h with
  | _ + 2, _ => rfl

/-- A code that names a puller makes it drive, without debt, where it does not drive already (R47). -/
theorem State.handover_code (p : Puller) : s.handover p.code =
    if s.travel.driving = p then s
    else { s with travel := { s.travel with
             driving := p, debt := 0, counters.handovers := inc s.travel.counters.handovers } } := by
  cases p <;> rfl

/-- Settles O24: a code is either above 1 or the code of a puller, and a puller either drives or does not. -/
theorem handoverChangesDriver : Obligations.HandoverChangesDriver := by
  intro s code
  refine ⟨s.handover_invalid, ?_⟩
  rintro p rfl
  rw [s.handover_code]
  exact ⟨fun h => if_pos h, fun h => if_neg h⟩

end Sys2Proof.Machine
end

section
/-! Proofs: the configuration of the Travel Unit (R41). -/

namespace Sys2Proof.Machine

variable (s : State)

/-- The strands named by `allStrands` are all there are. -/
theorem State.allIdle_iff : s.allIdle = true ↔ ∀ i, (s.strand i).state = .idle := by
  simp [State.allIdle, allStrands, Fin.forall_fin_succ]

/-- A write says whether a value was clamped (R41). -/
theorem writtenAnswer_decide (p : Prop) [Decidable p] :
    writtenAnswer (decide p) = { status := if p then .acceptedClamped else .accepted } := by
  simp [writtenAnswer]

/-! ### A request of the class ENGINEERING -/

/-- A request that needs the class ENGINEERING is refused to the class NONE and to an operator alike (9.3). -/
theorem State.carryOut_engineering_refuses {s : State} {r : Request} {c : Instr} (act : State → State × Answer)
    (h : Serves s r c) (hc : r.sourceClass ≠ .engineering) :
    OnlyAnswered s (s.carryOut c (engineering act)) r { status := .notPermitted } := by
  by_cases hn : r.sourceClass = .none
  · rw [State.carryOut_of_serves _ h, if_pos hn]
    exact s.finish_onlyAnswered r _ h.1
  · exact State.carryOut_only h hn (engineering_refuses s act hc)

/-- A request of the class ENGINEERING does what its block does, and is answered. -/
theorem State.carryOut_engineering {s u : State} {r : Request} {c : Instr} {a : Answer} {act : State → State × Answer}
    (h : Serves s r c) (hc : r.sourceClass = .engineering) (ha : act s = (u, a)) :
    s.carryOut c (engineering act) = u.finish r a :=
  State.carryOut_eq h (by simp [hc]) ((engineering_of_engineering s act hc).trans ha)

/-! ### The write -/

/-- In motion the stall time counts from the last advance (R46). -/
theorem Travel.stallAt_of_moving {t : Travel} {a : Nat} (hm : t.moving = true) (ha : t.lastAdvance = some a) :
    t.stallAt = some (a + 1000 * t.config.stallTime) := by
  simp [Travel.stallAt, hm, ha, millis, Nat.mul_comm]

/-- TRAVEL_CONFIG_WRITE, for the class ENGINEERING, stores its values where every strand is IDLE. -/
theorem exec_travelConfigWrite (c : TravelConfig) : exec (.travelConfigWrite c) s =
    .next (s.carryOut (.travelConfigWrite c) (engineering fun t =>
      if t.allIdle then
        ({ t with travel := { t.travel with config := clampTravel c, residue := 0 } },
          writtenAnswer (clampTravel c ≠ c))
      else refusal t .wrongState)) := rfl

/-- Settles O51: the class is judged first, then the states of the strands; an accepted write replaces the configuration and the
residue of the Travel Unit, and is answered. -/
theorem travelConfigured : Obligations.TravelConfigured := by
  intro s r c serves stored
  have hstored : clampTravel c = stored := rfl
  refine ⟨_, exec_travelConfigWrite s c, State.carryOut_engineering_refuses _ serves, fun hc => ⟨?_, fun hidle => ?_⟩⟩
  · rintro ⟨i, hi⟩
    have hbusy : ¬s.allIdle := fun h => hi (s.allIdle_iff.mp h i)
    rw [State.carryOut_engineering serves hc (if_neg hbusy)]
    exact s.finish_onlyAnswered r _ serves.1
  · rw [State.carryOut_engineering serves hc (if_pos (s.allIdle_iff.mpr hidle)), writtenAnswer_decide,
      hstored]
    refine ⟨State.finish_quietly r _ serves.1 rfl rfl (by simp [SameRest]), by simp, fun a hm ha => ?_, by simp, by simp,
      by simp, by simp⟩
    simpa using Travel.stallAt_of_moving (t := { s.travel with config := stored, residue := 0 }) hm ha

end Sys2Proof.Machine
end

section
/-! Proofs: the reset of a strand (R56, R57). -/

namespace Sys2Proof.Machine

variable (s : State)

/-! ### A strand's state changed -/

/-- A change to the state that holds already is none (R57). -/
theorem State.changeStrand_of_eq {i : Fin 4} {new : StrandState} (h : (s.strand i).state = new) :
    s.changeStrand i new = s := if_pos h

/-- A change to another state raises STRAND_STATE (R57). -/
theorem State.changeStrand_of_ne {i : Fin 4} {new : StrandState} (h : (s.strand i).state ≠ new) :
    s.changeStrand i new =
      (s.modStrand i fun st => { st with state := new }).raise (.strandState i (s.strand i).state new) := if_neg h

/-- The changed strand is the same but for its state. -/
@[simp] theorem State.changeStrand_same (i : Fin 4) (new : StrandState) :
    (s.changeStrand i new).strand i = { s.strand i with state := new } := by
  by_cases h : (s.strand i).state = new
  · rw [s.changeStrand_of_eq h, ← h]
  · rw [s.changeStrand_of_ne h]; simp

/-- Of two changes of one strand the second is what is left. -/
theorem State.modStrand_modStrand (i : Fin 4) (f g : Strand → Strand) :
    (s.modStrand i f).modStrand i g = s.setStrand i (g (f (s.strand i))) := by
  simp [State.modStrand, State.setStrand]

/-! ### A strand reset -/

@[simp] theorem Strand.discard_state (st : Strand) : st.discard.state = st.state := rfl

/-- The reset strand: discarded, and IDLE (R56). -/
theorem State.resetStrand_same (i : Fin 4) :
    (s.resetStrand i).strand i = { (s.strand i).discard with state := .idle } := by
  simp [State.resetStrand]

theorem State.resetStrand_other {i j : Fin 4} (hj : j ≠ i) : (s.resetStrand i).strand j = s.strand j := by
  simp [State.resetStrand, hj]

/-- A discard counts an evaluation in flight (R103). -/
theorem Strand.discard_evaluationsDiscarded (st : Strand) : st.discard.engCounters.evaluationsDiscarded =
    if st.eval = none then satAdd st.engCounters.evaluationsDiscarded 0
    else inc st.engCounters.evaluationsDiscarded := by
  cases h : st.eval <;> simp [Strand.discard, Strand.inFlight, inc, h]

/-- A strand that is IDLE already is cleared without a notice (R57). -/
theorem State.resetStrand_of_idle {i : Fin 4} (h : (s.strand i).state = .idle) :
    s.resetStrand i = s.setStrand i ((s.resetStrand i).strand i) := by
  have hd : ((s.modStrand i Strand.discard).strand i).state = .idle := by simpa using h
  rw [State.resetStrand, State.changeStrand_of_eq _ hd]
  simp [State.modStrand]

/-- A strand in another state is cleared, and raises STRAND_STATE from that state to IDLE (R57). -/
theorem State.resetStrand_of_not_idle {i : Fin 4} (h : (s.strand i).state ≠ .idle) :
    s.resetStrand i =
      (s.setStrand i ((s.resetStrand i).strand i)).raise (.strandState i (s.strand i).state .idle) := by
  have hd : ((s.modStrand i Strand.discard).strand i).state = (s.strand i).state := by simp
  rw [s.resetStrand_same, State.resetStrand, State.changeStrand_of_ne _ (hd ▸ h), State.modStrand_modStrand, hd]

/-- A reset as a whole: the cleared strand, and the notice of a strand that was not IDLE. -/
theorem State.resetStrand_eq (i : Fin 4) :
    let cleared := s.setStrand i ((s.resetStrand i).strand i)
    s.resetStrand i =
      if (s.strand i).state = .idle then cleared else cleared.raise (.strandState i (s.strand i).state .idle) := by
  split
  · next h => exact s.resetStrand_of_idle h
  · next h => exact s.resetStrand_of_not_idle h

/-- A reset keeps what a change of a strand's state keeps (R56). -/
@[simp] theorem State.resetStrand_frame (i : Fin 4) : SameRest s (s.resetStrand i) ∧ SameHandler s (s.resetStrand i) ∧
    (s.resetStrand i).routes = s.routes ∧ (s.resetStrand i).headPort = s.headPort ∧
    (s.resetStrand i).heads = s.heads ∧ (s.resetStrand i).travel = s.travel := by
  simp [State.resetStrand, SameRest, SameHandler, SameHandling]

/-- A reset lets only its notice join the Line Port. -/
theorem State.resetStrand_sameLine (i : Fin 4) : SameLine s (s.resetStrand i) := by
  refine ⟨?_, ?_, ?_, ?_, (s.modStrand i Strand.discard).changeStrand_lineGrows i .idle⟩ <;> simp [State.resetStrand]

/-- A reset is carried out once it is answered. -/
theorem State.resetStrand_carriedOut (i : Fin 4) (r : Request) (a : Answer) (hw : s.handler.waiting = none) :
    CarriedOut s ((s.resetStrand i).finish r a) r a :=
  State.finish_carriedOut r a hw (by simp) (by simp) (by simp) (s.resetStrand_sameLine i) (s.resetStrand_frame i).1

/-- STRAND_RESET carries out its request with a reset of the strand that it names. -/
theorem exec_strandReset (n : Nat) : exec (.strandReset n) s =
    .next (s.carryOut (.strandReset n) fun _ => onStrand n fun i t => (t.resetStrand i, { status := .accepted })) := rfl

/-- Settles O57: the refusals only answer; an accepted reset is `resetStrand`, answered, by whether the strand was IDLE
before. -/
theorem strandResetClears : Obligations.StrandResetClears := by
  intro s r n serves
  refine ⟨_, exec_strandReset s n, fun hc => ?_, fun hc hn => ?_, ?_⟩
  · rw [State.carryOut_of_serves _ serves, if_pos hc]
    exact s.finish_onlyAnswered r _ serves.1
  · exact State.carryOut_only serves hc (onStrand_refuses s _ hn)
  · rintro i hc rfl
    rw [State.carryOut_eq serves hc (onStrand_val s i _)]
    refine ⟨s.resetStrand_carriedOut i r _ serves.1, by simp [SameHandling], fun j hj => by simp [s.resetStrand_other hj],
      by simp, by simp, by simp, by simp, fun hidle => ?_, ?_, ?_⟩
    · rw [s.resetStrand_of_idle hidle]; simp [NoNotice, HandlerCounters.count_eq]
    · rw [State.finish_strand, s.resetStrand_same, ← Strand.discard_evaluationsDiscarded]; rfl
    · rw [State.finish_strand]
      exact congrArg (State.finish · r _) (s.resetStrand_eq i)

end Sys2Proof.Machine
end

section
/-! Proofs: the cancel of a bank switch (R94). -/

namespace Sys2Proof.Machine

/-- What a cancel makes of its strand: the pending switch goes, with its length, and nothing else (R94). -/
def Strand.cancelSwitch (st : Strand) : Strand := { st with pendingSwitch := none }

/-- Once a switch is cancelled, the bank that is not active is an ordinary standby bank (R94). -/
theorem Strand.cancelSwitch_role {st : Strand} {id : BankId} (hid : id ≠ st.active) : st.cancelSwitch.role id = .standby := by
  simp [Strand.role, Strand.cancelSwitch, hid]

/-- BANK_SWITCH with the option CANCEL, for the class ENGINEERING, cancels the switch of the strand that it names. -/
theorem exec_bankSwitchCancel (s : State) (n : Nat) : exec (.bankSwitchCancel n) s =
    .next (s.carryOut (.bankSwitchCancel n) (engineering
      (onStrand n fun i t => (t.modStrand i Strand.cancelSwitch, { status := .accepted })))) := rfl

/-- Settles O49: a cancel that passes the class and strand checks is a change of one strand, whatever that strand's state; the
roles follow from the strand it leaves. -/
theorem bankSwitchCancelled : Obligations.BankSwitchCancelled := by
  intro s r i serves hc
  have cancels : engineering (onStrand i fun i t => (t.modStrand i Strand.cancelSwitch, { status := .accepted })) r s =
      (s.modStrand i Strand.cancelSwitch, { status := .accepted }) := by
    rw [engineering_of_engineering s _ hc, onStrand_val]
  obtain ⟨quiet, hport, hheads, htravel, hroutes, hothers, hstrand⟩ :=
    State.carryOut_modStrand { status := .accepted } i Strand.cancelSwitch serves (by simp [hc]) cancels
  refine ⟨_, exec_bankSwitchCancel s i, quiet, hstrand, hothers, hport, hheads, htravel, hroutes, fun id hid => ?_⟩
  rw [hstrand]
  exact Strand.cancelSwitch_role hid

end Sys2Proof.Machine
end

section
/-! Proofs: the verdict and the excess of a judged instance (R111, R112). -/

namespace Sys2Proof.Machine

/-! ### The signed excess (R112) -/

theorem excessOf_of_above {t : Tolerance} {mean : Int} (h : t.upper < mean) : excessOf t mean = mean - t.upper := if_pos h

theorem excessOf_of_below {t : Tolerance} {mean : Int} (hband : t.lower ≤ t.upper) (h : mean < t.lower) :
    excessOf t mean = mean - t.lower := by
  rw [excessOf, if_neg (by omega), if_pos h]

theorem excessOf_of_inside {t : Tolerance} {mean : Int} (hlow : t.lower ≤ mean) (hup : mean ≤ t.upper) :
    excessOf t mean = 0 := by
  rw [excessOf, if_neg hup.not_gt, if_neg hlow.not_gt]

/-- Only a mean in the band has no excess. -/
theorem excessOf_ne_zero_iff (t : Tolerance) (mean : Int) :
    excessOf t mean ≠ 0 ↔ mean < t.lower ∨ t.upper < mean := by
  unfold excessOf
  split_ifs <;> omega

/-- The excess never exceeds the mean's magnitude, since the band contains 0. -/
theorem natAbs_excessOf_le {t : Tolerance} (mean : Int) (hlow : t.lower ≤ 0) (hup : 0 ≤ t.upper) :
    (excessOf t mean).natAbs ≤ mean.natAbs := by
  unfold excessOf
  split_ifs <;> omega

/-! ### The verdict (R111) -/

/-- The verdict is the worst that applies: its conditions are asked in the order DIMENSION, SURFACE, DRIFT, SOUND. -/
theorem verdictOf_worst (e : GaugeEntry) (mean : Int) (longest : Nat) (trend : Int) :
    let outside := mean < e.tol.lower ∨ e.tol.upper < mean
    let long := e.geo.surfaceWidth ≤ longest
    let drifts := 0 < e.tol.warn ∧
      (e.tol.upper * e.tol.warn * 16 < trend ∨ trend < e.tol.lower * e.tol.warn * 16)
    let v := verdictOf e mean longest trend
    (v = .dimension ↔ outside) ∧ (v = .surface ↔ ¬outside ∧ long) ∧ (v = .drift ↔ ¬outside ∧ ¬long ∧ drifts) ∧
      (v = .sound ↔ ¬outside ∧ ¬long ∧ ¬drifts) := by
  intro outside long drifts v
  by_cases ho : outside
  · have hv : v = .dimension := if_pos ho
    simp [hv, ho]
  by_cases hl : long
  · have hv : v = .surface := (if_neg ho).trans (if_pos hl)
    simp [hv, ho, hl]
  by_cases hd : drifts
  · have hv : v = .drift := (if_neg ho).trans ((if_neg hl).trans (if_pos hd))
    simp [hv, ho, hl, hd]
  · have hv : v = .sound := (if_neg ho).trans ((if_neg hl).trans (if_neg hd))
    simp [hv, ho, hl, hd]

/-! ### The warn limits (R111) -/

/-- A warn limit is at most 100,000 · 16 · 16 in magnitude. -/
theorem natAbs_warnLimit_le {tol : Int} {w : Nat} (htol : tol.natAbs ≤ 100000) (hw : w ≤ 16) :
    (tol * w * 16).natAbs ≤ 25600000 :=
  calc (tol * w * 16).natAbs = tol.natAbs * w * 16 := by rw [Int.natAbs_mul, Int.natAbs_mul]; rfl
    _ ≤ 100000 * 16 * 16 := Nat.mul_le_mul_right 16 (Nat.mul_le_mul htol hw)

/-! ### A judged instance (R104, R108) -/

/-- Of an instance that is not VOID, the trend, the verdict and the excess follow from its mean and its longest run. -/
theorem Placement.judgeOn_eq_some {p : Placement} {b : Buffer} {offset : Int} {filter : Option Int} {j : Judged}
    (h : p.judgeOn b offset filter = some j) :
    j.trend = trendAfter filter p.entry.tol.smoothing j.mean ∧
      j.verdict = verdictOf p.entry j.mean j.stats.longest j.trend ∧ j.excess = excessOf p.entry.tol j.mean := by
  simp only [Placement.judgeOn] at h
  split at h
  · cases h
  · cases h
    exact ⟨rfl, rfl, rfl⟩

/-- An instance that is not VOID in an evaluation is judged on the usable buffer of its slot (R104). -/
theorem Evaluation.judge_eq_some {ev : Evaluation} {bank : Bank} {p : Placement} {filter : Option Int} {j : Judged}
    (h : ev.judge bank p filter = some j) :
    ∃ (t : Fin 6) (b : Buffer), slotOfNat p.entry.geo.slot = some t ∧ ev.usable bank t = some b ∧
      p.judgeOn b ev.offsets[t] filter = some j := by
  unfold Evaluation.judge at h
  split at h
  · cases h
  · next t ht =>
    split at h
    · cases h
    · next b hb => exact ⟨t, b, ht, hb, h⟩

/-- Settles O33: the verdict by its cases and the excess by its sign, joined by the condition that a nonzero excess and
DIMENSION share, a mean outside the band. -/
theorem excessIffDimension : Obligations.ExcessIffDimension := by
  refine ⟨fun ev b p filter j h => ?_, fun e mean trend longest hlow hup => ?_⟩
  · obtain ⟨_, _, _, _, hj⟩ := Evaluation.judge_eq_some h
    exact Placement.judgeOn_eq_some hj
  obtain ⟨hdim, hsurf, hdrift, hsound⟩ := verdictOf_worst e mean longest trend
  refine ⟨excessOf_of_above, excessOf_of_below (hlow.trans hup), excessOf_of_inside,
    (excessOf_ne_zero_iff e.tol mean).trans hdim.symm, (natAbs_excessOf_le mean hlow hup).trans, ?_⟩
  intro outside long drifts v
  refine ⟨hdim, hsurf, hdrift, hsound, fun hl hu hw => ?_, fun hw => ?_, fun hw hv => ?_,
    fun hl hu => ⟨fun hm => ?_, fun hw => ?_⟩⟩
  · exact ⟨natAbs_warnLimit_le (by omega) hw, natAbs_warnLimit_le (by omega) hw⟩
  · rw [hw]; omega
  · obtain ⟨-, -, hpos, -⟩ := hdrift.mp hv
    omega
  · exact hdim.mpr (by omega)
  · simp only [drifts, hl, hu, hw, zero_mul, true_and]
    omega

end Sys2Proof.Machine
end

section
/-! Proofs: the verdict, the worst class and the cause of a piece (R144, R146). -/

namespace Sys2Proof.Machine

/-! ### The worst class of the runs taken (R144) -/

theorem severity_worse (a b : ConditionClass) : (worse a b).severity = max a.severity b.severity := by
  unfold worse
  split_ifs <;> omega

theorem worse_eq_or (a b : ConditionClass) : worse a b = a ∨ worse a b = b := (ite_eq_or_eq _ _ _).symm

/-- SOUND is the one class of the least severity. -/
theorem ConditionClass.eq_sound_of_severity_le {c : ConditionClass} (h : c.severity ≤ ConditionClass.sound.severity) :
    c = .sound := by
  cases c <;> simp [ConditionClass.severity] at h ⊢

theorem worstClass_concat (taken : List Run) (r : Run) :
    worstClass (taken ++ [r]) = worse (worstClass taken) r.cls := List.foldl_concat ..

theorem severity_le_worstClass (taken : List Run) : ∀ r ∈ taken, r.cls.severity ≤ (worstClass taken).severity := by
  induction taken using List.reverseRecOn with
  | nil => simp
  | append_singleton rs last ih =>
    intro r hr
    rw [worstClass_concat, severity_worse]
    rcases List.mem_append.mp hr with hrs | hlast
    · exact (ih r hrs).trans (le_max_left ..)
    · rw [List.mem_singleton.mp hlast]
      exact le_max_right ..

theorem worstClass_eq_sound_or_mem (taken : List Run) :
    worstClass taken = .sound ∨ ∃ r ∈ taken, r.cls = worstClass taken := by
  induction taken using List.reverseRecOn with
  | nil => exact .inl rfl
  | append_singleton rs last ih =>
    rw [worstClass_concat]
    rcases worse_eq_or (worstClass rs) last.cls with hw | hw <;> rw [hw]
    · exact ih.imp_right fun ⟨r, hr, hcls⟩ => ⟨r, List.mem_append_left _ hr, hcls⟩
    · exact .inr ⟨last, by simp, rfl⟩

/-- Among runs there is one of the worst class: where that is SOUND, every run is SOUND. -/
theorem exists_cls_eq_worstClass {taken : List Run} (hne : taken ≠ []) : ∃ r ∈ taken, r.cls = worstClass taken := by
  rcases worstClass_eq_sound_or_mem taken with hsound | hmem
  · obtain ⟨r, hr⟩ := List.exists_mem_of_ne_nil taken hne
    have hle : r.cls.severity ≤ ConditionClass.sound.severity := hsound ▸ severity_le_worstClass taken r hr
    exact ⟨r, hr, (ConditionClass.eq_sound_of_severity_le hle).trans hsound.symm⟩
  · exact hmem

/-! ### The cause of a class (R144) -/

/-- The cause of a class that occurs is that of its first run. -/
theorem causeOfClass_first {c : ConditionClass} {taken : List Run} (hc : ∃ r ∈ taken, r.cls = c) :
    ∃ before r after, taken = before ++ r :: after ∧ r.cls = c ∧ r.cause = causeOfClass c taken ∧
      ∀ x ∈ before, x.cls ≠ c := by
  have hsome : (taken.find? fun r => r.cls = c).isSome := by simpa using hc
  obtain ⟨r, hr⟩ := Option.isSome_iff_exists.mp hsome
  obtain ⟨hcls, before, after, heq, hbefore⟩ := List.find?_eq_some_iff_append.mp hr
  exact ⟨before, r, after, heq, by simpa using hcls, by simp [causeOfClass, hr], by simpa using hbefore⟩

/-! ### Class lengths (R144) -/

theorem Run.length_of_closed {r : Run} {stop : Nat} {area : Int} {saturated : Bool}
    (h : r.body = .closed stop area saturated) : r.length = stop - r.start := by
  simp [Run.length, Run.stopAt, Run.stop?, h]

/-- A run with a length gives its class a length. -/
theorem classLength_pos {taken : List Run} {r : Run} (hr : r ∈ taken) (hlength : 0 < r.length) :
    0 < classLength r.cls taken := by
  have hmem : r.length ∈ (taken.filter fun x => x.cls = r.cls).map Run.length :=
    List.mem_map_of_mem (by simpa using hr)
  exact hlength.trans_le (List.le_sum_of_mem hmem)

/-! ### The verdict (R146) -/

/-- The conditions are asked in the order SCRAP, HOLD, PRIME, and the first that applies gives the verdict. -/
theorem pieceVerdict_first (h : BankHeader) (taken : List Run) :
    let length := fun c => classLength c taken
    let scrap := 0 < length .dimension + length .stopMark + length .weldZone ∨ h.surfaceAllowance < length .surface
    let hold :=
      0 < length .surface ∨ h.unseenAllowance < length .unseen ∨ h.driftAllowance < length .drift
    let v := pieceVerdict h taken
    (v = .scrap ↔ scrap) ∧ (v = .hold ↔ ¬scrap ∧ hold) ∧ (v = .prime ↔ ¬scrap ∧ ¬hold) := by
  intro length scrap hold v
  by_cases hs : scrap
  · have hv : v = .scrap := if_pos hs
    simp [hv, hs]
  by_cases hh : hold
  · have hv : v = .hold := (if_neg hs).trans (if_pos hh)
    simp [hv, hs, hh]
  · have hv : v = .prime := (if_neg hs).trans (if_neg hh)
    simp [hv, hs, hh]

/-- Any length of DIMENSION, STOP_MARK or WELD_ZONE, the classes of severity 4 and above, makes a piece SCRAP. -/
theorem pieceVerdict_eq_scrap_of_mem (h : BankHeader) {taken : List Run} {r : Run} (hr : r ∈ taken)
    (hsev : 4 ≤ r.cls.severity) (hlength : 0 < r.length) : pieceVerdict h taken = .scrap := by
  have hpos := classLength_pos hr hlength
  have hscrap : 0 < classLength .dimension taken + classLength .stopMark taken + classLength .weldZone taken := by
    cases hcls : r.cls <;> simp only [hcls, ConditionClass.severity] at hsev hpos <;> omega
  exact (pieceVerdict_first h taken).1.mpr (.inl hscrap)

/-- Settles O40: the fields of a piece are the verdict, the class lengths, the worst class and its cause of the runs taken,
each of which has its lemma above. -/
theorem pieceVerdictJudged : Obligations.PieceVerdictJudged := by
  intro st i cut tail taken h verdict length scrap hold
  obtain ⟨hscrap, hhold, hprime⟩ := pieceVerdict_first h taken
  refine ⟨hscrap, hhold, hprime, fun ⟨r, hr, hsev, hlength⟩ => pieceVerdict_eq_scrap_of_mem h hr hsev hlength, ?_⟩
  intro piece
  refine ⟨fun _ => rfl, fun _ _ _ _ => Run.length_of_closed, rfl, severity_le_worstClass taken, ?_,
    fun hne => causeOfClass_first (exists_cls_eq_worstClass hne)⟩
  rintro rfl
  exact ⟨rfl, rfl⟩

end Sys2Proof.Machine
end

section
/-! Proofs: the clearing of the counters (R159, R160). -/

namespace Sys2Proof.Machine

variable (s : State)

/-! ### A reply that is offered without a count -/

/-- An offered reply is one record for the Line Port, whatever the handler has counted (R15, R154). -/
theorem State.offerReply_oneReply {s u : State} (r : Request) (a : Answer) (hw : u.handler.waiting = none)
    (hl : u.linePort = s.linePort) (hp : u.handler.restart = s.handler.restart) :
    OneReply s (u.offerReply (r.reply a)) r a := by
  rw [OneReply, ← hl]
  by_cases room : u.linePort.own.length < 32
  · refine ⟨fun _ => ?_, fun full => absurd room full.not_gt⟩
    have entered : u.offerReply (r.reply a) = State.enqueueRecord
        { u with handler := { u.handler with requests := u.handler.requests.drop 1 } } (.reply (r.reply a)) :=
      if_pos (decide_eq_true room)
    rw [entered]
    exact ⟨by simp [hw], (State.enqueueRecord_entered _ _).of_same hl hp⟩
  · refine ⟨fun h => absurd h room, fun _ => ?_⟩
    have waits : u.offerReply (r.reply a) = { u with handler := { u.handler with waiting := some (r.reply a) } } :=
      if_neg (mt of_decide_eq_true room)
    rw [waits]
    exact ⟨rfl, rfl⟩

/-- The counters of every group stand outside what an offered reply changes. -/
@[simp] theorem State.offerReply_counterGroup (r : Reply) (g : Nat) :
    (s.offerReply r).counterGroup g = s.counterGroup g := by
  simp [State.counterGroup, State.partCounters, State.headsCounters]

/-! ### What a clear makes of each block -/

/-- A clear leaves of each block all but its counters. -/
@[simp] theorem State.clearCounters_frame :
    s.clearCounters.pending = s.pending ∧ s.clearCounters.now = s.now ∧ s.clearCounters.ownStation = s.ownStation ∧
      s.clearCounters.routes = s.routes ∧
      s.clearCounters.headPort =
        { s.headPort with counters := {}, headPortRequest := 0, triggerDrop := 0, controlDrop := 0 } ∧
      s.clearCounters.linePort = { s.linePort with counters := {}, noticeDrop := 0 } ∧
      s.clearCounters.travel = { s.travel with counters := {} } ∧
      s.clearCounters.handler = { s.handler with counters := {} } := ⟨rfl, rfl, rfl, rfl, rfl, rfl, rfl, rfl⟩

@[simp] theorem State.clearCounters_head (h : Fin 16) : s.clearCounters.head h = { s.head h with counters := {} } := by
  simp [State.clearCounters]

@[simp] theorem State.clearCounters_strand (i : Fin 4) : s.clearCounters.strand i = (s.strand i).clearCounters := by
  simp [State.clearCounters]

/-! ### Every counter of every group is cleared (R159) -/

theorem State.clearCounters_partCounters : s.clearCounters.partCounters = List.replicate 39 0 := rfl

theorem Strand.clearCounters_counterList (st : Strand) : st.clearCounters.counterList = List.replicate 40 0 := rfl

theorem State.clearCounters_headsCounters : ∀ n ∈ s.clearCounters.headsCounters, n = 0 := by
  intro n hn
  obtain ⟨r, hr, hn⟩ := List.mem_flatMap.mp hn
  obtain ⟨old, -, rfl⟩ : ∃ old ∈ s.heads.toList, { old with counters := {} } = r := by
    simpa [State.clearCounters, mapTable] using hr
  exact List.eq_of_mem_replicate (n := 8) hn

theorem State.clearCounters_counterGroup {g : Nat} {l : List Nat} (h : s.clearCounters.counterGroup g = some l) :
    ∀ n ∈ l, n = 0 := by
  have strandCleared (i : Fin 4) : ∀ n ∈ (s.clearCounters.strand i).counterList, n = 0 := by
    rw [s.clearCounters_strand, Strand.clearCounters_counterList]
    exact fun _ => List.eq_of_mem_replicate
  match g with
  | 0 =>
    cases h
    rw [s.clearCounters_partCounters]
    exact fun _ => List.eq_of_mem_replicate
  | 1 => cases h; exact s.clearCounters_headsCounters
  | 2 => cases h; exact strandCleared 0
  | 3 => cases h; exact strandCleared 1
  | 4 => cases h; exact strandCleared 2
  | 5 => cases h; exact strandCleared 3
  | _ + 6 => cases h

/-! ### The request -/

/-- COUNTERS_CLEAR carries out its request by itself, since its reply is not counted. -/
theorem exec_countersClear : exec .countersClear s = .next s.requestClear := rfl

/-- A served clear, for another class than NONE, clears and offers its reply. -/
theorem State.requestClear_of_serves {s : State} {r : Request} (serves : Serves s r .countersClear)
    (hc : r.sourceClass ≠ .none) :
    s.requestClear = s.clearCounters.offerReply (r.reply { status := .accepted }) := by
  simp [State.requestClear, State.ready_of_serves serves, hc]

/-- A clear moves no frame of the Line Port, and so lets only its reply join. -/
theorem State.clearCounters_lineGrows : LineGrows s.linePort s.clearCounters.linePort :=
  ⟨[], .inl ⟨rfl, (List.append_nil _).symm, rfl, rfl⟩⟩

/-- Settles O58: the state is cleared first, and its reply, offered without a count, is all that joins the cleared state. -/
theorem countersCleared : Obligations.CountersCleared := by
  intro s r serves hc
  have hw : s.clearCounters.handler.waiting = none := serves.1
  refine ⟨_, (exec_countersClear s).trans (congrArg _ (State.requestClear_of_serves serves hc)),
    s.clearCounters.offerReply_answers _ hw,
    fun g l hg => s.clearCounters_counterGroup ((s.clearCounters.offerReply_counterGroup _ g).symm.trans hg), ?_⟩
  have grows : LineGrows s.linePort (s.clearCounters.offerReply (r.reply { status := .accepted })).linePort :=
    s.clearCounters_lineGrows.trans (s.clearCounters.offerReply_lineGrows _)
  have oneReply := State.offerReply_oneReply (u := s.clearCounters)
    (s := { s with linePort := { s.linePort with counters := {}, noticeDrop := 0 } }) r { status := .accepted } hw rfl rfl
  exact ⟨by simp, by simp, by simp, by simp, by simp, by simp, by simp, by simp, grows, by simp [SameHandling], oneReply,
    by simp, by simp, by simp, by simp [Strand.clearCounters]⟩

end Sys2Proof.Machine
end

section
/-! Proofs: what a step can do. A command is a power-on reset, an event, or a request; an event is made of the operations that
`EventsKeep` lists, and a request of one that `RequestOp` lists and its reply. -/

namespace Sys2Proof.Machine

/-! ### Events -/

/-- A predicate is kept by every operation that the events of the line, of the timers and of the engines are made of. -/
structure EventsKeep (P : State → Prop) : Prop where
  setParser : ∀ s port p, P s → P (s.setParser port p)
  modCounters : ∀ s port f, P s → P (s.modCounters port f)
  headPortRequest : ∀ s n, P s → P { s with headPort := { s.headPort with headPortRequest := n } }
  offerForward : ∀ s port f, P s → P (s.offerForward port f)
  takeRequest : ∀ s f, P s → P (s.takeRequest f)
  reportCheckError : ∀ s h, P s → P (s.reportCheckError h)
  scan : ∀ s h p, P s → P (s.scan h p)
  announce : ∀ s h p, P s → P (s.announce h p)
  travelRecord : ∀ s p count, P s → P (s.travelRecord p count)
  pressNotice : ∀ s code, P s → P (s.pressNotice code)
  handover : ∀ s code, P s → P (s.handover code)
  cutNotice : ∀ s n x, P s → P (s.cutNotice n x)
  transmitted : ∀ s port, P s → P (s.transmitted port)
  releaseExpires : ∀ s h, P s → P (s.releaseExpires h)
  announceExpires : ∀ s h, P s → P (s.announceExpires h)
  stallExpires : ∀ s, P s → P s.stallExpires
  scanWaitExpires : ∀ s i, P s → P (s.scanWaitExpires i)
  evaluationCompletes : ∀ s i, P s → P (s.evaluationCompletes i)
  restarted : ∀ s, s.handler.restart = .due → P s → P s.restarted

namespace EventsKeep

variable {P : State → Prop} (k : EventsKeep P)
include k

theorem forwardFrame (s : State) (port : Port) (f : Frame) (b : Bool) (h : P s) : P (s.forwardFrame port f b) := by
  unfold State.forwardFrame
  split
  · split
    · exact h
    · exact k.modCounters _ _ _ h
  · split
    · exact k.offerForward _ _ _ h
    · exact h

theorem consume (s : State) (c : Consumer) (f : Frame) (h : P s) : P (s.consume c f) := by
  cases c with
  | scan => exact k.scan _ _ _ h
  | announce => exact k.announce _ _ _ h
  | travel => exact k.travelRecord _ _ _ h
  | pressNotice => exact k.pressNotice _ _ h
  | handover => exact k.handover _ _ h
  | cutNotice => exact k.cutNotice _ _ _ h
  | request => exact k.takeRequest _ _ h

theorem handleFrame (s : State) (port : Port) (f : Frame) (h : P s) : P (s.handleFrame port f) := by
  unfold State.handleFrame
  split
  · exact k.forwardFrame _ _ _ _ h
  · split
    · exact k.forwardFrame _ _ _ _ (k.consume _ _ _ h)
    · exact k.forwardFrame _ _ _ _ (k.modCounters _ _ _ h)

theorem goodFrame (s : State) (port : Port) (f : Frame) (h : P s) : P (s.goodFrame port f) := by
  have counted := k.modCounters s port (fun c => { c with framesReceived := inc c.framesReceived }) h
  unfold State.goodFrame
  dsimp only
  split
  · exact k.modCounters _ _ _ counted
  · split
    · exact k.headPortRequest _ _ counted
    · exact k.handleFrame _ _ _ counted

theorem badFrame (s : State) (port : Port) (hd : Header) (h : P s) : P (s.badFrame port hd) := by
  have counted := k.modCounters s port (fun c => { c with payloadError := inc c.payloadError }) h
  unfold State.badFrame
  dsimp only
  split
  · split
    · exact k.reportCheckError _ _ counted
    · exact counted
  · exact counted

theorem frameDone (s : State) (port : Port) (hd : Header) (mode : CheckMode) (payload check : List Byte) (h : P s) :
    P (s.frameDone port hd mode payload check) := by
  have parsed := k.setParser s port .hunt h
  unfold State.frameDone
  dsimp only
  split
  · exact k.goodFrame _ _ _ parsed
  · exact k.badFrame _ _ _ parsed

theorem headerDone (s : State) (port : Port) (bytes : List Byte) (h : P s) : P (s.headerDone port bytes) := by
  unfold State.headerDone
  split
  · exact k.setParser _ _ _ h
  · exact k.modCounters _ _ _ (k.setParser _ _ _ h)

theorem receiveByte (s : State) (port : Port) (x : Byte) (h : P s) : P (s.receiveByte port x) := by
  unfold State.receiveByte
  split
  case h_1 => exact h
  case h_2 => split; exacts [k.setParser _ _ _ h, k.headerDone _ _ _ h]
  case h_3 => split <;> exact k.setParser _ _ _ h
  case h_4 => split; exacts [k.setParser _ _ _ h, k.frameDone _ _ _ _ _ _ h]

theorem receiveBytes (s : State) (port : Port) (bytes : List Byte) (h : P s) : P (s.receiveBytes port bytes) := by
  induction bytes generalizing s with
  | nil => exact h
  | cons x xs ih => exact ih _ (k.receiveByte s port x h)

theorem receiveSymbol (s : State) (port : Port) (x : LineBreak) (h : P s) : P (s.receiveSymbol port x) := by
  have parsed := k.setParser s port (parserAtBreak x) h
  unfold State.receiveSymbol
  dsimp only
  split
  · exact k.modCounters _ _ _ parsed
  · exact parsed

theorem restartTakesEffect {s t : State} (h : P s) (he : execRestartTakesEffect s = .next t) : P t := by
  unfold execRestartTakesEffect at he
  split at he
  · next due => exact Host.Outcome.next.inj he ▸ k.restarted _ due h
  · exact Host.Outcome.next.inj he ▸ h

/-- What the operations keep, every event keeps. -/
theorem exec {c : Instr} {s t : State} (hr : c.isRequest = false) (hp : ∀ straps, c ≠ .powerOnReset straps) (h : P s)
    (he : exec c s = .next t) : P t := by
  cases c
  case powerOnReset straps => exact absurd rfl (hp straps)
  case headerReceived => cases he; exact k.receiveBytes _ _ _ h
  case truncated => cases he; exact k.receiveSymbol _ _ _ h
  case frameComplete => cases he; exact k.receiveBytes _ _ _ h
  case frameTransmitted => cases he; exact k.transmitted _ _ h
  case releaseDelayExpiry => cases he; exact k.releaseExpires _ _ h
  case announceTimeoutExpiry => cases he; exact k.announceExpires _ _ h
  case stallTimeExpiry => cases he; exact k.stallExpires _ h
  case scanWaitExpiry => cases he; exact k.scanWaitExpires _ _ h
  case evaluationComplete => cases he; exact k.evaluationCompletes _ _ h
  case restartTakesEffect => exact k.restartTakesEffect h he
  case frameStart => cases he; exact k.receiveSymbol _ _ _ h
  all_goals simp [Instr.isRequest] at hr

end EventsKeep

/-! ### Requests -/

/-- What the owning block of an accepted request does, or of a refused one that is counted (9.3): the state that the request
leaves, before its reply. -/
inductive RequestOp (s : State) : Instr → State → Prop
  | nothing (c) : RequestOp s c s
  | hold (n h) : RequestOp s (.headHold n) (s.holdHead h)
  | release (n h) : RequestOp s (.headRelease n) (s.requestRelease h).1
  | start (n i) (hi : (s.strand i).state = .idle) (hl : s.travel.limitReached = false) :
    RequestOp s (.strandStart n) (s.startStrand i)
  | stop (n i) (hi : (s.strand i).state.live = true) : RequestOp s (.strandStop n) (s.endRun i)
  | reset (n i) : RequestOp s (.strandReset n) (s.resetStrand i)
  | clear : RequestOp s .countersClear s.clearCounters
  | restart (hf : s.handler.restart = .idle) : RequestOp s .restart { s with handler := { s.handler with restart := .carried } }
  | refuseWrite (c i) : RequestOp s c
      (s.modStrand i fun x => { x with tplCounters.bankWritesRefused := inc x.tplCounters.bankWritesRefused })
  | geometry (n b k g m f i id e) (hw : (s.strand i).writeRefusal id m = none) (hs : f.slot ≤ 5) :
    RequestOp s (.entryWriteGeometry n b k g m f)
      (s.modStrand i fun st => st.writeBank id fun x => x.writeGeometry e (clampGeometry f))
  | tolerance (n b k m f i id e c) (hw : (s.strand i).writeRefusal id m = none) :
    RequestOp s (.entryWriteTolerance n b k m f)
      (s.modStrand i fun st => st.writeBank id fun x =>
        x.writeTolerance e (clampToleranceFor c (((s.strand i).bank id).entries[e]).geo f))
  | header (n b m x i id) (hw : (s.strand i).writeRefusal id m = none) :
    RequestOp s (.bankParamWrite n b m x)
      (s.modStrand i fun st => st.writeBank id fun y => { y with header := clampHeader x })
  | copy (n m i) (hw : (s.strand i).writeRefusal (s.strand i).active.other m = none) :
    RequestOp s (.bankCopy n m)
      (s.modStrand i fun st => st.writeBank (s.strand i).active.other fun _ => (s.strand i).activeBank)
  | switch (n o i) (hp : (s.strand i).pendingSwitch = none) (hd : (s.strand i).state ≠ .draining) :
    RequestOp s (.bankSwitch n o) (s.acceptSwitch i)
  | cancel (n i) : RequestOp s (.bankSwitchCancel n) (s.modStrand i fun st => { st with pendingSwitch := none })
  | config (n v p i slots) (hi : (s.strand i).state = .idle) (ht : ∀ t, s.slotTaken i slots t = false) :
    RequestOp s (.strandConfigWrite n v p) (s.configure i slots (clampParams p))
  | travel (c) (hi : ∀ i, (s.strand i).state = .idle) :
    RequestOp s (.travelConfigWrite c) { s with travel := { s.travel with config := clampTravel c, residue := 0 } }
  | calibrate (n o d w h) : RequestOp s (.headCalWrite n o d w)
      (s.modHead h fun r =>
        { r with offset := clampOffset o, releaseDelay := clampDelay d, announceTimeout := clampTimeout w })
  | route (n a k m r) : RequestOp s (.routeWrite n a k) (s.setRoute m r)
  | target (n) : RequestOp s (.noticeTargetWrite n) { s with handler := { s.handler with noticeTarget := n } }

/-- The request has done what it does, was counted or not (R160), and its reply was offered (R154). -/
def Replied (s : State) (c : Instr) (t : State) : Prop :=
  ∃ u v r, RequestOp s c u ∧ (v = u ∨ ∃ st, v = u.countRequest st) ∧ t = v.offerReply r

theorem replied_finish {s u : State} {c : Instr} (h : RequestOp s c u) (r : Request) (a : Answer) :
    Replied s c (u.finish r a) := ⟨u, _, _, h, .inr ⟨_, rfl⟩, rfl⟩

/-- A carried-out request either finds no request that it serves, or does what its block does, and replies. -/
theorem carryOut_replied {s : State} {c : Instr} {act : Request → State → State × Answer}
    (h : ∀ r, RequestOp s c (act r s).1) : s.carryOut c act = s ∨ Replied s c (s.carryOut c act) := by
  unfold State.carryOut
  split
  · exact .inl rfl
  · split
    · exact .inr (replied_finish (.nothing c) _ _)
    · exact .inr (replied_finish (h _) _ _)

theorem requestOp_engineering {s : State} {c : Instr} {act : State → State × Answer} (h : RequestOp s c (act s).1)
    (r : Request) : RequestOp s c (engineering act r s).1 := by
  unfold engineering
  split
  · exact h
  · exact .nothing c

theorem requestOp_onStrand {s : State} {c : Instr} {n : Nat} {act : Fin 4 → State → State × Answer}
    (h : ∀ i, RequestOp s c (act i s).1) : RequestOp s c (onStrand n act s).1 := by
  unfold onStrand
  split
  · exact h _
  · exact .nothing c

theorem requestOp_onHead {s : State} {c : Instr} {n : Nat} {act : Fin 16 → State → State × Answer}
    (h : ∀ i, RequestOp s c (act i s).1) : RequestOp s c (onHead n act s).1 := by
  unfold onHead
  split
  · exact h _
  · exact .nothing c

theorem requestOp_onBank {s : State} {c : Instr} {n b : Nat} {act : Fin 4 → BankId → State → State × Answer}
    (h : ∀ i id, RequestOp s c (act i id s).1) : RequestOp s c (onBank n b act s).1 := by
  unfold onBank
  split
  · exact h _ _
  · exact .nothing c

theorem requestOp_onEntry {s : State} {c : Instr} {n b e : Nat}
    {act : Fin 4 → BankId → Fin 64 → State → State × Answer} (h : ∀ i id e, RequestOp s c (act i id e s).1) :
    RequestOp s c (onEntry n b e act s).1 := by
  refine requestOp_onBank fun i id => ?_
  split
  · exact h _ _ _
  · exact .nothing c

/-- A bank write that is refused counts at most, and one that is accepted writes. -/
theorem requestOp_bankWrite {s : State} {c : Instr} {i : Fin 4} {id : BankId} {n : Nat} {f : Bank → Bank} {b : Bool}
    (h : (s.strand i).writeRefusal id n = none → RequestOp s c (s.modStrand i fun st => st.writeBank id f)) :
    RequestOp s c (s.bankWrite i id n f b).1 := by
  unfold State.bankWrite
  split
  · simp only [State.refuseWrite]
    split
    · exact .refuseWrite c i
    · exact .nothing c
  · next hn => exact h hn

theorem requestOp_requestStart (s : State) (n : Nat) (i : Fin 4) : RequestOp s (.strandStart n) (s.requestStart i).1 := by
  unfold State.requestStart
  dsimp only
  split
  · exact .nothing _
  · next hc =>
    split
    · exact .nothing _
    · obtain ⟨hi, hl⟩ := not_or.mp hc
      dsimp only
      exact .start n i (not_not.mp hi) (by simpa using hl)

theorem requestOp_requestSwitch (s : State) (n o : Nat) (i : Fin 4) :
    RequestOp s (.bankSwitch n o) (s.requestSwitch i).1 := by
  unfold State.requestSwitch
  dsimp only
  split
  · exact .nothing _
  · next hp =>
    split
    · exact .nothing _
    · next hd =>
      split
      · exact .nothing _
      · exact .switch n o i (by simpa using hp) hd

theorem requestOp_writeConfig (s : State) (n : Nat) (v : Vector Nat 6) (p : StrandParams) (i : Fin 4)
    (slots : Vector (Option (Fin 16)) 6) : RequestOp s (.strandConfigWrite n v p) (s.writeConfig i slots p).1 := by
  unfold State.writeConfig
  split
  · exact .nothing _
  · next hi =>
    split
    · exact .nothing _
    · next hf =>
      refine .config n v p i slots (not_not.mp hi) fun t => ?_
      have := List.find?_eq_none.mp hf t
      fin_cases t <;> simpa [allSlots] using this

/-- A request changes nothing where it is not served; else it does what its block does, and replies. -/
theorem exec_request {c : Instr} {s t : State} (hr : c.isRequest = true) (he : exec c s = .next t) :
    t = s ∨ Replied s c t := by
  have act (a : Request → State → State × Answer) (h : ∀ r, RequestOp s c (a r s).1)
      (e : exec c s = .next (s.carryOut c a)) : t = s ∨ Replied s c t := by
    cases he.symm.trans e
    exact carryOut_replied h
  cases c
  case headRead => exact act _ (fun _ => requestOp_onHead fun _ => .nothing _) rfl
  case strandRead => exact act _ (fun _ => requestOp_onStrand fun _ => .nothing _) rfl
  case entryRead =>
    refine act _ (fun _ => requestOp_onBank fun _ _ => ?_) rfl
    split <;> exact .nothing _
  case bankRead => exact act _ (fun _ => requestOp_onBank fun _ _ => .nothing _) rfl
  case mapRead =>
    refine act _ (fun _ => requestOp_onStrand fun _ => ?_) rfl
    split <;> exact .nothing _
  case countersRead =>
    refine act _ (fun _ => ?_) rfl
    split <;> exact .nothing _
  case routeRead => exact act _ (fun _ => .nothing _) rfl
  case entryWriteGeometry =>
    refine act _ (requestOp_engineering (requestOp_onEntry fun i id e => ?_)) rfl
    split
    · next hf => exact requestOp_bankWrite fun hw => .geometry _ _ _ _ _ _ i id e hw hf.2
    · exact .nothing _
  case entryWriteTolerance =>
    exact act _ (fun r => requestOp_onEntry fun i id e => requestOp_bankWrite fun hw => .tolerance _ _ _ _ _ i id e _ hw)
      rfl
  case bankParamWrite =>
    exact act _ (requestOp_engineering (requestOp_onBank fun i id => requestOp_bankWrite fun hw => .header _ _ _ _ i id hw))
      rfl
  case bankCopy =>
    exact act _ (requestOp_engineering (requestOp_onStrand fun i => requestOp_bankWrite fun hw => .copy _ _ i hw)) rfl
  case bankSwitch =>
    refine act _ (requestOp_engineering (requestOp_onStrand fun i => ?_)) rfl
    split
    · exact requestOp_requestSwitch s _ _ i
    · exact .nothing _
  case bankSwitchCancel => exact act _ (requestOp_engineering (requestOp_onStrand fun i => .cancel _ i)) rfl
  case strandConfigWrite =>
    refine act _ (requestOp_engineering (requestOp_onStrand fun i => ?_)) rfl
    split
    · exact requestOp_writeConfig s _ _ _ i _
    · exact .nothing _
  case travelConfigWrite =>
    refine act _ (requestOp_engineering ?_) rfl
    dsimp only
    split
    · next hi => exact .travel _ (s.allIdle_iff.mp hi)
    · exact .nothing _
  case headCalWrite => exact act _ (requestOp_engineering (requestOp_onHead fun h => .calibrate _ _ _ _ h)) rfl
  case routeWrite =>
    refine act _ (requestOp_engineering ?_) rfl
    split
    · exact .route _ _ _ _ _
    · exact .nothing _
  case noticeTargetWrite =>
    refine act _ (requestOp_engineering ?_) rfl
    dsimp only
    split
    · exact .target _
    · exact .nothing _
  case headHold => exact act _ (fun _ => requestOp_onHead fun h => .hold _ h) rfl
  case headRelease => exact act _ (fun _ => requestOp_onHead fun h => .release _ h) rfl
  case strandStart => exact act _ (fun _ => requestOp_onStrand fun i => requestOp_requestStart s _ i) rfl
  case strandStop =>
    refine act _ (fun _ => requestOp_onStrand fun i => ?_) rfl
    split
    · next hl => exact .stop _ i hl
    · exact .nothing _
  case strandReset => exact act _ (fun _ => requestOp_onStrand fun i => .reset _ i) rfl
  case countersClear =>
    cases he
    unfold State.requestClear
    split
    · exact .inl rfl
    · split
      · exact .inr (replied_finish (.nothing _) _ _)
      · exact .inr ⟨_, _, _, .clear, .inl rfl, rfl⟩
  case restart =>
    by_cases hf : s.handler.restart = .idle
    · exact act _ (requestOp_engineering (.restart hf)) rfl
    · cases he
      exact .inl (State.carryOut_of_not_serves _ fun _ serves => hf serves.2.1)
  case unknownRequest =>
    cases he
    unfold State.refuseUnknown
    split
    · exact .inl rfl
    · exact .inr (replied_finish (.nothing _) _ _)
  all_goals simp [Instr.isRequest] at hr

/-- A predicate is kept by every request: by what its block does, by its count and by its reply. -/
structure RequestsKeep (P : State → Prop) : Prop where
  op : ∀ s c u, RequestOp s c u → P s → P u
  countRequest : ∀ s st, P s → P (s.countRequest st)
  offerReply : ∀ s r, P s → P (s.offerReply r)

theorem RequestsKeep.exec {P : State → Prop} (k : RequestsKeep P) {c : Instr} {s t : State} (hr : c.isRequest = true)
    (h : P s) (he : exec c s = .next t) : P t := by
  rcases exec_request hr he with rfl | ⟨u, v, r, hop, hv, rfl⟩
  · exact h
  · have hu := k.op _ _ _ hop h
    rcases hv with rfl | ⟨st, rfl⟩
    · exact k.offerReply _ _ hu
    · exact k.offerReply _ _ (k.countRequest _ _ hu)

/-! ### A step -/

/-- No command that the part carries out by itself is a power-on reset. -/
theorem State.due_ne_powerOnReset {s : State} {c : Instr} (h : s.due = some c) (straps : Fin 8) :
    c ≠ .powerOnReset straps := by
  have notHere {o : Option Instr} (hc : ∀ c, o = some c → c ≠ .powerOnReset straps) {o' : Option Instr}
      (hc' : ∀ c, o' = some c → c ≠ .powerOnReset straps) : ∀ c, (o <|> o') = some c → c ≠ .powerOnReset straps := by
    cases o <;> simp_all
  have restart : ∀ c, s.dueRestart = some c → c ≠ .powerOnReset straps := by
    intro c hc; unfold State.dueRestart at hc; split at hc <;> cases hc; nofun
  have request : ∀ c, s.dueRequest = some c → c ≠ .powerOnReset straps := by
    rintro c hc rfl
    unfold State.dueRequest at hc
    split at hc
    · split at hc
      · next r _ _ hr =>
        have hop : r.op = .powerOnReset straps := Option.some.inj hc
        simp [hop, Instr.isRequest] at hr
      · cases hc
    · cases hc
  have head : ∀ c, allHeads.findSome? s.dueHead = some c → c ≠ .powerOnReset straps := by
    intro c hc
    obtain ⟨h, -, hh⟩ := List.exists_of_findSome?_eq_some hc
    unfold State.dueHead at hh
    repeat' split at hh
    all_goals cases hh
    all_goals nofun
  have stall : ∀ c, s.dueStall = some c → c ≠ .powerOnReset straps := by
    intro c hc
    unfold State.dueStall at hc
    repeat' split at hc
    all_goals cases hc
    nofun
  have scanWait : ∀ c, allStrands.findSome? s.dueScanWait = some c → c ≠ .powerOnReset straps := by
    intro c hc
    obtain ⟨i, -, hi⟩ := List.exists_of_findSome?_eq_some hc
    unfold State.dueScanWait at hi
    repeat' split at hi
    all_goals cases hi
    nofun
  have evaluation : ∀ c, allStrands.findSome? s.dueEvaluation = some c → c ≠ .powerOnReset straps := by
    intro c hc
    obtain ⟨i, -, hi⟩ := List.exists_of_findSome?_eq_some hc
    unfold State.dueEvaluation at hi
    repeat' split at hi
    all_goals cases hi
    nofun
  exact notHere restart (notHere request (notHere head (notHere stall (notHere scanWait evaluation)))) c h

/-- A step is one microsecond, or `exec` of a command on the state with another queue. Only a command from outside is a power-on
reset. -/
theorem step_cases {s t : State} (h : step s = .next t) :
    t = s.tick ∨ ∃ c rest, exec c { s with pending := rest } = .next t ∧
      ∀ straps, c = .powerOnReset straps → s.pending.head? = some (.powerOnReset straps) := by
  unfold step at h
  split at h
  · next c rest hp => exact .inr ⟨c, rest, h, by rintro straps rfl; simp [hp]⟩
  · next hp =>
    split at h
    · next c hd => exact .inr ⟨c, s.pending, h, fun straps hc => absurd hc (State.due_ne_powerOnReset hd straps)⟩
    · cases h; exact .inl rfl

/-- A power-on reset carries out nothing but itself. -/
theorem exec_powerOnReset (straps : Fin 8) (s : State) :
    exec (.powerOnReset straps) s = .next { State.powerOn straps with pending := s.pending } := rfl

/-- An invariant of the part, shown by its values after a power-on reset, by the events and by the requests. -/
theorem step_keeps {P : State → Prop}
    (event : ∀ {c s t}, c.isRequest = false → (∀ straps, c ≠ .powerOnReset straps) → P s → exec c s = .next t → P t)
    (requests : RequestsKeep P) (pending : ∀ s rest, P s → P { s with pending := rest }) (tick : ∀ s, P s → P s.tick)
    (powerOn : ∀ straps, P (State.powerOn straps)) {s t : State} (h : step s = .next t) (hs : P s) : P t := by
  rcases step_cases h with rfl | ⟨c, rest, he, -⟩
  · exact tick s hs
  have hu := pending s rest hs
  cases hr : c.isRequest
  · by_cases hp : ∃ straps, c = .powerOnReset straps
    · obtain ⟨straps, rfl⟩ := hp
      cases he
      exact pending _ _ (powerOn straps)
    · exact event hr (fun straps hc => hp ⟨straps, hc⟩) hu he
  · exact requests.exec hr hu he

end Sys2Proof.Machine
end

section
/-! Proofs: the tables that only a write of their own changes (R9, R20, R40, R51, R79, R161), and what follows for the banks. -/

namespace Sys2Proof.Machine

/-! ### What events leave -/

/-- The waiting commands, the own station, and the part's tables but for banks in writing are the same. -/
structure SameTables (s t : State) : Prop where
  pending : t.pending = s.pending
  ownStation : t.ownStation = s.ownStation
  routes : t.routes = s.routes
  noticeTarget : t.handler.noticeTarget = s.handler.noticeTarget
  config : t.travel.config = s.travel.config
  setup : ∀ i, (t.strand i).setup = (s.strand i).setup
  mount : ∀ h, (t.head h).mount = (s.head h).mount

theorem SameTables.refl (s : State) : SameTables s s := ⟨rfl, rfl, rfl, rfl, rfl, fun _ => rfl, fun _ => rfl⟩

theorem SameTables.trans {s t u : State} (h : SameTables s t) (k : SameTables t u) : SameTables s u :=
  ⟨k.1.trans h.1, k.2.trans h.2, k.3.trans h.3, k.4.trans h.4, k.5.trans h.5, fun i => (k.6 i).trans (h.6 i),
    fun i => (k.7 i).trans (h.7 i)⟩

/-- The ports are none of the tables. -/
theorem sameTables_ports (s : State) (p : HeadPort) (q : LinePort) :
    SameTables s { s with headPort := p, linePort := q } := ⟨rfl, rfl, rfl, rfl, rfl, fun _ => rfl, fun _ => rfl⟩

theorem State.takeRequest_sameTables (s : State) (f : Frame) : SameTables s (s.takeRequest f) := by
  unfold State.takeRequest
  dsimp only
  split
  · exact ⟨rfl, rfl, rfl, rfl, rfl, fun _ => rfl, fun _ => rfl⟩
  · split
    · constructor <;> simp
    · exact ⟨rfl, rfl, rfl, rfl, rfl, fun _ => rfl, fun _ => rfl⟩

theorem State.arbitrate_sameTables (s : State) : SameTables s s.arbitrate := by
  unfold State.arbitrate
  repeat' split
  · constructor <;> simp [State.giveToReply]
  · constructor <;> simp [State.giveToAdvice]
  · constructor <;> simp [State.giveToPiece]
  · exact .refl s

theorem State.selectLine_sameTables (s : State) : SameTables s s.selectLine := by
  unfold State.selectLine
  dsimp only
  split
  · exact (sameTables_ports s _ _).trans (State.arbitrate_sameTables _)
  · exact sameTables_ports s _ _

theorem State.transmitted_sameTables (s : State) (port : Port) : SameTables s (s.transmitted port) := by
  cases port
  · simp only [State.transmitted]
    split
    · exact sameTables_ports s _ _
    · exact .refl s
  · simp only [State.transmitted]
    split
    · simp only [State.lineSent]
      split
      · exact ⟨rfl, rfl, rfl, rfl, rfl, fun _ => rfl, fun _ => rfl⟩
      · exact (sameTables_ports s _ _).trans (State.selectLine_sameTables _)
    · exact .refl s

theorem State.restarted_sameTables (s : State) : SameTables s s.restarted := by
  constructor <;> simp [State.restarted, Travel.restarted, Handler.restarted]

theorem sameTables_events (s : State) : EventsKeep (SameTables s) where
  setParser t port p h := h.trans (by constructor <;> simp)
  modCounters t port f h := h.trans (by constructor <;> simp)
  headPortRequest t n h := h.trans (sameTables_ports t _ _)
  offerForward t port f h := h.trans (by constructor <;> simp)
  takeRequest t f h := h.trans (t.takeRequest_sameTables f)
  reportCheckError t k h := h.trans (by constructor <;> simp)
  scan t k p h := h.trans (by constructor <;> simp)
  announce t k p h := h.trans (by constructor <;> simp)
  travelRecord t p c h := h.trans (by constructor <;> simp)
  pressNotice t n h := h.trans (by constructor <;> simp)
  handover t n h := h.trans (by constructor <;> simp)
  cutNotice t n x h := h.trans (by constructor <;> simp)
  transmitted t port h := h.trans (t.transmitted_sameTables port)
  releaseExpires t k h := h.trans (by
    unfold State.releaseExpires
    split
    · constructor <;> simp
    · exact .refl t)
  announceExpires t k h := h.trans (by
    unfold State.announceExpires
    split
    · constructor <;> simp
    · exact .refl t)
  stallExpires t h := h.trans (by
    unfold State.stallExpires
    split
    · constructor <;> simp
    · exact .refl t)
  scanWaitExpires t i h := h.trans (by
    unfold State.scanWaitExpires
    split
    · constructor <;> simp
    · exact .refl t)
  evaluationCompletes t i h := h.trans (by
    unfold State.evaluationCompletes
    split
    · constructor <;> simp
    · exact .refl t)
  restarted t _ h := h.trans t.restarted_sameTables

/-! ### What requests leave -/

theorem SameTables.slots {s t : State} (h : SameTables s t) (i : Fin 4) : (t.strand i).slots = (s.strand i).slots :=
  congrArg Setup.slots (h.setup i)

theorem SameTables.params {s t : State} (h : SameTables s t) (i : Fin 4) : (t.strand i).params = (s.strand i).params :=
  congrArg Setup.params (h.setup i)

/-- A bank is part of what only requests write. -/
theorem Strand.bank_of_setup {a b : Strand} (h : a.setup = b.setup) (id : BankId) : a.bank id = b.bank id := by
  cases id
  · exact congrArg Setup.bankA h
  · exact congrArg Setup.bankB h

theorem State.requestRelease_sameTables (s : State) (h : Fin 16) : SameTables s (s.requestRelease h).1 := by
  unfold State.requestRelease
  split
  · constructor <;> simp
  · constructor <;> simp
  · constructor <;> simp
  · constructor <;> simp
  · constructor <;> simp
  · exact .refl s
  · exact .refl s

theorem State.startStrand_sameTables (s : State) (i : Fin 4) : SameTables s (s.startStrand i) := by
  constructor <;> simp [State.startStrand]

theorem State.acceptSwitch_sameTables (s : State) (i : Fin 4) : SameTables s (s.acceptSwitch i) := by
  unfold State.acceptSwitch
  split <;> constructor <;> simp

@[simp] theorem Strand.setBank_slots (st : Strand) (id : BankId) (b : Bank) : (st.setBank id b).slots = st.slots := by
  cases id <;> rfl

@[simp] theorem Strand.setBank_params (st : Strand) (id : BankId) (b : Bank) : (st.setBank id b).params = st.params := by
  cases id <;> rfl

/-- A bank write leaves the configuration of every strand. -/
theorem State.writeBank_config (s : State) (i : Fin 4) (id : BankId) (f : Bank → Bank) (j : Fin 4) :
    ((s.modStrand i fun st => st.writeBank id f).strand j).slots = (s.strand j).slots ∧
      ((s.modStrand i fun st => st.writeBank id f).strand j).params = (s.strand j).params := by
  constructor <;> exact s.modStrand_keeps _ i j _ fun st => by simp [Strand.writeBank]

/-! ### The assignments that a configuration writes (R21, R31) -/

/-- What each head of a list makes of its own record, as long as the strands stay, a fold over the list makes of every record. -/
theorem foldl_head {f : State → Fin 16 → State} {g : Fin 16 → HeadRecord → HeadRecord} {s : State}
    (strands : ∀ t h, (f t h).strands = t.strands)
    (head : ∀ t, t.strands = s.strands → ∀ h k, (f t h).head k = if k = h then g h (t.head h) else t.head k)
    {l : List (Fin 16)} (hl : l.Nodup) (k : Fin 16) :
    (l.foldl f s).head k = if k ∈ l then g k (s.head k) else s.head k := by
  suffices ∀ t, t.strands = s.strands → (l.foldl f t).head k = if k ∈ l then g k (t.head k) else t.head k from this s rfl
  induction l with
  | nil => simp
  | cons h rest ih =>
    intro t ht
    obtain ⟨hn, hr⟩ := List.nodup_cons.mp hl
    rw [List.foldl_cons, ih hr _ ((strands t h).trans ht), head t ht]
    by_cases hk : k = h
    · subst hk; simp [hn]
    · simp [hk]

theorem nodup_allHeads : allHeads.Nodup := by decide

theorem mem_allHeads (h : Fin 16) : h ∈ allHeads := by revert h; decide

/-- The record of a head after strand `i` was configured: a change of its assignment re-evaluates its mismatch flag. -/
def State.assignedRecord (s : State) (i : Fin 4) (old new : Vector (Option (Fin 16)) 6) (h : Fin 16) (r : HeadRecord) :
    HeadRecord :=
  let a := newAssignment i old new h r.assignment
  if a = r.assignment then r
  else { r with assignment := a, mismatch := s.mismatchOf { r with assignment := a } }

theorem State.mismatchOf_congr {s t : State} (h : t.strands = s.strands) (r : HeadRecord) :
    t.mismatchOf r = s.mismatchOf r := by
  simp only [State.mismatchOf, State.strand, h]

theorem State.assignHead_head {s t : State} (ht : t.strands = s.strands) (i : Fin 4) (old new : Vector (Option (Fin 16)) 6)
    (h k : Fin 16) :
    (State.assignHead i old new t h).head k = if k = h then s.assignedRecord i old new h (t.head h) else t.head k := by
  by_cases hk : k = h
  · subst hk
    simp only [State.assignHead, State.assignedRecord, if_true]
    split
    · rfl
    · rw [State.reevaluate, State.head_modHead_same, State.mismatchOf_congr (s := s) (by simp [ht])]
      simp
  · simp [hk]

theorem State.configure_head (s : State) (i : Fin 4) (slots : Vector (Option (Fin 16)) 6) (p : StrandParams) (h : Fin 16) :
    (s.configure i slots p).head h =
      (s.modStrand i fun st => { st with slots := slots, params := p }).assignedRecord i (s.strand i).slots slots h
        (s.head h) := by
  rw [State.configure, foldl_head (by simp) (fun t ht => State.assignHead_head ht i _ _) nodup_allHeads,
    if_pos (mem_allHeads h)]
  simp

theorem foldl_assignHead_frame (i : Fin 4) (old new : Vector (Option (Fin 16)) 6) (l : List (Fin 16)) (s : State) :
    let t := l.foldl (State.assignHead i old new) s
    t.pending = s.pending ∧ t.now = s.now ∧ t.ownStation = s.ownStation ∧ t.routes = s.routes ∧ t.headPort = s.headPort ∧
      t.linePort = s.linePort ∧ t.travel = s.travel ∧ t.strands = s.strands ∧ t.scans = s.scans ∧
      t.pressUnknown = s.pressUnknown ∧ t.cutInvalid = s.cutInvalid ∧ t.handler = s.handler := by
  induction l generalizing s with
  | nil => simp
  | cons h rest ih => simpa using ih (State.assignHead i old new s h)

/-- A configuration changes one strand and the heads. -/
@[simp] theorem State.configure_frame (s : State) (i : Fin 4) (slots : Vector (Option (Fin 16)) 6) (p : StrandParams) :
    (s.configure i slots p).pending = s.pending ∧ (s.configure i slots p).now = s.now ∧
      (s.configure i slots p).ownStation = s.ownStation ∧ (s.configure i slots p).routes = s.routes ∧
      (s.configure i slots p).headPort = s.headPort ∧ (s.configure i slots p).linePort = s.linePort ∧
      (s.configure i slots p).travel = s.travel ∧
      (s.configure i slots p).strands = (s.modStrand i fun st => { st with slots := slots, params := p }).strands ∧
      (s.configure i slots p).scans = s.scans ∧ (s.configure i slots p).pressUnknown = s.pressUnknown ∧
      (s.configure i slots p).cutInvalid = s.cutInvalid ∧ (s.configure i slots p).handler = s.handler := by
  simpa [State.configure] using
    foldl_assignHead_frame i (s.strand i).slots slots allHeads (s.modStrand i fun st => { st with slots := slots, params := p })

theorem State.configure_strand (s : State) (i : Fin 4) (slots : Vector (Option (Fin 16)) 6) (p : StrandParams) (j : Fin 4) :
    (s.configure i slots p).strand j = (s.modStrand i fun st => { st with slots := slots, params := p }).strand j :=
  State.strand_of_strands (by simp) j

/-! ### Every command completes -/

/-- But for a write of its own, the command keeps each of the part's tables, and it keeps the own station. -/
abbrev TablesKept (c : Instr) (s t : State) : Prop :=
  t.ownStation = s.ownStation ∧ ((∀ n a k, c ≠ .routeWrite n a k) → t.routes = s.routes) ∧
    ((∀ n, c ≠ .noticeTargetWrite n) → t.handler.noticeTarget = s.handler.noticeTarget) ∧
    ((∀ x, c ≠ .travelConfigWrite x) → t.travel.config = s.travel.config) ∧
    ((∀ n v p, c ≠ .strandConfigWrite n v p) → ∀ i,
      (t.strand i).slots = (s.strand i).slots ∧ (t.strand i).params = (s.strand i).params) ∧
    ((∀ n o d w, c ≠ .headCalWrite n o d w) → ∀ h,
      (t.head h).offset = (s.head h).offset ∧ (t.head h).releaseDelay = (s.head h).releaseDelay ∧
        (t.head h).announceTimeout = (s.head h).announceTimeout)

theorem SameTables.kept {s t : State} (h : SameTables s t) (c : Instr) : TablesKept c s t :=
  ⟨h.ownStation, fun _ => h.routes, fun _ => h.noticeTarget, fun _ => h.config, fun _ i => ⟨h.slots i, h.params i⟩,
    fun _ k => ⟨congrArg Mount.offset (h.mount k), congrArg Mount.releaseDelay (h.mount k),
      congrArg Mount.announceTimeout (h.mount k)⟩⟩

theorem State.writeBank_kept (s : State) (i : Fin 4) (id : BankId) (f : Bank → Bank) (c : Instr) :
    TablesKept c s (s.modStrand i fun st => st.writeBank id f) :=
  ⟨rfl, fun _ => rfl, fun _ => rfl, fun _ => rfl, fun _ => s.writeBank_config i id f, fun _ _ => ⟨rfl, rfl, rfl⟩⟩

theorem State.assignedRecord_calibration (s : State) (i : Fin 4) (old new : Vector (Option (Fin 16)) 6) (h : Fin 16)
    (r : HeadRecord) :
    (s.assignedRecord i old new h r).offset = r.offset ∧ (s.assignedRecord i old new h r).releaseDelay = r.releaseDelay ∧
      (s.assignedRecord i old new h r).announceTimeout = r.announceTimeout := by
  simp only [State.assignedRecord]
  split <;> exact ⟨rfl, rfl, rfl⟩

/-- What a request does keeps the waiting commands, and of the tables all but its own. -/
theorem RequestOp.kept {s u : State} {c : Instr} (h : RequestOp s c u) : u.pending = s.pending ∧ TablesKept c s u := by
  have same {u : State} (h : SameTables s u) : u.pending = s.pending ∧ TablesKept c s u := ⟨h.pending, h.kept c⟩
  cases h with
  | nothing => exact same (.refl s)
  | hold => exact same (by constructor <;> simp)
  | release _ h => exact same (s.requestRelease_sameTables h)
  | start _ i => exact same (s.startStrand_sameTables i)
  | stop => exact same (by constructor <;> simp)
  | reset => exact same (by constructor <;> simp [State.resetStrand])
  | clear => exact same (by constructor <;> simp)
  | restart => exact same ⟨rfl, rfl, rfl, rfl, rfl, fun _ => rfl, fun _ => rfl⟩
  | refuseWrite => exact same (by constructor <;> simp)
  | geometry => exact ⟨rfl, s.writeBank_kept _ _ _ _⟩
  | tolerance => exact ⟨rfl, s.writeBank_kept _ _ _ _⟩
  | header => exact ⟨rfl, s.writeBank_kept _ _ _ _⟩
  | copy => exact ⟨rfl, s.writeBank_kept _ _ _ _⟩
  | switch _ _ i => exact same (s.acceptSwitch_sameTables i)
  | cancel => exact same (by constructor <;> simp)
  | config n v p i slots =>
    refine ⟨by simp, by simp, by simp, by simp, by simp, fun hc => absurd rfl (hc n v p), fun _ h => ?_⟩
    rw [s.configure_head]
    exact State.assignedRecord_calibration ..
  | travel x => exact ⟨rfl, rfl, fun _ => rfl, fun _ => rfl, fun hc => absurd rfl (hc x), fun _ _ => ⟨rfl, rfl⟩,
      fun _ _ => ⟨rfl, rfl, rfl⟩⟩
  | calibrate n o d w => exact ⟨rfl, rfl, fun _ => rfl, fun _ => rfl, fun _ => rfl, fun _ _ => ⟨rfl, rfl⟩,
      fun hc => absurd rfl (hc n o d w)⟩
  | route n a k => exact ⟨rfl, rfl, fun hc => absurd rfl (hc n a k), fun _ => rfl, fun _ => rfl, fun _ _ => ⟨rfl, rfl⟩,
      fun _ _ => ⟨rfl, rfl, rfl⟩⟩
  | target n => exact ⟨rfl, rfl, fun _ => rfl, fun hc => absurd rfl (hc n), fun _ => rfl, fun _ _ => ⟨rfl, rfl⟩,
      fun _ _ => ⟨rfl, rfl, rfl⟩⟩

/-- A count and a reply touch none of the tables. -/
theorem Replied.kept {s t : State} {c : Instr} (h : Replied s c t) : t.pending = s.pending ∧ TablesKept c s t := by
  obtain ⟨u, v, r, hop, hv, rfl⟩ := h
  have hu := hop.kept
  rcases hv with rfl | ⟨st, rfl⟩ <;> simpa [TablesKept] using hu

/-- Every command answers a next state. -/
theorem exec_completes (c : Instr) (s : State) : ∃ t, exec c s = .next t := by
  cases c
  case restartTakesEffect =>
    by_cases h : s.handler.restart = .due
    · exact ⟨_, if_pos h⟩
    · exact ⟨_, if_neg h⟩
  all_goals exact ⟨_, rfl⟩

/-- Settles O2: an event keeps every table, and a request every table but the one that it writes. -/
theorem everyCommandCompletes : Obligations.EveryCommandCompletes := by
  intro c s
  obtain ⟨t, ht⟩ := exec_completes c s
  refine ⟨t, ht, ?_⟩
  cases hr : c.isRequest
  · by_cases hp : ∃ straps, c = .powerOnReset straps
    · obtain ⟨straps, rfl⟩ := hp
      cases ht
      exact ⟨rfl, fun h => absurd rfl (h straps)⟩
    · have same := (sameTables_events s).exec hr (fun straps hc => hp ⟨straps, hc⟩) (.refl s) ht
      exact ⟨same.pending, fun _ => same.kept c⟩
  · rcases exec_request hr ht with rfl | h
    · exact ⟨rfl, fun _ => (SameTables.refl t).kept c⟩
    · exact ⟨h.kept.1, fun _ => h.kept.2⟩

end Sys2Proof.Machine
end

section
/-! Proofs: only a STANDBY bank is written (R84, R85), and stored configurations and banks lie in their ranges (R51, R79 to R81,
R86). -/

namespace Sys2Proof.Machine

/-! ### Values brought into their ranges -/

theorem clampNat_bounds {lo hi : Nat} (h : lo ≤ hi) (n : Nat) : lo ≤ clampNat lo hi n ∧ clampNat lo hi n ≤ hi := by
  simp only [clampNat]; omega

theorem clampInt_bounds {lo hi : Int} (h : lo ≤ hi) (z : Int) : lo ≤ clampInt lo hi z ∧ clampInt lo hi z ≤ hi := by
  simp only [clampInt]; omega

theorem clampNat_le (hi n : Nat) : clampNat 0 hi n ≤ hi := (clampNat_bounds (Nat.zero_le hi) n).2

theorem clampParams_law (p : StrandParams) : ParamsLaw (clampParams p) := by
  simp only [ParamsLaw, clampParams, clampNat]; omega

theorem clampGeometry_law {g : Geometry} (h : g.slot ≤ 5) {e : GaugeEntry} (he : EntryLaw e) :
    EntryLaw { e with geo := clampGeometry g } := by
  obtain ⟨-, -, -, -, -, -, -, -, -, -, -, -, -, -, -, -, tol⟩ := he
  refine ⟨h, ?_, ?_, ?_, ?_, ?_, ?_, ?_, ?_, ?_, ?_, ?_, ?_, ?_, ?_, ?_, tol⟩ <;>
    simp only [clampGeometry, clampNat, clampInt] <;> omega

/-- An operator's band lies between the entry's floor and ceiling, and so in the ranges of its fields too. -/
theorem clampToleranceFor_law (c : SourceClass) (t : Tolerance) {e : GaugeEntry} (he : EntryLaw e) :
    EntryLaw { e with tol := clampToleranceFor c e.geo t } := by
  obtain ⟨h1, h2, h3, h4, h5, h6, h7, h8, h9, h10, h11, h12, h13, h14, h15, h16, -⟩ := he
  refine ⟨h1, h2, h3, h4, h5, h6, h7, h8, h9, h10, h11, h12, h13, h14, h15, h16, ?_⟩
  cases c <;> simp only [clampToleranceFor, clampTolerance, clampNat, clampInt] <;> omega

theorem clampHeader_law (x : BankHeader) {b : Bank} (hb : BankLaw b) : BankLaw { b with header := clampHeader x } := by
  obtain ⟨gen, -, -, -, -, -, -, -, -, -, entries⟩ := hb
  refine ⟨gen, clampNat_le .., fun t => ?_, clampNat_le .., (clampNat_bounds (by omega) _).1,
    (clampNat_bounds (by omega) _).2, clampNat_le .., clampNat_le .., clampNat_le .., clampNat_le .., entries⟩
  simpa [clampHeader] using clampNat_bounds (lo := 64) (hi := 512) (by omega) x.widths[t]

/-- A bank with one entry replaced by another that lies in its ranges. -/
theorem setEntry_law {b : Bank} (hb : BankLaw b) (e : Fin 64) {x : GaugeEntry} (hx : EntryLaw x) :
    BankLaw { b with entries := b.entries.set e x } := by
  obtain ⟨h1, h2, h3, h4, h5, h6, h7, h8, h9, h10, entries⟩ := hb
  refine ⟨h1, h2, h3, h4, h5, h6, h7, h8, h9, h10, fun k => ?_⟩
  by_cases hk : e = k
  · subst hk
    simpa using hx
  · have : (b.entries.set e x)[k] = b.entries[k] := by simp [Fin.val_ne_of_ne hk]
    exact cast (congrArg EntryLaw this.symm) (entries k)

/-! ### A bank write -/

@[simp] theorem Strand.setBank_bank_same (st : Strand) (id : BankId) (b : Bank) : (st.setBank id b).bank id = b := by
  cases id <;> rfl

theorem Strand.setBank_bank_of_ne (st : Strand) {id other : BankId} (b : Bank) (h : other ≠ id) :
    (st.setBank id b).bank other = st.bank other := by
  cases id <;> cases other
  case a.a => exact absurd rfl h
  case b.b => exact absurd rfl h
  all_goals rfl

theorem Strand.writeBank_bank_same (st : Strand) (id : BankId) (f : Bank → Bank) :
    (st.writeBank id f).bank id = { f (st.bank id) with generation := (st.bank id).generation + 1 } := by
  cases id <;> rfl

theorem Strand.writeBank_bank_of_ne (st : Strand) {id other : BankId} (f : Bank → Bank) (h : other ≠ id) :
    (st.writeBank id f).bank other = st.bank other :=
  .trans (by cases other <;> rfl) (st.setBank_bank_of_ne _ h)

/-- A bank write is accepted only into a STANDBY bank below the greatest generation (R83). -/
theorem Strand.standby_of_writeRefusal {st : Strand} {id : BankId} {n : Nat} (h : st.writeRefusal id n = none) :
    st.role id = .standby ∧ (st.bank id).generation ≠ maxGeneration := by
  unfold Strand.writeRefusal at h
  split at h
  · cases h
  · cases h
  · next standby =>
    split at h
    · cases h
    · split at h
      · cases h
      · next hm => exact ⟨standby, hm⟩

/-- One bank of `s`, a STANDBY one, has been written by `f`, which keeps the ranges of a bank (R83 to R89). -/
def BankWritten (s u : State) : Prop :=
  ∃ i id f, (s.strand i).role id = .standby ∧ ((s.strand i).bank id).generation ≠ maxGeneration ∧
    ((∀ k, BankLaw ((s.strand i).bank k)) → BankLaw (f ((s.strand i).bank id))) ∧
    u = s.modStrand i fun st => st.writeBank id f

/-- A request leaves the banks, or it writes one. -/
theorem RequestOp.banks {s u : State} {c : Instr} (h : RequestOp s c u) :
    (∀ j id, (u.strand j).bank id = (s.strand j).bank id) ∨ BankWritten s u := by
  have same {u : State} (h : SameTables s u) : ∀ j id, (u.strand j).bank id = (s.strand j).bank id :=
    fun j id => Strand.bank_of_setup (h.setup j) id
  have written {i id f m} (hw : (s.strand i).writeRefusal id m = none)
      (hf : (∀ k, BankLaw ((s.strand i).bank k)) → BankLaw (f ((s.strand i).bank id))) :
      BankWritten s (s.modStrand i fun st => st.writeBank id f) :=
    ⟨i, id, f, (Strand.standby_of_writeRefusal hw).1, (Strand.standby_of_writeRefusal hw).2, hf, rfl⟩
  cases h with
  | geometry _ _ _ _ _ f i id e hw hs =>
    exact .inr (written hw fun h => setEntry_law (h id) e (clampGeometry_law hs ((h id).2.2.2.2.2.2.2.2.2.2 e)))
  | tolerance _ _ _ _ f i id e c hw =>
    exact .inr (written hw fun h => setEntry_law (h id) e (clampToleranceFor_law c f ((h id).2.2.2.2.2.2.2.2.2.2 e)))
  | header _ _ _ x i id hw => exact .inr (written hw fun h => clampHeader_law x (h id))
  | copy _ _ i hw => exact .inr (written hw fun h => h _)
  | nothing => exact .inl (same (.refl s))
  | hold => exact .inl (same (by constructor <;> simp))
  | release _ h => exact .inl (same (s.requestRelease_sameTables h))
  | start _ i => exact .inl (same (s.startStrand_sameTables i))
  | stop => exact .inl (same (by constructor <;> simp))
  | reset => exact .inl (same (by constructor <;> simp [State.resetStrand]))
  | clear => exact .inl (same (by constructor <;> simp))
  | refuseWrite => exact .inl (same (by constructor <;> simp))
  | switch _ _ i => exact .inl (same (s.acceptSwitch_sameTables i))
  | cancel => exact .inl (same (by constructor <;> simp))
  | config _ _ _ i slots =>
    refine .inl fun j id => ?_
    rw [s.configure_strand]
    exact s.modStrand_keeps (Strand.bank · id) i j _ fun st => by cases id <;> rfl
  | calibrate _ _ _ _ h => exact .inl fun _ _ => rfl
  | restart | travel | route | target => exact .inl fun _ _ => rfl

/-- But for a power-on reset, a command leaves the banks, or it writes one. -/
theorem exec_banks {c : Instr} {s t : State} (hp : ∀ straps, c ≠ .powerOnReset straps) (he : exec c s = .next t) :
    (∀ j id, (t.strand j).bank id = (s.strand j).bank id) ∨
      ∃ u, BankWritten s u ∧ ∀ j, (t.strand j).bank = (u.strand j).bank := by
  cases hr : c.isRequest
  · have same := (sameTables_events s).exec hr hp (.refl s) he
    exact .inl fun j id => Strand.bank_of_setup (same.setup j) id
  · rcases exec_request hr he with rfl | ⟨u, v, r, hop, hv, rfl⟩
    · exact .inl fun _ _ => rfl
    have hv (j) : ((v.offerReply r).strand j).bank = (u.strand j).bank := by
      rcases hv with rfl | ⟨st, rfl⟩ <;> simp
    exact hop.banks.imp (fun h j id => (congrFun (hv j) id).trans (h j id)) fun h => ⟨u, h, hv⟩

/-- The bank that is written is STANDBY, its generation rises by one, and every other bank stays. -/
theorem BankWritten.bank {s u : State} (h : BankWritten s u) (j : Fin 4) (id : BankId) :
    (u.strand j).bank id = (s.strand j).bank id ∨
      (s.strand j).role id = .standby ∧ ((u.strand j).bank id).generation = ((s.strand j).bank id).generation + 1 := by
  obtain ⟨i, k, f, standby, -, -, rfl⟩ := h
  by_cases hj : j = i
  · subst hj
    by_cases hk : id = k
    · subst hk
      exact .inr ⟨standby, by simp [Strand.writeBank_bank_same]⟩
    · exact .inl (by simp [Strand.writeBank_bank_of_ne _ _ hk])
  · exact .inl (by simp [hj])

/-- Settles O9: a step is a moment, an event, which keeps the banks, or a request, of which only a bank write changes one. -/
theorem onlyStandbyBanksWritten : Obligations.OnlyStandbyBanksWritten := by
  intro s t hp h i id
  rcases step_cases h with rfl | ⟨c, rest, he, hc⟩
  · exact .inl rfl
  · rcases exec_banks (fun straps e => hp straps (hc straps e)) he with same | ⟨u, written, hu⟩
    · exact .inl (same i id)
    · rw [hu]
      exact written.bank i id

end Sys2Proof.Machine
end

section
/-! Proofs: the values of the Travel Unit lie in their ranges, and the length limit flag is exact (R40, R41, R44, R45, R48). -/

namespace Sys2Proof.Machine

/-! ### What an increase makes of the Travel Unit (R46, R48) -/

theorem foldl_informStrand_travel (s : State) (l : List (Fin 4)) : (l.foldl State.informStrand s).travel = s.travel :=
  List.foldlRecOn (motive := fun t : State => t.travel = s.travel) l State.informStrand rfl fun _ ht i _ => by simp [ht]

theorem foldl_endRun_travel (s : State) (l : List (Fin 4)) : (l.foldl State.endRun s).travel = s.travel :=
  List.foldlRecOn (motive := fun t : State => t.travel = s.travel) l State.endRun rfl fun _ ht i _ => by simp [ht]

/-- The limit check sets the flag where L is at its limit, and changes nothing else of the Travel Unit. -/
theorem State.limitReached_travel (s : State) :
    s.limitReached.travel = { s.travel with limitReached := s.travel.limitReached || decide (s.travel.length = maxLength) } := by
  unfold State.limitReached
  split
  · next h => simp [foldl_endRun_travel, h.1]
  · next h =>
    by_cases hl : s.travel.length = maxLength
    · have hf : s.travel.limitReached = true := by simpa [hl] using h
      simp only [hf, Bool.true_or]
      exact hf ▸ rfl
    · simp [hl]

/-- An increase makes the motion MOVING, records its time, and checks the limit. -/
theorem State.increase_travel (s : State) :
    s.increase.travel = { s.travel with
      moving := true, lastAdvance := some s.now,
      limitReached := s.travel.limitReached || decide (s.travel.length = maxLength) } := by
  rw [State.increase, State.limitReached_travel, foldl_informStrand_travel]

/-! ### The ranges -/

/-- The Travel Unit's values but for the length limit flag lie in their ranges. -/
theorem Travel.advance_law {t : Travel} (h : TravelLaw t) (d : Nat) :
    let u := t.advance d
    TravelLaw { u with limitReached := t.limitReached || decide (u.length = maxLength) } ∧
      t.length ≤ u.length ∧ u.limitReached = t.limitReached := by
  obtain ⟨h1, h2, h3, h4, h5, h6, h7, h8, res, debt, len, flag⟩ := h
  have paid : t.debt - d ≤ 65535 := by omega
  have exact {n : Nat} (hn : t.length ≤ n) (hm : n ≤ maxLength) :
      ((t.limitReached || decide (n = maxLength)) = true ↔ n = 1099511627775) := by
    rw [Bool.or_eq_true, flag, decide_eq_true_eq]
    simp only [maxLength] at *
    omega
  simp only [Travel.advance]
  split
  · exact ⟨⟨h1, h2, h3, h4, h5, h6, h7, h8, res, paid, len, exact le_rfl len⟩, le_rfl, rfl⟩
  · have rises : t.length ≤
        if t.length < maxLength then min (t.length + t.total d / t.config.den) maxLength else t.length := by
      split
      · exact le_min (Nat.le_add_right ..) len
      · exact le_rfl
    have limit : (if t.length < maxLength then min (t.length + t.total d / t.config.den) maxLength else t.length) ≤
        maxLength := by
      split
      · exact min_le_right ..
      · exact len
    exact ⟨⟨h1, h2, h3, h4, h5, h6, h7, h8, Nat.mod_lt _ h3, paid, limit, exact rises limit⟩, rises, rfl⟩

theorem State.advance_law {s : State} (h : TravelLaw s.travel) (d : Nat) : TravelLaw (s.advance d).travel := by
  obtain ⟨law, rises, flag⟩ := Travel.advance_law h d
  unfold State.advance
  dsimp only
  split
  · rw [State.increase_travel]
    simpa only [flag] using law
  · next hl =>
    have hs : s.travel.length = (s.travel.advance d).length := by omega
    have hf : (s.travel.limitReached || decide ((s.travel.advance d).length = maxLength)) = s.travel.limitReached := by
      rw [← hs, Bool.or_eq_left_iff_imp, decide_eq_true_eq]
      exact h.2.2.2.2.2.2.2.2.2.2.2.mpr
    rw [hf, ← flag] at law
    exact law

theorem State.judgeDelta_law {s : State} (h : TravelLaw s.travel) (p : Puller) (c : Word32) (d : Int) :
    TravelLaw (s.judgeDelta p c d).travel := by
  unfold State.judgeDelta
  repeat' split
  · simpa [State.jump, TravelLaw] using h
  · obtain ⟨h1, h2, h3, h4, h5, h6, h7, h8, res, -, len, flag⟩ := h
    exact ⟨h1, h2, h3, h4, h5, h6, h7, h8, res, min_le_right .., len, flag⟩
  · exact s.advance_law h _
  · exact h

theorem State.travelRecord_law {s : State} (h : TravelLaw s.travel) (p : Puller) (c : Word32) :
    TravelLaw (s.travelRecord p c).travel := by
  have counted : TravelLaw ((s.travel.countRecord p).setRef p c) := by cases p <;> exact h
  unfold State.travelRecord
  dsimp only
  split
  · exact counted
  · split
    · exact State.judgeDelta_law counted ..
    · exact counted

theorem State.handover_law {s : State} (h : TravelLaw s.travel) (code : Nat) : TravelLaw (s.handover code).travel := by
  have drive : ∀ p, TravelLaw { s.travel with
      driving := p, debt := 0, counters.handovers := inc s.travel.counters.handovers } := by
    obtain ⟨h1, h2, h3, h4, h5, h6, h7, h8, res, -, len, flag⟩ := h
    exact fun _ => ⟨h1, h2, h3, h4, h5, h6, h7, h8, res, Nat.zero_le _, len, flag⟩
  unfold State.handover
  dsimp only
  split
  · split; exacts [h, drive .a]
  · split; exacts [h, drive .b]
  · exact h

theorem travelLaw_restarted {t : Travel} (h : TravelLaw t) : TravelLaw t.restarted := by
  obtain ⟨h1, h2, h3, h4, h5, h6, h7, h8, res, debt, len, flag⟩ := h
  exact ⟨h1, h2, h3, h4, h5, h6, h7, h8, h3, Nat.zero_le _, Nat.zero_le _, by simp [Travel.restarted]⟩

/-- The Travel Unit after a stall: only its motion has changed. -/
theorem State.stall_travel (s : State) : s.stall.travel = { s.travel with moving := false } :=
  List.foldlRecOn (motive := fun t : State => t.travel = _) allStrands State.stallStrand rfl fun _ ht i _ => by simp [ht]

/-- What no transmission changes: the tables, the heads and the Travel Unit. -/
abbrev SameBlocks (s t : State) : Prop :=
  t.pending = s.pending ∧ t.now = s.now ∧ t.ownStation = s.ownStation ∧ t.routes = s.routes ∧ t.heads = s.heads ∧
    t.travel = s.travel ∧ t.scans = s.scans ∧ t.pressUnknown = s.pressUnknown ∧ t.cutInvalid = s.cutInvalid

theorem State.arbitrate_sameBlocks (s : State) : SameBlocks s s.arbitrate := by
  unfold State.arbitrate
  repeat' split
  · simp [SameBlocks, State.giveToReply]
  · simp [SameBlocks, State.giveToAdvice]
  · simp [SameBlocks, State.giveToPiece]
  · simp [SameBlocks]

theorem State.transmitted_sameBlocks (s : State) (port : Port) : SameBlocks s (s.transmitted port) := by
  cases port
  · simp only [State.transmitted]
    split <;> simp [SameBlocks]
  · simp only [State.transmitted]
    split
    · simp only [State.lineSent]
      split
      · simp [SameBlocks]
      · simp only [State.selectLine]
        split
        · exact State.arbitrate_sameBlocks _
        · simp [SameBlocks]
    · simp [SameBlocks]

theorem State.takeRequest_sameBlocks (s : State) (f : Frame) : SameBlocks s (s.takeRequest f) := by
  unfold State.takeRequest
  dsimp only
  repeat' split
  · simp [SameBlocks]
  · simp [SameBlocks]
  · simp [SameBlocks]

theorem travelLaw_events : EventsKeep fun s => TravelLaw s.travel where
  setParser s port p h := by simpa [TravelLaw] using h
  modCounters s port f h := by simpa [TravelLaw] using h
  headPortRequest s n h := h
  offerForward s port f h := by simpa [TravelLaw] using h
  takeRequest s f h := by
    obtain ⟨-, -, -, -, -, travel, -⟩ := s.takeRequest_sameBlocks f
    exact travel ▸ h
  reportCheckError s k h := by simpa [TravelLaw] using h
  scan s k p h := by simpa [TravelLaw] using h
  announce s k p h := by simpa [TravelLaw] using h
  travelRecord s p c h := s.travelRecord_law h p c
  pressNotice s n h := by simpa [TravelLaw] using h
  handover s n h := s.handover_law h n
  cutNotice s n x h := by simpa [TravelLaw] using h
  transmitted s port h := by
    obtain ⟨-, -, -, -, -, travel, -⟩ := s.transmitted_sameBlocks port
    exact travel ▸ h
  releaseExpires s k h := by
    unfold State.releaseExpires
    split
    · simpa [TravelLaw] using h
    · exact h
  announceExpires s k h := by
    unfold State.announceExpires
    split
    · simpa [TravelLaw] using h
    · exact h
  stallExpires s h := by
    unfold State.stallExpires
    split
    · rw [State.stall_travel]; exact h
    · exact h
  scanWaitExpires s i h := by
    unfold State.scanWaitExpires
    split
    · simpa [TravelLaw] using h
    · exact h
  evaluationCompletes s i h := by
    unfold State.evaluationCompletes
    split
    · simpa [TravelLaw] using h
    · exact h
  restarted s _ h := by
    simpa [State.restarted] using travelLaw_restarted h

theorem RequestOp.travelLaw {s u : State} {c : Instr} (h : RequestOp s c u) (hs : TravelLaw s.travel) : TravelLaw u.travel := by
  have same (hu : u.travel = s.travel) : TravelLaw u.travel := hu ▸ hs
  cases h with
  | travel x _ =>
    obtain ⟨-, -, -, -, -, -, -, -, -, debt, len, flag⟩ := hs
    have hnum := clampNat_bounds (lo := 1) (hi := 65535) (by omega) x.num
    have hden := clampNat_bounds (lo := 1) (hi := 65535) (by omega) x.den
    have hstep := clampNat_bounds (lo := 1) (hi := 65535) (by omega) x.maxStep
    have hstall := clampNat_bounds (lo := 1) (hi := 10000) (by omega) x.stallTime
    exact ⟨hnum.1, hnum.2, hden.1, hden.2, hstep.1, hstep.2, hstall.1, hstall.2, hden.1, debt, len, flag⟩
  | clear => simpa [State.clearCounters] using hs
  | release _ h =>
    refine same ?_
    unfold State.requestRelease
    split
    case h_6 | h_7 => rfl
    all_goals simp
  | switch _ _ i =>
    refine same ?_
    unfold State.acceptSwitch
    split <;> simp
  | start => exact same (by simp [State.startStrand])
  | reset => exact same (by simp [State.resetStrand])
  | nothing | restart | route | calibrate | target => exact hs
  | _ => exact same (by simp)

theorem travelLaw_requests : RequestsKeep fun s => TravelLaw s.travel where
  op _ _ _ h hs := h.travelLaw hs
  countRequest s st h := by simpa [TravelLaw] using h
  offerReply s r h := by simpa [TravelLaw] using h

/-! ### Configurations and banks -/

/-- The stored configurations and banks lie in their ranges. -/
abbrev StoredLaw (s : State) : Prop := ∀ i, ParamsLaw (s.strand i).params ∧ ∀ id, BankLaw ((s.strand i).bank id)

theorem storedLaw_of_same {s t : State} (params : ∀ i, (t.strand i).params = (s.strand i).params)
    (bank : ∀ i id, (t.strand i).bank id = (s.strand i).bank id) (h : StoredLaw s) : StoredLaw t := fun i =>
  ⟨(params i).symm ▸ (h i).1, fun id => (bank i id).symm ▸ (h i).2 id⟩

/-- A bank of a strand after a write lies in its ranges: a generation below the greatest rises by one. -/
theorem BankWritten.storedLaw {s u : State} (h : BankWritten s u) (hs : StoredLaw s) : StoredLaw u := by
  obtain ⟨i, k, f, -, hg, law, rfl⟩ := h
  intro j
  refine ⟨(s.writeBank_config i k f j).2.symm ▸ (hs j).1, fun id => ?_⟩
  by_cases hj : j = i
  · subst hj
    rw [State.strand_modStrand_same]
    by_cases hk : id = k
    · subst hk
      rw [Strand.writeBank_bank_same]
      obtain ⟨-, rest⟩ := law (hs j).2
      have below : ((s.strand j).bank id).generation + 1 ≤ 4294967295 := by
        have := ((hs j).2 id).1
        simp only [maxGeneration] at hg
        omega
      exact ⟨below, rest⟩
    · rw [Strand.writeBank_bank_of_ne _ _ hk]
      exact (hs j).2 id
  · rw [s.strand_modStrand_other _ hj]
    exact (hs j).2 id

theorem RequestOp.storedLaw {s u : State} {c : Instr} (h : RequestOp s c u) (hs : StoredLaw s) : StoredLaw u := by
  by_cases hc : ∃ n v p, c = .strandConfigWrite n v p
  · obtain ⟨n, v, p, rfl⟩ := hc
    rcases h.banks with same | written
    · intro i
      refine ⟨?_, fun id => same i id ▸ (hs i).2 id⟩
      cases h with
      | config _ _ _ j slots =>
        rw [s.configure_strand]
        by_cases hi : i = j
        · subst hi; simpa using clampParams_law p
        · simpa [hi] using (hs i).1
      | nothing => exact (hs i).1
      | refuseWrite _ j =>
        have kept := s.modStrand_keeps Strand.params j i
          (fun x => { x with tplCounters.bankWritesRefused := inc x.tplCounters.bankWritesRefused }) fun _ => rfl
        exact kept ▸ (hs i).1
    · exact written.storedLaw hs
  · rcases h.banks with same | written
    · exact storedLaw_of_same (fun i => (h.kept.2.2.2.2.2.1 (fun n v p e => hc ⟨n, v, p, e⟩) i).2) same hs
    · exact written.storedLaw hs

theorem storedLaw_requests : RequestsKeep StoredLaw where
  op _ _ _ h hs := h.storedLaw hs
  countRequest s st h := storedLaw_of_same (by simp) (by simp) h
  offerReply s r h := storedLaw_of_same (by simp) (by simp) h

/-- An event changes no configuration and no bank. -/
theorem storedLaw_event {c : Instr} {s t : State} (hr : c.isRequest = false) (hp : ∀ straps, c ≠ .powerOnReset straps)
    (h : StoredLaw s) (he : exec c s = .next t) : StoredLaw t :=
  have same := (sameTables_events s).exec hr hp (.refl s) he
  storedLaw_of_same same.params (fun i id => Strand.bank_of_setup (same.setup i) id) h

theorem powerOn_strand (straps : Fin 8) (i : Fin 4) : (State.powerOn straps).strand i = {} :=
  by simp [State.powerOn, State.strand]

theorem travelLaw_powerOn (straps : Fin 8) : TravelLaw (State.powerOn straps).travel :=
  have : TravelLaw {} := by decide
  this

theorem storedLaw_powerOn (straps : Fin 8) : StoredLaw (State.powerOn straps) := by
  intro i
  rw [powerOn_strand]
  refine ⟨by decide, fun id => ?_⟩
  have law : BankLaw {} := by
    refine ⟨by decide, by decide, fun t => ?_, by decide, by decide, by decide, by decide, by decide, by decide, by decide,
      fun e => ?_⟩
    · simp
    · have : (Vector.replicate 64 ({} : GaugeEntry))[e] = {} := by simp
      exact cast (congrArg EntryLaw this.symm) (by decide)
  cases id <;> exact law

/-- Settles O8: events keep the configurations and the banks, and every write clamps; the Travel Unit's law is an invariant. -/
theorem storedValuesInRange : Obligations.StoredValuesInRange := fun _ _ h =>
  ⟨step_keeps storedLaw_event storedLaw_requests (fun _ _ hs => hs) (fun _ hs => hs) storedLaw_powerOn h,
    step_keeps travelLaw_events.exec travelLaw_requests (fun _ _ hs => hs) (fun _ hs => hs) travelLaw_powerOn h⟩

end Sys2Proof.Machine
end

section
/-! Proofs: what the blocks of the part do to the heads and the ports. A predicate that reads neither the strands nor the Travel
Unit is kept by every block's work, where it is kept by a change of the heads that keeps their law, and by each frame or record
that joins a port. -/

namespace Sys2Proof.Machine

/-- A predicate on the heads, the ports and the Request Handler is kept by what the blocks do to them. -/
structure BlocksKeep (P : State → Prop) : Prop where
  rest : ∀ (s : State) now travel strands scans press cut, P s →
    P { s with now := now, travel := travel, strands := strands, scans := scans, pressUnknown := press, cutInvalid := cut }
  heads : ∀ (s : State) (v : Vector HeadRecord 16), (∀ h : Fin 16, HeadLaw (s.head h) → HeadLaw v[h]) → P s →
    P { s with heads := v }
  raise : ∀ s n, P s → P (s.raise n)
  record : ∀ s r, s.linePort.own.length < lineOwnCapacity → P s → P (s.enqueueRecord r)
  trigger : ∀ s f, P s → P (s.enqueueTrigger f)
  control : ∀ s f, P s → P (s.enqueueControl f)

/-- A SILENT head becomes ONLINE, and any other keeps its state: the law stays, whatever the counts. -/
theorem HeadLaw.online_of_silent {r : HeadRecord} (law : HeadLaw r) (errors misses : Nat) (c : HeadCounters) :
    HeadLaw { r with
      checkErrors := errors, misses := misses, counters := c, state := if r.state = .silent then .online else r.state } := by
  by_cases h : r.state = .silent
  · simpa [HeadLaw, HeadState.inService, h] using law
  · simpa [HeadLaw, h] using law

/-- An ONLINE head becomes SILENT: it stays in service. -/
theorem HeadLaw.silent_of_online {r : HeadRecord} (law : HeadLaw r) (online : r.state = .online) (misses : Nat)
    (c : HeadCounters) : HeadLaw { r with misses := misses, counters := c, state := .silent } := by
  simpa [HeadLaw, HeadState.inService, online] using law

/-- A head after a RESTART: a SILENT one is ONLINE, and a wait starts again. -/
theorem headLaw_restarted {r : HeadRecord} (law : HeadLaw r) (now : Nat) : HeadLaw (r.restarted now) := by
  obtain ⟨state, cause⟩ := r
  cases state <;> simp_all [HeadLaw, HeadRecord.restarted, HeadState.inService]

namespace BlocksKeep

variable {P : State → Prop} (k : BlocksKeep P) {s : State}
include k

/-! ### The heads -/

theorem setHead (h : Fin 16) {r : HeadRecord} (hr : HeadLaw (s.head h) → HeadLaw r) (hs : P s) : P (s.setHead h r) :=
  k.heads s (s.heads.set h r) (fun j hj => by
    by_cases e : h = j
    · subst e; simpa using hr hj
    · simpa [Fin.val_ne_of_ne e] using hj) hs

theorem modHead (h : Fin 16) {f : HeadRecord → HeadRecord} (hf : ∀ r, HeadLaw r → HeadLaw (f r)) (hs : P s) :
    P (s.modHead h f) :=
  k.setHead h (hf _) hs

theorem replaceHead (h : Fin 16) {r : HeadRecord} (hr : HeadLaw (s.head h) → HeadLaw r) (hs : P s) :
    P (s.replaceHead h r) := by
  have set := k.setHead h hr hs
  unfold State.replaceHead
  dsimp only
  split
  · exact set
  · exact k.raise _ _ set

theorem holdHead (h : Fin 16) (hs : P s) : P (s.holdHead h) :=
  k.replaceHead h (fun _ => by simp [HeadLaw, HeadState.inService]) (k.control _ _ hs)

theorem expireRelease (h : Fin 16) (hr : (s.head h).state = .releasing) (hs : P s) : P (s.expireRelease h) := by
  refine k.replaceHead h (fun law => ?_) (k.control _ _ hs)
  obtain ⟨-, cause, -⟩ := law
  have : ¬(s.head h).cause.isSome := fun hc => by simpa [hr] using cause.mp hc
  simpa [HeadLaw, HeadState.inService] using this

theorem beginRelease (h : Fin 16) (hs : P s) : P (s.beginRelease h) := by
  have begun := k.replaceHead h (r := { s.head h with
    state := .releasing, cause := none, deadline := some (s.now + millis (s.head h).releaseDelay) })
    (fun _ => by simp [HeadLaw, HeadState.inService]) hs
  unfold State.beginRelease
  dsimp only
  split
  · exact k.expireRelease h (by simp [State.replaceHead_head_same]) begun
  · exact begun

theorem faultHead (h : Fin 16) (c : FaultCause) (hs : P s) : P (s.faultHead h c) :=
  k.raise _ _ (k.setHead h (fun _ => by simp [HeadLaw, HeadState.inService]) hs)

theorem modStrand (i : Fin 4) (f : Strand → Strand) (hs : P s) : P (s.modStrand i f) := k.rest s _ _ _ _ _ _ hs

theorem unseedHead (h : Fin 16) (hs : P s) : P (s.unseedHead h) := by
  unfold State.unseedHead
  split
  · exact k.modStrand _ _ hs
  · exact hs

theorem validAnnounce (h : Fin 16) (a : Announced) (hs : P s) : P (s.validAnnounce h a) := by
  have replaced := k.replaceHead h (r := s.announcedRecord h a)
    (fun _ => by simp [HeadLaw, State.announcedRecord, HeadState.inService]) hs
  unfold State.validAnnounce
  dsimp only
  split
  · refine k.unseedHead h ?_
    unfold State.noticeReannounced
    repeat' split
    · exact replaced
    · exact k.raise _ _ replaced
    · exact replaced
  · exact replaced

theorem announce (h : Fin 16) (p : List Byte) (hs : P s) : P (s.announce h p) := by
  unfold State.announce
  split
  · exact k.modHead h (fun _ law => law) hs
  · split
    · exact k.validAnnounce h _ hs
    · exact k.faultHead h _ hs

theorem reportCheckError (h : Fin 16) (hs : P s) : P (s.reportCheckError h) := by
  have counted := k.modHead h (f := fun r => { r with counters.checkErrors := inc r.counters.checkErrors })
    (fun _ law => law) hs
  unfold State.reportCheckError
  dsimp only
  split
  · split
    · exact k.faultHead h _ (k.setHead h (fun law => law) counted)
    · exact k.setHead h (fun law => law) counted
  · exact counted

theorem reportAccepted (h : Fin 16) (hs : P s) : P (s.reportAccepted h) :=
  k.replaceHead h (fun law => law.online_of_silent _ _ _) hs

theorem reportDiscarded (h : Fin 16) (hs : P s) : P (s.reportDiscarded h) := k.modHead h (fun _ law => law) hs

theorem reportMiss (h : Fin 16) (hs : P s) : P (s.reportMiss h) := by
  have counted := k.modHead h (f := fun r => { r with counters.misses := inc r.counters.misses }) (fun _ law => law) hs
  unfold State.reportMiss
  dsimp only
  split
  case h_1 online =>
    split
    · exact k.replaceHead h (fun law => law.silent_of_online online _ _) counted
    · exact k.setHead h (fun law => law) counted
  case h_2 => exact k.setHead h (fun law => law) counted
  all_goals exact counted

theorem refreshHeads (i : Fin 4) (hs : P s) : P (s.refreshHeads i) :=
  List.foldlRecOn allHeads (State.refreshHead i) hs fun t ht h _ => by
    unfold State.refreshHead
    dsimp only
    split
    · exact k.replaceHead h (fun law => law.online_of_silent _ _ _) ht
    · exact ht

theorem reevaluateStrand (i : Fin 4) (hs : P s) : P (s.reevaluateStrand i) :=
  k.heads s _ (fun h law => by
    simp only [Fin.getElem_fin, mapTable_getElem]
    split <;> exact law) hs

theorem restartHeads (hs : P s) : P s.restartHeads := by
  have start := k.heads s (mapTable (HeadRecord.restarted s.now) s.heads)
    (fun h law => by simpa using headLaw_restarted law s.now) hs
  exact List.foldlRecOn allHeads State.requeueRelease start fun t ht h _ => by
    unfold State.requeueRelease
    split
    · exact k.control _ _ ht
    · exact ht

/-! ### The strands -/

theorem changeStrand (i : Fin 4) (n : StrandState) (hs : P s) : P (s.changeStrand i n) := by
  unfold State.changeStrand
  dsimp only
  split
  · exact hs
  · exact k.raise _ _ (k.modStrand _ _ hs)

theorem issueAdvice (i : Fin 4) (a : AdviceKind) (c : ConditionClass) (lo hi : Nat) (hs : P s) :
    P (s.issueAdvice i a c lo hi) := by
  unfold State.issueAdvice
  dsimp only
  split
  · next room => exact k.record _ _ (by simpa [State.lineHasRoom] using room) (k.modStrand _ _ hs)
  · exact k.modStrand _ _ (k.modStrand _ _ hs)

theorem adviseRun (i : Fin 4) (r : Run) (hs : P s) : P (s.adviseRun i r) := by
  unfold State.adviseRun
  split
  · exact k.issueAdvice _ _ _ _ _ hs
  · exact hs

theorem closeOpenRun (i : Fin 4) (stop : Nat) (hs : P s) : P (s.closeOpenRun i stop) := by
  unfold State.closeOpenRun
  split
  · exact hs
  · exact k.adviseRun _ _ (k.modStrand _ _ hs)

theorem turnOrMerge (i : Fin 4) (r : Run) (e : Entry) (hs : P s) : P (s.turnOrMerge i r e) := by
  unfold State.turnOrMerge
  split
  · unfold State.mergeSlice
    dsimp only
    split
    · exact k.modStrand _ _ hs
    · exact k.raise _ _ (k.modStrand _ _ hs)
  · exact k.modStrand _ _ (k.closeOpenRun _ _ hs)

theorem enterSlice (i : Fin 4) (e : Entry) (hs : P s) : P (s.enterSlice i e) := by
  unfold State.enterSlice
  dsimp only
  split
  · exact k.modStrand _ _ hs
  · split
    · exact k.modStrand _ _ hs
    · split
      · exact k.turnOrMerge _ _ _ hs
      · split
        · exact k.modStrand _ _ hs
        · exact k.turnOrMerge _ _ _ hs

theorem enterSkipped (i : Fin 4) (first n : Nat) (hs : P s) : P (s.enterSkipped i first n) := by
  induction n generalizing s first with
  | zero => exact hs
  | succ n ih => exact ih _ (k.enterSlice _ _ hs)

theorem handOver (i : Fin 4) (e : Entry) (hs : P s) : P (s.handOver i e) :=
  k.enterSlice _ _ (k.enterSkipped _ _ _ (k.modStrand _ _ hs))

theorem applyBack (i : Fin 4) (m : Mark) (hs : P s) : P (s.applyBack i m) := by
  have behind : P (if m.start < (s.strand i).retired then
      s.modStrand i fun st => { st with mapCounters.markBehind := inc st.mapCounters.markBehind } else s) := by
    split
    · exact k.modStrand _ _ hs
    · exact hs
  unfold State.applyBack
  dsimp only
  split
  · exact behind
  · split
    · have raised := k.modStrand i (fun st =>
        { st with
          runs := st.runs.map fun r => if r.raisedBy m.kind ((s.strand i).markRegion m) st.front then r.raiseWhole m.kind else r,
          settle := st.settleAfterMark m.kind ((s.strand i).markRegion m),
          mapCounters.mapMerged := inc st.mapCounters.mapMerged }) behind
      unfold State.raiseRuns
      dsimp only
      split
      · exact k.raise _ _ raised
      · exact raised
    · exact List.foldlRecOn _ _ (k.modStrand _ _ behind) fun _ ht r _ => k.adviseRun _ _ ht

theorem giveMark (i : Fin 4) (m : Mark) (hs : P s) : P (s.giveMark i m) := by
  have advised := k.issueAdvice i m.kind.advice m.kind.cls m.start m.stop
    (k.modStrand i (fun st => { st with mapCounters.marksMade := inc st.mapCounters.marksMade }) hs)
  unfold State.giveMark
  dsimp only
  split <;> split
  · exact k.applyBack _ _ advised
  · exact advised
  · exact k.modStrand _ _ (k.applyBack _ _ advised)
  · exact k.modStrand _ _ advised

theorem offerPiece (i : Fin 4) (hs : P s) : P (s.offerPiece i) := by
  unfold State.offerPiece
  split
  · split
    · next room => exact k.record _ _ (by simpa [State.lineHasRoom] using room) (k.modStrand _ _ hs)
    · exact hs
  · exact hs
  · exact hs

theorem addTail (i : Fin 4) (x : Nat) (hs : P s) : P (s.addTail i x) := by
  unfold State.addTail
  dsimp only
  split
  · exact k.modStrand _ _ hs
  · split
    · exact k.raise _ _ (k.modStrand _ _ hs)
    · split
      · exact k.raise _ _ (k.modStrand _ _ hs)
      · exact hs

theorem idleCheck (i : Fin 4) (hs : P s) : P (s.idleCheck i) := by
  unfold State.idleCheck
  dsimp only
  split
  · exact k.changeStrand _ _ (k.modStrand _ _ hs)
  · exact hs

theorem closeCut (i : Fin 4) (c : Cut) (hs : P s) : P (s.closeCut i c) := by
  refine k.idleCheck _ (k.modStrand _ _ (k.offerPiece _ (k.modStrand _ _ ?_)))
  split
  · exact k.addTail _ _ hs
  · exact hs

theorem closeCheck (i : Fin 4) (hs : P s) : P (s.closeCheck i) := by
  suffices ∀ n, P (s.closeCuts i n) from this _
  intro n
  induction n generalizing s with
  | zero => exact hs
  | succ n ih =>
    unfold State.closeCuts
    split
    · exact hs
    · split
      · exact ih (k.closeCut _ _ hs)
      · exact hs

theorem cutNotice (n x : Nat) (hs : P s) : P (s.cutNotice n x) := by
  unfold State.cutNotice
  split
  · exact k.rest s _ _ _ _ _ _ hs
  · dsimp only
    split
    · exact k.modStrand _ _ hs
    · split
      · exact k.modStrand _ _ hs
      · split
        · exact k.raise _ _ (k.modStrand _ _ hs)
        · exact k.closeCheck _ (k.modStrand _ _ hs)

theorem takeSwitch (i : Fin 4) (p : PendingSwitch) (slice : Option Nat) (hs : P s) : P (s.takeSwitch i p slice) :=
  k.raise _ _ (k.reevaluateStrand _ (k.modStrand _ _ hs))

theorem leaveDraining (i : Fin 4) (hs : P s) : P (s.leaveDraining i) := by
  have closed : P (s.closeAtEnd i) := by
    unfold State.closeAtEnd
    split
    · exact hs
    · exact k.modStrand _ _ (k.closeOpenRun _ _ hs)
  refine k.idleCheck _ (k.closeCheck _ (k.changeStrand _ _ ?_))
  unfold State.switchAtClose
  split
  · exact k.takeSwitch _ _ _ closed
  · exact closed

theorem drainCheck (i : Fin 4) (hs : P s) : P (s.drainCheck i) := by
  unfold State.drainCheck
  split
  · exact k.leaveDraining _ hs
  · exact hs

theorem endRun (i : Fin 4) (hs : P s) : P (s.endRun i) := by
  unfold State.endRun
  split
  · exact k.drainCheck _ (k.changeStrand _ _ hs)
  · exact hs

/-! ### Sets and evaluations -/

theorem releaseRule (i : Fin 4) (hs : P s) : P (s.releaseRule i) := by
  unfold State.releaseRule
  split
  · split
    · refine k.modStrand _ _ ?_
      unfold State.decideSwitch
      repeat' split
      · exact k.takeSwitch _ _ _ (k.modStrand _ _ hs)
      all_goals exact k.modStrand _ _ hs
    · exact hs
  · exact hs

theorem reportMisses (i : Fin 4) (x : SliceSet) (hs : P s) : P (s.reportMisses i x) :=
  List.foldlRecOn allSlots (State.reportSlotMiss i x) hs fun t ht h _ => by
    unfold State.reportSlotMiss
    repeat' split
    · exact k.reportMiss _ ht
    · exact ht
    · exact ht

theorem timeOutSet (i : Fin 4) (x : SliceSet) (hs : P s) : P (s.timeOutSet i x) :=
  k.releaseRule _ (k.reportMisses _ _ (k.modStrand _ _ hs))

theorem openSet (i : Fin 4) (n : Nat) (expected : BitVec 6) (hs : P s) : P (s.openSet i n expected) := by
  have forced : P (s.forceOldest i) := by
    unfold State.forceOldest
    repeat' split
    · exact hs
    · exact k.reportMisses _ _ (k.modStrand _ _ hs)
    · exact hs
  unfold State.openSet
  dsimp only
  split
  · exact k.modStrand _ _ hs
  · split
    · exact k.modStrand _ _ (k.releaseRule _ forced)
    · exact k.modStrand _ _ (k.releaseRule _ forced)

theorem scan (h : Fin 16) (p : List Byte) (hs : P s) : P (s.scan h p) := by
  have discard (c : ScanCounters) : P (s.discardScan h c) := k.reportDiscarded h (k.rest s _ _ _ _ _ _ hs)
  unfold State.scan
  split
  case h_6 i t _ =>
    have told := k.reportAccepted h (k.modStrand i (fun st => st.modSet (scanSlice p) fun x =>
      { x with scans := x.scans.set t (s.fillBuffer h t p) }) hs)
    unfold State.acceptScan State.completeSet
    dsimp only
    split
    · exact told
    · split
      · exact k.releaseRule _ (k.modStrand _ _ told)
      · exact told
  all_goals exact discard _

theorem completeEvaluation (i : Fin 4) (ev : Evaluation) (hs : P s) : P (s.completeEvaluation i ev) := by
  unfold State.completeEvaluation State.completionSequence
  exact k.drainCheck i (k.releaseRule i (k.closeCheck i (k.modStrand i _ (k.handOver i _ (k.modStrand i _ hs)))))

/-! ### Travel and the press -/

theorem crossing (i : Fin 4) (hs : P s) : P (s.crossing i) := by
  unfold State.crossing
  dsimp only
  split
  · split
    · exact k.openSet _ _ _ (k.trigger _ _ (k.modStrand _ _ (k.modStrand _ _ hs)))
    · exact k.modStrand _ _ (k.modStrand _ _ hs)
  · exact k.modStrand _ _ hs

theorem informStrand (i : Fin 4) (hs : P s) : P (s.informStrand i) := by
  unfold State.informStrand
  split
  case h_1 | h_2 => exact k.crossing _ (k.changeStrand _ _ hs)
  case h_3 => exact k.crossing _ hs
  all_goals exact hs

theorem travel (t : Travel) (hs : P s) : P { s with travel := t } := k.rest s _ _ _ _ _ _ hs

theorem increase (hs : P s) : P s.increase := by
  have informed := List.foldlRecOn allStrands State.informStrand
    (k.travel { s.travel with moving := true, lastAdvance := some s.now } hs) fun _ ht i _ => k.informStrand i ht
  unfold State.increase State.limitReached
  split
  · exact List.foldlRecOn allStrands State.endRun (k.raise _ _ (k.travel _ informed)) fun _ ht i _ => k.endRun i ht
  · exact informed

theorem advance (d : Nat) (hs : P s) : P (s.advance d) := by
  have moved := k.travel (s.travel.advance d) hs
  unfold State.advance
  dsimp only
  split
  · exact k.increase moved
  · exact moved

theorem judgeDelta (p : Puller) (c : Word32) (d : Int) (hs : P s) : P (s.judgeDelta p c d) := by
  unfold State.judgeDelta
  split
  · exact k.raise _ _ (k.travel _ hs)
  · split
    · exact k.travel _ hs
    · split
      · exact k.advance _ hs
      · exact hs

theorem travelRecord (p : Puller) (c : Word32) (hs : P s) : P (s.travelRecord p c) := by
  have counted := k.travel ((s.travel.countRecord p).setRef p c) hs
  unfold State.travelRecord
  dsimp only
  split
  · exact counted
  · split
    · exact k.judgeDelta _ _ _ counted
    · exact counted

theorem handover (n : Nat) (hs : P s) : P (s.handover n) := by
  unfold State.handover
  dsimp only
  split
  · split
    · exact hs
    · exact k.travel _ hs
  · split
    · exact hs
    · exact k.travel _ hs
  · exact k.travel _ hs

theorem stall (hs : P s) : P s.stall :=
  List.foldlRecOn allStrands State.stallStrand (k.travel { s.travel with moving := false } hs) fun _ ht i _ => by
    unfold State.stallStrand
    split
    · exact k.changeStrand _ _ ht
    · exact ht

theorem billetChange (i : Fin 4) (hs : P s) : P (s.billetChange i) := by
  unfold State.billetChange
  refine k.modStrand _ _ ?_
  split
  · exact k.giveMark _ _ (k.modStrand _ _ hs)
  · exact k.modStrand _ _ hs

theorem takePress (n : PressKind) (i : Fin 4) (hs : P s) : P (State.takePress n s i) := by
  unfold State.takePress
  split
  · cases n with
    | pressStop => exact k.giveMark _ _ (k.modStrand _ _ hs)
    | billetChange => exact k.billetChange _ hs
    | pressRun => exact k.modStrand _ _ hs
    | runEnd => exact k.endRun _ (k.modStrand _ _ hs)
  · exact hs

theorem pressNotice (n : Nat) (hs : P s) : P (s.pressNotice n) := by
  unfold State.pressNotice
  split
  · exact List.foldlRecOn allStrands _ hs fun _ ht i _ => k.takePress _ i ht
  · exact k.rest s _ _ _ _ _ _ hs

/-! ### Expiries -/

theorem reach (d : Nat) (hs : P s) : P (s.reach d) := k.rest s _ _ _ _ _ _ hs

theorem releaseExpires (h : Fin 16) (hs : P s) : P (s.releaseExpires h) := by
  unfold State.releaseExpires
  split
  · next releasing _ => exact k.expireRelease h releasing (k.reach _ hs)
  · exact hs

theorem announceExpires (h : Fin 16) (hs : P s) : P (s.announceExpires h) := by
  unfold State.announceExpires
  split
  · exact k.faultHead h _ (k.reach _ hs)
  · exact hs

theorem stallExpires (hs : P s) : P s.stallExpires := by
  unfold State.stallExpires
  split
  · exact k.stall (k.reach _ hs)
  · exact hs

theorem scanWaitExpires (i : Fin 4) (hs : P s) : P (s.scanWaitExpires i) := by
  unfold State.scanWaitExpires
  split
  · exact k.timeOutSet _ _ (k.reach _ hs)
  · exact hs

theorem evaluationCompletes (i : Fin 4) (hs : P s) : P (s.evaluationCompletes i) := by
  unfold State.evaluationCompletes
  split
  · exact k.completeEvaluation _ _ hs
  · exact hs

/-- The events, where what they do to the ports and the request queue keeps the predicate as well. -/
theorem events (setParser : ∀ s port p, P s → P (s.setParser port p))
    (modCounters : ∀ s port f, P s → P (s.modCounters port f))
    (headPortRequest : ∀ s n, P s → P { s with headPort := { s.headPort with headPortRequest := n } })
    (offerForward : ∀ s port f, P s → P (s.offerForward port f)) (takeRequest : ∀ s f, P s → P (s.takeRequest f))
    (transmitted : ∀ s port, P s → P (s.transmitted port))
    (restarted : ∀ s, s.handler.restart = .due → P s → P s.restarted) : EventsKeep P where
  setParser := setParser
  modCounters := modCounters
  headPortRequest := headPortRequest
  offerForward := offerForward
  takeRequest := takeRequest
  reportCheckError _ h hs := k.reportCheckError h hs
  scan _ h p hs := k.scan h p hs
  announce _ h p hs := k.announce h p hs
  travelRecord _ p c hs := k.travelRecord p c hs
  pressNotice _ n hs := k.pressNotice n hs
  handover _ n hs := k.handover n hs
  cutNotice _ n x hs := k.cutNotice n x hs
  transmitted := transmitted
  releaseExpires _ h hs := k.releaseExpires h hs
  announceExpires _ h hs := k.announceExpires h hs
  stallExpires _ hs := k.stallExpires hs
  scanWaitExpires _ i hs := k.scanWaitExpires i hs
  evaluationCompletes _ i hs := k.evaluationCompletes i hs
  restarted := restarted

/-! ### Requests -/

theorem requestRelease (h : Fin 16) (hs : P s) : P (s.requestRelease h).1 := by
  unfold State.requestRelease
  split
  case h_6 | h_7 => exact hs
  case h_4 | h_5 => exact k.beginRelease h (k.holdHead h hs)
  all_goals exact k.beginRelease h hs

theorem acceptSwitch (i : Fin 4) (hs : P s) : P (s.acceptSwitch i) := by
  unfold State.acceptSwitch
  split
  case h_1 | h_2 => exact k.modStrand _ _ hs
  all_goals exact k.reevaluateStrand _ (k.modStrand _ _ hs)

theorem configure (i : Fin 4) (slots : Vector (Option (Fin 16)) 6) (p : StrandParams) (hs : P s) :
    P (s.configure i slots p) :=
  List.foldlRecOn allHeads (State.assignHead i (s.strand i).slots slots) (k.modStrand _ _ hs) fun t ht h _ => by
    unfold State.assignHead
    dsimp only
    split
    · exact ht
    · exact k.modHead h (fun _ law => law) (k.modHead h (fun _ law => law) ht)

/-- The requests, where what they do to the ports and the Request Handler keeps the predicate as well. -/
theorem requests (clear : ∀ s, P s → P s.clearCounters)
    (restart : ∀ s, s.handler.restart = .idle → P s → P { s with handler := { s.handler with restart := .carried } })
    (route : ∀ s r, P s → P { s with routes := r })
    (target : ∀ s n, P s → P { s with handler := { s.handler with noticeTarget := n } })
    (countRequest : ∀ s st, P s → P (s.countRequest st)) (offerReply : ∀ s r, P s → P (s.offerReply r)) :
    RequestsKeep P where
  op s c u h hs := by
    cases h with
    | nothing => exact hs
    | hold _ h => exact k.holdHead h hs
    | release _ h => exact k.requestRelease h hs
    | start _ i => exact k.changeStrand _ _ (k.refreshHeads _ (k.modStrand _ _ hs))
    | stop _ i => exact k.endRun i hs
    | reset _ i => exact k.changeStrand _ _ (k.modStrand _ _ hs)
    | clear => exact clear s hs
    | restart idle => exact restart s idle hs
    | switch _ _ i => exact k.acceptSwitch i hs
    | config _ _ _ i slots => exact k.configure i slots _ hs
    | travel => exact k.travel _ hs
    | calibrate _ _ _ _ h => exact k.modHead h (fun _ law => law) hs
    | route => exact route s _ hs
    | target n => exact target s n hs
    | refuseWrite | geometry | tolerance | header | copy | cancel => exact k.modStrand _ _ hs
  countRequest := countRequest
  offerReply := offerReply

end BlocksKeep
end Sys2Proof.Machine
end

section
/-! Proofs: the assignment law (R21, R51) and the consistency of the head records (R20) are kept by every step. -/

namespace Sys2Proof.Machine

/-! ### The head records -/

/-- Every head record is consistent. -/
abbrev HeadsLaw (s : State) : Prop := ∀ h, HeadLaw (s.head h)

theorem headsLaw_of_head {s t : State} (same : ∀ h, t.head h = s.head h) (hs : HeadsLaw s) : HeadsLaw t :=
  fun h => (same h).symm ▸ hs h

theorem headsLaw_blocks : BlocksKeep HeadsLaw where
  rest _ _ _ _ _ _ _ hs := hs
  heads _ _ hv hs h := hv h (hs h)
  raise _ _ hs := headsLaw_of_head (by simp) hs
  record _ _ _ hs := headsLaw_of_head (by simp) hs
  trigger _ _ hs := hs
  control _ _ hs := hs

theorem State.restartHeads_head (s : State) (h : Fin 16) : s.restartHeads.head h = (s.head h).restarted s.now := by
  have start : ({ s with heads := mapTable (HeadRecord.restarted s.now) s.heads } : State).head h =
      (s.head h).restarted s.now := by simp
  exact List.foldlRecOn (motive := fun t : State => t.head h = (s.head h).restarted s.now) allHeads State.requeueRelease
    start fun t ht k _ => by simp [ht]

theorem State.restarted_head (s : State) (h : Fin 16) : s.restarted.head h = (s.head h).restarted s.now :=
  State.restartHeads_head { s with
    headPort := s.headPort.restarted, linePort := s.linePort.restarted, travel := s.travel.restarted,
    strands := mapTable Strand.restarted s.strands, handler := s.handler.restarted } h

theorem headsLaw_of_heads {s t : State} (same : t.heads = s.heads) (hs : HeadsLaw s) : HeadsLaw t :=
  headsLaw_of_head (State.head_of_heads same) hs

theorem headsLaw_events : EventsKeep HeadsLaw :=
  headsLaw_blocks.events (fun _ _ _ hs => headsLaw_of_head (by simp) hs) (fun _ _ _ hs => headsLaw_of_head (by simp) hs)
    (fun _ _ hs => hs) (fun _ _ _ hs => headsLaw_of_head (by simp) hs)
    (fun s f hs => headsLaw_of_heads (s.takeRequest_sameBlocks f).2.2.2.2.1 hs)
    (fun s port hs => headsLaw_of_heads (s.transmitted_sameBlocks port).2.2.2.2.1 hs)
    (fun s _ hs h => s.restarted_head h ▸ headLaw_restarted (hs h) _)

theorem headsLaw_requests : RequestsKeep HeadsLaw :=
  headsLaw_blocks.requests
    (fun s hs h => by simpa [HeadLaw] using hs h)
    (fun _ _ hs => hs) (fun _ _ hs => hs) (fun _ _ hs => hs) (fun _ _ hs => headsLaw_of_head (by simp) hs)
    (fun _ _ hs => headsLaw_of_head (by simp) hs)

/-! ### The assignments -/

theorem assignmentLaw_of_same {s t : State} (slots : ∀ i, (t.strand i).slots = (s.strand i).slots)
    (assignment : ∀ h, (t.head h).assignment = (s.head h).assignment) (hs : AssignmentLaw s) : AssignmentLaw t := by
  intro h i k
  rw [slots, assignment]
  exact hs h i k

theorem SameTables.assignmentLaw {s t : State} (same : SameTables s t) (hs : AssignmentLaw s) : AssignmentLaw t :=
  assignmentLaw_of_same same.slots (fun h => congrArg Mount.assignment (same.mount h)) hs

theorem mem_allSlots (t : Fin 6) : t ∈ allSlots := by revert t; decide

theorem mem_allStrands (i : Fin 4) : i ∈ allStrands := by revert i; decide

theorem slotNaming_eq_none {slots : Vector (Option (Fin 16)) 6} {h : Fin 16} :
    slotNaming slots h = none ↔ ∀ t : Fin 6, slots[t] ≠ some h := by
  simp [slotNaming, List.find?_eq_none, mem_allSlots]

theorem slotNaming_eq_some {slots : Vector (Option (Fin 16)) 6} {h : Fin 16} {t : Fin 6} (hn : slotNaming slots h = some t) :
    slots[t] = some h := by
  simpa using List.find?_some hn

/-- A slot that is not taken holds a head that no other slot of the request and no other strand names (R51). -/
theorem slotTaken_eq_false {s : State} {i : Fin 4} {slots : Vector (Option (Fin 16)) 6} {t : Fin 6} {h : Fin 16}
    (ht : slots[t] = some h) (free : s.slotTaken i slots t = false) :
    (∀ u, slots[u] = some h → u = t) ∧ ∀ j, j ≠ i → ∀ u : Fin 6, (s.strand j).slots[u] ≠ some h := by
  simp only [State.slotTaken, ht, Bool.or_eq_false_iff, List.any_eq_false, State.namedElsewhere, Bool.and_eq_true,
    decide_eq_true_eq, not_and, Option.not_isSome_iff_eq_none] at free
  obtain ⟨slot, strand⟩ := free
  refine ⟨fun u hu => ?_, fun j hj => slotNaming_eq_none.mp (strand j (mem_allStrands j) hj)⟩
  by_contra hne
  exact slot u (mem_allSlots u) hne hu

theorem State.assignedRecord_assignment (s : State) (i : Fin 4) (old new : Vector (Option (Fin 16)) 6) (h : Fin 16)
    (r : HeadRecord) : (s.assignedRecord i old new h r).assignment = newAssignment i old new h r.assignment := by
  simp only [State.assignedRecord]
  split
  · next same => exact same.symm
  · rfl

/-- A configuration that names no head twice keeps the assignment law (R21, R51). -/
theorem configure_assignmentLaw {s : State} (hs : AssignmentLaw s) (i : Fin 4) (slots : Vector (Option (Fin 16)) 6)
    (p : StrandParams) (free : ∀ t, s.slotTaken i slots t = false) : AssignmentLaw (s.configure i slots p) := by
  intro h j t
  rw [s.configure_strand, s.configure_head, State.assignedRecord_assignment, newAssignment]
  have strand : ((s.modStrand i fun st => { st with slots := slots, params := p }).strand j).slots =
      if j = i then slots else (s.strand j).slots := by
    rw [State.strand_modStrand]
    split <;> rfl
  rw [strand]
  cases hk : slotNaming slots h with
  | some k =>
    obtain ⟨unique, elsewhere⟩ := slotTaken_eq_false (slotNaming_eq_some hk) (free k)
    by_cases hj : j = i
    · subst hj
      simp only [if_true, Option.some.injEq, Prod.mk.injEq, true_and]
      exact ⟨fun ht => (unique t ht).symm, fun e => e ▸ slotNaming_eq_some hk⟩
    · simp only [hj, if_false, Option.some.injEq, Prod.mk.injEq, elsewhere j hj t, false_iff, not_and]
      exact fun e => absurd e.symm hj
  | none =>
    have new := slotNaming_eq_none.mp hk
    cases hold : slotNaming (s.strand i).slots h with
    | some u =>
      have assigned := (hs h i u).mp (slotNaming_eq_some hold)
      by_cases hj : j = i
      · simpa [hj] using new t
      · have elsewhere : (s.strand j).slots[t] ≠ some h := fun ht => by
          have both := assigned.symm.trans ((hs h j t).mp ht)
          simp only [Option.some.injEq, Prod.mk.injEq] at both
          exact hj both.1.symm
        simpa [hj] using elsewhere
    | none =>
      have old := slotNaming_eq_none.mp hold
      by_cases hj : j = i
      · subst hj
        have : (s.head h).assignment ≠ some (j, t) := fun e => old t ((hs h j t).mpr e)
        simpa [this] using new t
      · simpa [hj] using hs h j t

theorem RequestOp.assignmentLaw {s u : State} {c : Instr} (h : RequestOp s c u) (hs : AssignmentLaw s) : AssignmentLaw u := by
  have same {u : State} (h : SameTables s u) : AssignmentLaw u := h.assignmentLaw hs
  have written (i id f) : AssignmentLaw (s.modStrand i fun st => st.writeBank id f) :=
    assignmentLaw_of_same (fun j => (s.writeBank_config i id f j).1) (fun _ => rfl) hs
  cases h with
  | nothing => exact hs
  | hold => exact same (by constructor <;> simp)
  | release _ h => exact same (s.requestRelease_sameTables h)
  | start _ i => exact same (s.startStrand_sameTables i)
  | stop => exact same (by constructor <;> simp)
  | reset => exact same (by constructor <;> simp [State.resetStrand])
  | clear => exact same (by constructor <;> simp)
  | refuseWrite => exact same (by constructor <;> simp)
  | geometry | tolerance | header | copy => exact written _ _ _
  | switch _ _ i => exact same (s.acceptSwitch_sameTables i)
  | cancel => exact same (by constructor <;> simp)
  | config _ _ _ i slots _ free => exact configure_assignmentLaw hs i slots _ free
  | calibrate _ _ _ _ h =>
    refine assignmentLaw_of_same (s := s) (fun _ => rfl) (fun k => ?_) hs
    by_cases hk : k = h
    · subst hk; simp
    · simp [hk]
  | restart | travel | route | target => exact hs

theorem assignmentLaw_requests : RequestsKeep AssignmentLaw where
  op _ _ _ h hs := h.assignmentLaw hs
  countRequest _ _ hs := assignmentLaw_of_same (by simp) (by simp) hs
  offerReply _ _ hs := assignmentLaw_of_same (by simp) (by simp) hs

theorem powerOn_head (straps : Fin 8) (h : Fin 16) : (State.powerOn straps).head h = {} := by
  simp [State.powerOn, State.head]

theorem assignmentLaw_powerOn (straps : Fin 8) : AssignmentLaw (State.powerOn straps) := by
  intro h i t
  rw [powerOn_strand, powerOn_head]
  simp

theorem headsLaw_powerOn (straps : Fin 8) : HeadsLaw (State.powerOn straps) := by
  intro h
  rw [powerOn_head]
  decide

/-- Settles O5: events keep the assignments, and a configuration names no head twice; each change of a head record keeps its
consistency. -/
theorem headTableLawsKept : Obligations.HeadTableLawsKept := fun _ _ h =>
  ⟨step_keeps (fun hr hp hs he => ((sameTables_events _).exec hr hp (.refl _) he).assignmentLaw hs) assignmentLaw_requests
      (fun _ _ hs => hs) (fun _ hs => hs) assignmentLaw_powerOn h,
    step_keeps headsLaw_events.exec headsLaw_requests (fun _ _ hs => hs) (fun _ hs => hs) headsLaw_powerOn h⟩

end Sys2Proof.Machine
end

section
/-! Proofs: the queues stay within their capacities (R13 to R15, R152), and no transmitter idles while a frame waits (R17, R18). -/

namespace Sys2Proof.Machine

/-- One entry more in a queue that is not full. -/
theorem length_snoc_le {α : Type} {l : List α} {x : α} {n : Nat} (room : l.length < n) : (l ++ [x]).length ≤ n := by
  simpa using room

/-! ### The Head Port -/

/-- A Head Port that sends idle symbols has no frame waiting. -/
abbrev HeadPort.Busy (p : HeadPort) : Prop := p.tx = none → p.own = [] ∧ p.forward = []

/-- A Head Port's queues are within their capacities. -/
abbrev HeadPort.Fits (p : HeadPort) : Prop := p.own.length ≤ 8 ∧ p.forward.length ≤ 16

theorem HeadPort.select_busy (p : HeadPort) : p.select.Busy := by
  unfold HeadPort.select
  split
  · nofun
  · nofun
  · next own forward => exact fun _ => ⟨own, forward⟩

theorem HeadPort.kick_busy (p : HeadPort) : p.kick.Busy := by
  unfold HeadPort.kick
  split
  · exact p.select_busy
  · next sending => exact fun idle => absurd (by simp [idle]) sending

/-- A selection takes frames out of the queues, and puts none in. -/
theorem HeadPort.select_length_le (p : HeadPort) :
    p.select.own.length ≤ p.own.length ∧ p.select.forward.length ≤ p.forward.length := by
  unfold HeadPort.select
  split
  · next own => simp [own]
  · next own forward => simp [own, forward]
  · next own forward => simp [own, forward]

theorem HeadPort.kick_length_le (p : HeadPort) :
    p.kick.own.length ≤ p.own.length ∧ p.kick.forward.length ≤ p.forward.length := by
  unfold HeadPort.kick
  split
  · exact p.select_length_le
  · exact ⟨le_rfl, le_rfl⟩

theorem HeadPort.kick_fits {p : HeadPort} (h : p.Fits) : p.kick.Fits :=
  ⟨p.kick_length_le.1.trans h.1, p.kick_length_le.2.trans h.2⟩

theorem HeadPort.join_fits {p : HeadPort} (h : p.Fits) (room : p.own.length < 8) (f : HeadFrame) : (p.join f).Fits :=
  HeadPort.kick_fits ⟨by simpa using room, h.2⟩

/-- The queue without its last TRIGGER has one frame less. -/
theorem length_dropLastTrigger {q : List HeadFrame} (h : q.any HeadFrame.isTrigger = true) :
    (dropLastTrigger q).length = q.length - 1 := by
  obtain ⟨f, hf, trigger⟩ := List.any_eq_true.mp h
  simp [dropLastTrigger, List.length_eraseP_of_mem (List.mem_reverse.mpr hf) trigger]

theorem HeadPort.enqueueTrigger_fits {p : HeadPort} (h : p.Fits) (f : HeadFrame) : (p.enqueueTrigger f).Fits := by
  unfold HeadPort.enqueueTrigger
  split
  · next room => exact p.join_fits h room f
  · exact h

theorem HeadPort.enqueueTrigger_busy {p : HeadPort} (h : p.Busy) (f : HeadFrame) : (p.enqueueTrigger f).Busy := by
  unfold HeadPort.enqueueTrigger
  split
  · exact HeadPort.kick_busy _
  · exact h

theorem HeadPort.enqueueControl_fits {p : HeadPort} (h : p.Fits) (f : HeadFrame) : (p.enqueueControl f).Fits := by
  unfold HeadPort.enqueueControl
  split
  · next room => exact p.join_fits h room f
  · split
    · next full trigger =>
      have shorter := length_dropLastTrigger trigger
      have full : ¬p.own.length < 8 := full
      have fits : p.own.length ≤ 8 := h.1
      have room : (dropLastTrigger p.own).length < 8 := by omega
      exact HeadPort.join_fits (p := { p with triggerDrop := inc p.triggerDrop, own := dropLastTrigger p.own })
        ⟨room.le, h.2⟩ room f
    · exact h

theorem HeadPort.enqueueControl_busy {p : HeadPort} (h : p.Busy) (f : HeadFrame) : (p.enqueueControl f).Busy := by
  unfold HeadPort.enqueueControl
  split
  · exact HeadPort.kick_busy _
  · split
    · exact HeadPort.kick_busy _
    · exact h

/-! ### The Line Port -/

/-- A Line Port's queues are within their capacities. -/
abbrev LinePort.Fits (p : LinePort) : Prop := p.own.length ≤ 32 ∧ p.forward.length ≤ 16

/-- A Line Port that sends idle symbols has no frame waiting, but between the end of the RESTART reply and the RESTART's
effect. -/
abbrev State.LineBusy (s : State) : Prop :=
  s.linePort.tx = none → s.handler.restart ≠ .due → s.linePort.own = [] ∧ s.linePort.forward = []

theorem LinePort.select_busy (p : LinePort) : p.select.tx = none → p.select.own = [] ∧ p.select.forward = [] := by
  unfold LinePort.select
  split
  · next own forward => exact fun _ => ⟨own, forward⟩
  · nofun
  · nofun
  · split <;> nofun

theorem LinePort.select_length_le (p : LinePort) :
    p.select.own.length ≤ p.own.length ∧ p.select.forward.length ≤ p.forward.length := by
  unfold LinePort.select
  split
  · exact ⟨le_rfl, le_rfl⟩
  · next own forward => simp [own, forward]
  · next own forward => simp [own, forward]
  · next own forward => split <;> simp [own, forward]

theorem LinePort.select_fits {p : LinePort} (h : p.Fits) : p.select.Fits :=
  ⟨p.select_length_le.1.trans h.1, p.select_length_le.2.trans h.2⟩

theorem State.kickLine_fits {s : State} (h : s.linePort.Fits) : s.kickLine.linePort.Fits := by
  unfold State.kickLine
  split
  · exact LinePort.select_fits h
  · exact h

theorem State.kickLine_busy (s : State) : s.kickLine.LineBusy := by
  unfold State.kickLine
  split
  · exact fun idle _ => s.linePort.select_busy idle
  · next h => exact fun idle phase => absurd ⟨by simp [idle], phase⟩ h

theorem State.enqueueRecord_fits {s : State} (r : Record) (room : s.linePort.own.length < 32) (h : s.linePort.Fits) :
    (s.enqueueRecord r).linePort.Fits :=
  State.kickLine_fits ⟨by simpa using room, h.2⟩

theorem State.raise_fits {s : State} (n : Notice) (h : s.linePort.Fits) : (s.raise n).linePort.Fits := by
  unfold State.raise
  dsimp only
  split
  · next room =>
    have room : s.linePort.own.length + 3 < 32 := room
    exact State.enqueueRecord_fits _ (show s.linePort.own.length < 32 by omega) h
  · exact h

theorem State.raise_busy {s : State} (n : Notice) (h : s.LineBusy) : (s.raise n).LineBusy := by
  unfold State.raise
  dsimp only
  split
  · exact State.kickLine_busy _
  · exact h

/-! ### The queues' capacities -/

theorem queuesFit_iff (s : State) :
    QueuesFit s ↔ s.headPort.Fits ∧ s.linePort.Fits ∧ s.handler.requests.length ≤ 4 := by
  simp only [QueuesFit, and_assoc]

theorem queuesFit_blocks : BlocksKeep QueuesFit where
  rest _ _ _ _ _ _ _ hs := hs
  heads _ _ _ hs := hs
  raise s n hs := by
    obtain ⟨head, line, requests⟩ := (queuesFit_iff s).mp hs
    exact (queuesFit_iff _).mpr ⟨by simpa using head, State.raise_fits n line, by simpa using requests⟩
  record s r room hs := by
    obtain ⟨head, line, requests⟩ := (queuesFit_iff s).mp hs
    exact (queuesFit_iff _).mpr ⟨by simpa using head, State.enqueueRecord_fits r room line, by simpa using requests⟩
  trigger s f hs := by
    obtain ⟨head, line, requests⟩ := (queuesFit_iff s).mp hs
    exact (queuesFit_iff _).mpr ⟨HeadPort.enqueueTrigger_fits head f, line, requests⟩
  control s f hs := by
    obtain ⟨head, line, requests⟩ := (queuesFit_iff s).mp hs
    exact (queuesFit_iff _).mpr ⟨HeadPort.enqueueControl_fits head f, line, requests⟩

theorem State.offerForward_queuesFit {s : State} (port : Port) (f : Frame) (hs : QueuesFit s) :
    QueuesFit (s.offerForward port f) := by
  obtain ⟨head, line, requests⟩ := (queuesFit_iff s).mp hs
  cases port <;> simp only [State.offerForward]
  · split
    · next room => exact (queuesFit_iff _).mpr ⟨HeadPort.kick_fits ⟨head.1, length_snoc_le room⟩, line, requests⟩
    · exact hs
  · split
    · next room =>
      exact (queuesFit_iff _).mpr ⟨by simpa using head, State.kickLine_fits ⟨line.1, length_snoc_le room⟩, by simpa using requests⟩
    · exact hs

theorem State.takeRequest_queuesFit {s : State} (f : Frame) (hs : QueuesFit s) : QueuesFit (s.takeRequest f) := by
  obtain ⟨head, line, requests⟩ := (queuesFit_iff s).mp hs
  unfold State.takeRequest
  dsimp only
  split
  · next room => exact (queuesFit_iff _).mpr ⟨head, line, length_snoc_le room⟩
  · split
    · next room => exact queuesFit_blocks.record _ _ (by simpa [State.lineHasRoom] using room) hs
    · exact hs

theorem State.arbitrate_queuesFit {s : State} (room : s.linePort.own.length < 32) (hs : QueuesFit s) :
    QueuesFit s.arbitrate := by
  obtain ⟨head, line, requests⟩ := (queuesFit_iff s).mp hs
  have served : QueuesFit { s with handler := { s.handler with waiting := none, requests := s.handler.requests.drop 1 } } :=
    (queuesFit_iff _).mpr ⟨head, line, by simp; omega⟩
  unfold State.arbitrate
  repeat' split
  · exact queuesFit_blocks.record _ _ room served
  · exact queuesFit_blocks.record _ _ room hs
  · exact queuesFit_blocks.closeCheck _ (queuesFit_blocks.record _ _ room hs)
  · exact hs

theorem State.transmitted_queuesFit {s : State} (port : Port) (hs : QueuesFit s) : QueuesFit (s.transmitted port) := by
  obtain ⟨head, line, requests⟩ := (queuesFit_iff s).mp hs
  cases port <;> simp only [State.transmitted]
  · split
    · have shorter := ({ s.headPort with tx := none, counters.framesSent := inc s.headPort.counters.framesSent } :
        HeadPort).select_length_le
      exact (queuesFit_iff _).mpr ⟨⟨shorter.1.trans head.1, shorter.2.trans head.2⟩, line, requests⟩
    · exact hs
  · split
    · simp only [State.lineSent]
      split
      · exact hs
      · have selected : QueuesFit { s with linePort := s.linePort.sent.select } :=
          (queuesFit_iff _).mpr ⟨head, LinePort.select_fits line, requests⟩
        simp only [State.selectLine]
        split
        · next freed => exact State.arbitrate_queuesFit (lt_of_lt_of_le freed line.1) selected
        · exact selected
    · exact hs

theorem State.restarted_queuesFit {s : State} : QueuesFit s.restarted := by
  have emptied : QueuesFit { s with
      headPort := s.headPort.restarted, linePort := s.linePort.restarted, travel := s.travel.restarted,
      strands := mapTable Strand.restarted s.strands, handler := s.handler.restarted } := by
    simp [QueuesFit, HeadPort.restarted, LinePort.restarted, Handler.restarted]
  unfold State.restarted
  exact queuesFit_blocks.restartHeads emptied

theorem queuesFit_events : EventsKeep QueuesFit :=
  queuesFit_blocks.events (fun _ port _ hs => by cases port <;> exact hs) (fun _ port _ hs => by cases port <;> exact hs)
    (fun _ _ hs => hs) (fun _ _ _ hs => State.offerForward_queuesFit _ _ hs) (fun _ _ hs => State.takeRequest_queuesFit _ hs)
    (fun _ _ hs => State.transmitted_queuesFit _ hs) (fun _ _ _ => State.restarted_queuesFit)

theorem State.offerReply_queuesFit {s : State} (r : Reply) (hs : QueuesFit s) : QueuesFit (s.offerReply r) := by
  obtain ⟨head, line, requests⟩ := (queuesFit_iff s).mp hs
  unfold State.offerReply
  split
  · next room =>
    have served : QueuesFit { s with handler := { s.handler with requests := s.handler.requests.drop 1 } } :=
      (queuesFit_iff _).mpr ⟨head, line, by simp; omega⟩
    exact queuesFit_blocks.record _ _ (by simpa [State.lineHasRoom] using room) served
  · exact hs

theorem queuesFit_requests : RequestsKeep QueuesFit :=
  queuesFit_blocks.requests (fun _ hs => hs) (fun _ _ hs => hs) (fun _ _ hs => hs) (fun _ _ hs => hs) (fun _ _ hs => hs)
    (fun _ _ hs => State.offerReply_queuesFit _ hs)

/-! ### The transmitters -/

theorem transmittersBusy_iff (s : State) : TransmittersBusy s ↔ s.headPort.Busy ∧ s.LineBusy := Iff.rfl

/-- The transmitters are busy where the Line Port and the phase of a RESTART are the same, and the Head Port is busy. -/
theorem State.LineBusy.of_same {s t : State} (line : t.linePort = s.linePort) (phase : t.handler.restart = s.handler.restart)
    (h : s.LineBusy) : t.LineBusy := by
  simpa [State.LineBusy, line, phase] using h

theorem transmittersBusy_record {s : State} (r : Record) (head : s.headPort.Busy) : TransmittersBusy (s.enqueueRecord r) :=
  ⟨by simpa using head, State.kickLine_busy _⟩

theorem transmittersBusy_blocks : BlocksKeep TransmittersBusy where
  rest _ _ _ _ _ _ _ hs := hs
  heads _ _ _ hs := hs
  raise s n hs := ⟨by simpa using hs.1, State.raise_busy n hs.2⟩
  record _ r _ hs := transmittersBusy_record r hs.1
  trigger s f hs := ⟨HeadPort.enqueueTrigger_busy hs.1 f, hs.2⟩
  control s f hs := ⟨HeadPort.enqueueControl_busy hs.1 f, hs.2⟩

theorem State.offerForward_busy {s : State} (port : Port) (f : Frame) (hs : TransmittersBusy s) :
    TransmittersBusy (s.offerForward port f) := by
  cases port <;> simp only [State.offerForward]
  · split
    · exact ⟨HeadPort.kick_busy _, hs.2⟩
    · exact hs
  · split
    · exact ⟨by simpa using hs.1, State.kickLine_busy _⟩
    · exact hs

theorem State.takeRequest_busy {s : State} (f : Frame) (hs : TransmittersBusy s) : TransmittersBusy (s.takeRequest f) := by
  unfold State.takeRequest
  dsimp only
  split
  · exact hs
  · split
    · exact transmittersBusy_record _ hs.1
    · exact hs

theorem State.arbitrate_busy {s : State} (hs : TransmittersBusy s) : TransmittersBusy s.arbitrate := by
  unfold State.arbitrate
  repeat' split
  · exact transmittersBusy_record _ hs.1
  · exact transmittersBusy_record _ hs.1
  · exact transmittersBusy_blocks.closeCheck _ (transmittersBusy_record _ hs.1)
  · exact hs

theorem State.transmitted_busy {s : State} (port : Port) (hs : TransmittersBusy s) : TransmittersBusy (s.transmitted port) := by
  cases port <;> simp only [State.transmitted]
  · split
    · exact ⟨HeadPort.select_busy _, hs.2⟩
    · exact hs
  · split
    · simp only [State.lineSent]
      split
      · exact ⟨hs.1, fun _ phase => absurd rfl phase⟩
      · have selected : TransmittersBusy { s with linePort := s.linePort.sent.select } :=
          ⟨hs.1, fun idle _ => LinePort.select_busy _ idle⟩
        simp only [State.selectLine]
        split
        · exact State.arbitrate_busy selected
        · exact selected
    · exact hs

theorem State.restarted_busy {s : State} : TransmittersBusy s.restarted := by
  have emptied : TransmittersBusy { s with
      headPort := s.headPort.restarted, linePort := s.linePort.restarted, travel := s.travel.restarted,
      strands := mapTable Strand.restarted s.strands, handler := s.handler.restarted } := by
    simp [TransmittersBusy, HeadPort.restarted, LinePort.restarted]
  unfold State.restarted
  exact transmittersBusy_blocks.restartHeads emptied

theorem transmittersBusy_events : EventsKeep TransmittersBusy :=
  transmittersBusy_blocks.events (fun _ port _ hs => by cases port <;> exact hs)
    (fun _ port _ hs => by cases port <;> exact hs) (fun _ _ hs => hs) (fun _ _ _ hs => State.offerForward_busy _ _ hs)
    (fun _ _ hs => State.takeRequest_busy _ hs) (fun _ _ hs => State.transmitted_busy _ hs) (fun _ _ _ => State.restarted_busy)

theorem transmittersBusy_requests : RequestsKeep TransmittersBusy :=
  transmittersBusy_blocks.requests (fun _ hs => hs) (fun s idle hs => ⟨hs.1, fun free _ => hs.2 free (by simp [idle])⟩)
    (fun _ _ hs => hs) (fun _ _ hs => hs) (fun _ _ hs => hs) (fun s r hs => by
      unfold State.offerReply
      split
      · exact transmittersBusy_record _ hs.1
      · exact hs)

/-- Settles O6: each change of a port's queues keeps them within their capacities, and starts a transmitter that is idle. -/
theorem portLawsKept : Obligations.PortLawsKept := fun _ _ h =>
  ⟨step_keeps queuesFit_events.exec queuesFit_requests (fun _ _ hs => hs) (fun _ hs => hs)
      (fun _ => by simp [QueuesFit, State.powerOn]) h,
    step_keeps transmittersBusy_events.exec transmittersBusy_requests (fun _ _ hs => hs) (fun _ hs => hs)
      (fun _ => by simp [TransmittersBusy, State.powerOn]) h⟩

end Sys2Proof.Machine
end

section
/-! Proofs: a step's command, and the values and laws after a power-on reset. -/

namespace Sys2Proof.Machine

/-- Settles O1: both clauses read off the definition of a step. -/
theorem stepRunsCommand : Obligations.StepRunsCommand := by
  refine ⟨fun c rest s => rfl, fun s hp => ⟨fun c hc => ?_, fun hn => ?_⟩⟩
  · simp only [step, hp, hc]
  · simp only [step, hp, hn, State.tick]

/-! ### Power-on values -/

/-- A clear finds nothing to clear after a power-on reset. -/
theorem powerOn_clearCounters (straps : Fin 8) (p : List Instr) :
    ({ State.powerOn straps with pending := p } : State).clearCounters = { State.powerOn straps with pending := p } := rfl

/-- Every counter of every group is 0 after a power-on reset. -/
theorem powerOn_counterGroup (straps : Fin 8) (p : List Instr) (g : Nat) (l : List Nat)
    (h : ({ State.powerOn straps with pending := p } : State).counterGroup g = some l) : ∀ n ∈ l, n = 0 :=
  State.clearCounters_counterGroup _ ((congrArg (State.counterGroup · g) (powerOn_clearCounters straps p)).trans h)

/-- Settles O3: the reset state field by field. -/
theorem powerOnValues : Obligations.PowerOnValues := by
  intro straps s entry bank
  refine ⟨_, exec_powerOnReset straps s, rfl, rfl, rfl, fun n => ?_, rfl, rfl, fun h => powerOn_head straps h, rfl,
    fun i => powerOn_strand straps i, rfl, powerOn_counterGroup straps s.pending⟩
  simp [State.powerOn, powerOnRoutes, powerOnClass]

/-! ### Laws after a reset -/

theorem powerOn_buffersInUse (straps : Fin 8) : (State.powerOn straps).buffersInUse = 0 := rfl

/-- A strand with its power-on values obeys the laws of its lists, its sets and its cover. -/
theorem powerOn_strandLaws :
    ListsFit {} ∧ QuietLaw {} ∧ MapLaw {} ∧ SetLaw {} ∧ OrderLaw {} ∧ CoverLaw {} := by
  refine ⟨by decide, fun _ => ⟨rfl, rfl⟩, ⟨by decide, fun _ => .inl rfl⟩, ⟨.nil, nofun⟩, ⟨by decide, nofun, nofun⟩, ?_⟩
  exact ⟨rfl, by decide, fun _ => rfl, nofun, fun _ => ⟨rfl, rfl, rfl, rfl⟩, .nil, nofun⟩

/-- Settles O4: every table of the reset state has its power-on values, whatever the straps. -/
theorem lawsHoldAtReset : Obligations.LawsHoldAtReset := by
  intro straps
  refine ⟨assignmentLaw_powerOn straps, headsLaw_powerOn straps, travelLaw_powerOn straps, by simp [QueuesFit, State.powerOn],
    by simp [TransmittersBusy, State.powerOn], by simp [powerOn_buffersInUse], fun i => ?_⟩
  obtain ⟨params, banks⟩ := storedLaw_powerOn straps i
  rw [powerOn_strand] at params banks ⊢
  obtain ⟨lists, quiet, map, set, order, cover⟩ := powerOn_strandLaws
  exact ⟨lists, quiet, map, set, order, cover, params, banks⟩

end Sys2Proof.Machine
end

section
/-! Proofs: reception at a port (R1 to R5), and what becomes of a frame (R7 to R9). -/

namespace Sys2Proof.Machine

/-! ### Symbols that break a frame (R1, R3) -/

theorem inProgress_iff (p : Parser) : p.inProgress = true ↔ p ≠ .hunt := by
  cases p <;> simp [Parser.inProgress]

theorem parserAtBreak_eq (x : LineBreak) : parserAtBreak x = if x = .frameStart then .header [] else .hunt := by
  cases x <;> rfl

theorem State.receiveSymbol_of_progress {s : State} {port : Port} (h : s.parser port ≠ .hunt) (x : LineBreak) :
    s.receiveSymbol port x =
      (s.setParser port (parserAtBreak x)).modCounters port fun c => { c with truncated := inc c.truncated } :=
  if_pos ((inProgress_iff _).mpr h)

theorem State.receiveSymbol_of_hunt {s : State} {port : Port} (h : s.parser port = .hunt) (x : LineBreak) :
    s.receiveSymbol port x = s.setParser port (parserAtBreak x) :=
  if_neg fun progress => (inProgress_iff _).mp progress h

/-- Settles O11: a symbol counts a frame in progress as truncated, and leads to the parser state of R1. -/
theorem symbolEndsFrame : Obligations.SymbolEndsFrame := by
  intro s port
  refine ⟨fun progress => ⟨fun x => congrArg Host.Outcome.next ?_, congrArg Host.Outcome.next ?_⟩,
    fun hunt => congrArg Host.Outcome.next (State.receiveSymbol_of_hunt hunt _)⟩
  · rw [State.receiveSymbol_of_progress progress, parserAtBreak_eq]
  · exact State.receiveSymbol_of_progress progress _

/-! ### The header (R2, R4) -/

/-- In HUNT every data byte is discarded. -/
theorem State.receiveBytes_hunt {s : State} {port : Port} (h : s.parser port = .hunt) (bytes : List Byte) :
    s.receiveBytes port bytes = s := by
  induction bytes with
  | nil => rfl
  | cons x xs ih =>
    have one : State.receiveByte port s x = s := by simp only [State.receiveByte, h]
    exact (congrArg (fun t : State => t.receiveBytes port xs) one).trans ih

theorem State.headerDone_setParser (s : State) (port : Port) (p : Parser) (bytes : List Byte) :
    (s.setParser port p).headerDone port bytes = s.headerDone port bytes := by
  have mode (h : Header) : (s.setParser port p).checkModeFor h = s.checkModeFor h := by simp [State.checkModeFor]
  simp only [State.headerDone, mode, State.setParser_setParser]

/-- The data bytes up to the sixth of a header: then the header is judged. -/
theorem State.receiveBytes_header {port : Port} (rest : List Byte) :
    ∀ (held : List Byte) (s : State), s.parser port = .header held → rest ≠ [] → held.length + rest.length = 6 →
      s.receiveBytes port rest = s.headerDone port (held ++ rest) := by
  induction rest with
  | nil => intro held s _ hn; exact absurd rfl hn
  | cons x xs ih =>
    intro held s hp _ hl
    simp only [List.length_cons] at hl
    rw [State.receiveBytes, List.foldl_cons]
    rcases List.eq_nil_or_concat xs with rfl | more
    · have last : ¬held.length + 1 < 6 := by simp at hl; omega
      simp [State.receiveByte, hp, last]
    · have notEmpty : xs ≠ [] := by obtain ⟨l, y, rfl⟩ := more; simp
      have room : held.length + 1 < 6 := by have := List.length_pos_iff.mpr notEmpty; omega
      have one : State.receiveByte port s x = s.setParser port (.header (held ++ [x])) := by
        simp [State.receiveByte, hp, room]
      have rest := ih (held ++ [x]) (s.setParser port (.header (held ++ [x]))) (by simp) notEmpty (by simp; omega)
      rw [one]
      simpa [State.receiveBytes, State.headerDone_setParser] using rest

/-- The judgement of six header bytes (R2), with the length and the check written out. -/
theorem judgeHeader_eq (d src kind hi lo check : Byte) :
    judgeHeader [d, src, kind, hi, lo, check] =
      if check = d ^^^ src ^^^ kind ^^^ hi ^^^ lo ∧ d.toNat ≤ 63 ∧ src.toNat ≤ 62 ∧ hi.toNat * 256 + lo.toNat ≤ 1040 then
        some { dest := d.toNat, source := src.toNat, kind := kind, length := hi.toNat * 256 + lo.toNat }
      else none := by
  have hl : beNat [hi, lo] = hi.toNat * 256 + lo.toNat := by simp [beNat]
  have hx : lrc8 [d, src, kind, hi, lo] = d ^^^ src ^^^ kind ^^^ hi ^^^ lo := by simp [lrc8]
  simp only [judgeHeader, hl, hx, maxDest, maxSource, maxPayload]
  split
  · next fails =>
    rw [if_neg]
    rintro ⟨sum, dest, source, long⟩
    rcases fails with fails | fails
    · exact fails sum
    · omega
  · next passes =>
    rw [if_pos]
    simp only [not_or, not_lt, ne_eq, not_not] at passes
    exact passes

theorem headOfStation_eq_some {n : Nat} {k : Fin 16} : headOfStation n = some k ↔ n = 16 + k := by
  simp only [headOfStation, headOfNat]
  constructor
  · intro h
    split_ifs at h with h1 h2
    cases h
    simp; omega
  · rintro rfl
    simp

theorem headOfStation_eq_none {n : Nat} : headOfStation n = none ↔ ¬(16 ≤ n ∧ n ≤ 31) := by
  simp only [headOfStation, headOfNat]
  split_ifs <;> simp <;> omega

/-- A frame is checked by LRC-8 exactly where it is a SCAN of a head whose record says so (R4). -/
theorem State.checkModeFor_eq_lrc8 (s : State) (h : Header) :
    s.checkModeFor h = .lrc8 ↔ h.kind = 0x01 ∧ ∃ (k : Fin 16) (a : Announced),
      h.source = 16 + k ∧ (s.head k).announced = some a ∧ a.checkMode = .lrc8 := by
  unfold State.checkModeFor
  cases hk : headOfStation h.source with
  | none =>
    simp only [reduceCtorEq, false_iff, not_and]
    rintro - ⟨k, a, hs, -⟩
    rw [headOfStation_eq_some.mpr hs] at hk
    cases hk
  | some k =>
    have source := headOfStation_eq_some.mp hk
    have unique : ∀ k' : Fin 16, h.source = 16 + k' ↔ k' = k := fun k' => by
      rw [source]; constructor
      · intro e; exact Fin.ext (by omega)
      · rintro rfl; rfl
    by_cases scan : h.kind = 0x01
    · simp only [kindScan, scan, if_true, true_and, unique]
      cases ha : (s.head k).announced with
      | none => simp [ha]
      | some a => simp [ha]
    · dsimp only
      rw [if_neg (show ¬h.kind = kindScan from scan)]
      simp only [reduceCtorEq, false_iff, not_and]
      exact fun h => absurd h scan

/-- Settles O12: the sixth byte has the header judged; in HUNT every byte that follows is discarded. -/
theorem headerJudged : Obligations.HeaderJudged := by
  intro s port d src kind hi lo check hp length h passes failed
  have run : exec (.headerReceived port [d, src, kind, hi, lo, check]) s =
      .next (s.headerDone port [d, src, kind, hi, lo, check]) :=
    congrArg Host.Outcome.next (State.receiveBytes_header _ [] s hp (by simp) rfl)
  refine ⟨fun hpass => ⟨s.checkModeFor h, s.checkModeFor_eq_lrc8 h, ?_⟩, fun hfail => ⟨?_, fun bytes => ?_⟩⟩
  · rw [run, State.headerDone, judgeHeader_eq, if_pos hpass]
    rfl
  · rw [run, State.headerDone, judgeHeader_eq, if_neg hfail]
  · exact congrArg Host.Outcome.next (State.receiveBytes_hunt (by simp [failed]) bytes)

end Sys2Proof.Machine
end

section
/-! Proofs: what becomes of a complete frame (R5, R7 to R9, R13, R32), and of a request (R152, R153). -/

namespace Sys2Proof.Machine

/-! ### A failed payload check (R5, R32) -/

@[simp] theorem State.setHead_setHead (s : State) (h : Fin 16) (r r' : HeadRecord) :
    (s.setHead h r).setHead h r' = s.setHead h r' := by
  simp [State.setHead]

/-- A head that is FAULTED for a cause, and its notice (R37). -/
theorem State.faultHead_eq (s : State) (h : Fin 16) (c : FaultCause) :
    s.faultHead h c = (s.setHead h { s.head h with
      state := .faulted, cause := some c, deadline := none, counters.faults := inc (s.head h).counters.faults }).raise
      (.headState h (s.head h).state .faulted (some c)) := by
  simp [State.faultHead, State.noticeHead]

theorem inService_iff (x : HeadState) : x.inService = true ↔ x = .online ∨ x = .silent := by
  cases x <;> simp [HeadState.inService]

/-- A check error report (R32): counted, and in service added to the consecutive count, which faults the head at 8. -/
theorem State.reportCheckError_eq (s : State) (h : Fin 16) :
    let r := s.head h
    let counted := { r with counters.checkErrors := inc r.counters.checkErrors }
    s.reportCheckError h =
      if r.state.inService then
        if 8 ≤ r.checkErrors + 1 then
          (s.setHead h { counted with
            checkErrors := 8, state := .faulted, cause := some .checkErrors, deadline := none,
            counters.faults := inc r.counters.faults }).raise (.headState h r.state .faulted (some .checkErrors))
        else s.setHead h { counted with checkErrors := r.checkErrors + 1 }
      else s.setHead h counted := by
  intro r counted
  simp only [State.reportCheckError, State.head_modHead_same]
  split
  · split
    · next limit =>
      have eight : min ((s.head h).checkErrors + 1) 8 = 8 := min_eq_right limit
      simp [State.faultHead_eq, State.modHead, eight, r, counted]
    · next below =>
      have count : min ((s.head h).checkErrors + 1) 8 = (s.head h).checkErrors + 1 := min_eq_left (not_le.mp below).le
      simp [State.modHead, count, r, counted]
  · rfl

/-- A frame whose check fails is counted, and reported where it is a SCAN of a head at the Head Port. -/
theorem State.badFrame_of_head (s : State) {port : Port} {h : Header} {k : Fin 16} (hp : port = .head) (hk : h.kind = 0x01)
    (hs : h.source = 16 + k) :
    s.badFrame port h =
      (s.modCounters port fun c => { c with payloadError := inc c.payloadError }).reportCheckError k := by
  simp only [State.badFrame, headOfStation_eq_some.mpr hs]
  rw [if_pos ⟨hp, hk⟩]

theorem State.badFrame_of_other (s : State) {port : Port} {h : Header}
    (hn : ¬(port = .head ∧ h.kind = 0x01 ∧ 16 ≤ h.source ∧ h.source ≤ 31)) :
    s.badFrame port h = s.modCounters port fun c => { c with payloadError := inc c.payloadError } := by
  unfold State.badFrame
  dsimp only
  split
  · next k hk =>
    have source := headOfStation_eq_some.mp hk
    exact if_neg fun ⟨hp, kind⟩ => hn ⟨hp, kind, by omega, by omega⟩
  · rfl

/-- Settles O14: the last byte has the frame judged; only a SCAN of a head at the Head Port is reported. -/
theorem payloadCheckFails : Obligations.PayloadCheckFails := by
  intro s port h mode payload check hp hl hc fails u
  have run : exec (.frameComplete port (payload ++ check)) s = .next ((s.setParser port .hunt).badFrame port h) := by
    refine congrArg Host.Outcome.next ((State.receiveBytes_tail port s h mode payload check hp hl hc).trans ?_)
    simp only [State.frameDone, fails, Bool.false_eq_true, if_false]
  have head (k : Fin 16) : u.head k = s.head k := by simp [u]
  refine ⟨fun hn => run.trans (congrArg _ (State.badFrame_of_other _ hn)), fun k hport hkind hsource => ?_⟩
  intro r counted
  have reported : exec (.frameComplete port (payload ++ check)) s = .next (u.reportCheckError k) :=
    run.trans (congrArg _ (State.badFrame_of_head _ hport hkind hsource))
  rw [State.reportCheckError_eq, head k] at reported
  refine ⟨fun out => ?_, fun service => ⟨fun below => ?_, fun limit => ?_⟩⟩
  · rw [reported, if_neg (by rw [inService_iff]; exact not_or.mpr out)]
  · rw [reported, if_pos ((inService_iff _).mpr service), if_neg (not_le.mpr below)]
  · rw [reported, if_pos ((inService_iff _).mpr service), if_pos limit]

/-! ### The rows of R7 -/

section Rows

variable {s : State} {port : Port} {f : Frame}

theorem State.consumerOf_scan (h : f.kind = 0x01) :
    s.consumerOf port f = if port = .head then (headOfStation f.source).map .scan else none := by
  simp [State.consumerOf, h, kindScan]

theorem State.consumerOf_announce (h : f.kind = 0x02) :
    s.consumerOf port f = if port = .head then (headOfStation f.source).map .announce else none := by
  simp [State.consumerOf, h, kindScan, kindAnnounce]

theorem State.consumerOf_travel (h : f.kind = 0x03) : s.consumerOf port f = (pullerOfStation f.source).map .travel := by
  simp [State.consumerOf, h, kindScan, kindAnnounce, kindTravel]

theorem State.consumerOf_handover (h : f.kind = 0x04) :
    s.consumerOf port f = if f.source = 8 ∨ f.source = 9 ∨ f.source = 0 then some .handover else none := by
  simp [State.consumerOf, h, kindScan, kindAnnounce, kindTravel, kindPressNotice, kindHandover]

theorem State.consumerOf_pressNotice (h : f.kind = 0x05) :
    s.consumerOf port f = if f.source = 10 then some .pressNotice else none := by
  simp [State.consumerOf, h, kindScan, kindAnnounce, kindTravel, kindPressNotice]

theorem State.consumerOf_cutNotice (h : f.kind = 0x06) :
    s.consumerOf port f = if port = .line ∧ (f.source = 2 ∨ f.source = 0) then some .cutNotice else none := by
  simp [State.consumerOf, h, kindScan, kindAnnounce, kindTravel, kindPressNotice, kindHandover, kindCutNotice]

theorem State.consumerOf_request (h : f.kind = 0x20) :
    s.consumerOf port f = if port = .line ∧ f.dest = s.ownStation then some .request else none := by
  simp [State.consumerOf, h, kindScan, kindAnnounce, kindTravel, kindPressNotice, kindHandover, kindCutNotice, kindRequest]

theorem State.consumerOf_none (h1 : f.kind ≠ 0x01) (h2 : f.kind ≠ 0x02) (h3 : f.kind ≠ 0x03) (h4 : f.kind ≠ 0x04)
    (h5 : f.kind ≠ 0x05) (h6 : f.kind ≠ 0x06) (h7 : f.kind ≠ 0x20) : s.consumerOf port f = none := by
  simp only [State.consumerOf, kindScan, kindAnnounce, kindTravel, kindPressNotice, kindHandover, kindCutNotice, kindRequest,
    h1, h2, h3, h4, h5, h6, h7, if_false]

theorem pullerOfStation_isSome (n : Nat) : (pullerOfStation n).isSome ↔ n = 8 ∨ n = 9 := by
  unfold pullerOfStation
  split_ifs <;> simp_all

theorem headOfStation_isSome (n : Nat) : (headOfStation n).isSome ↔ 16 ≤ n ∧ n ≤ 31 := by
  rw [← not_iff_not, ← headOfStation_eq_none, Option.not_isSome_iff_eq_none]

/-- The kinds of R7's table, and every other kind. -/
theorem kind_cases (x : Byte) : x = 0x01 ∨ x = 0x02 ∨ x = 0x03 ∨ x = 0x04 ∨ x = 0x05 ∨ x = 0x06 ∨ x = 0x20 ∨
    x ≠ 0x01 ∧ x ≠ 0x02 ∧ x ≠ 0x03 ∧ x ≠ 0x04 ∧ x ≠ 0x05 ∧ x ≠ 0x06 ∧ x ≠ 0x20 := by
  revert x; decide

/-- A frame has a consumer exactly where it matches a row. -/
theorem State.consumerOf_isSome : (s.consumerOf port f).isSome ↔ MatchesRow s port f := by
  rcases kind_cases f.kind with h | h | h | h | h | h | h | ⟨h1, h2, h3, h4, h5, h6, h7⟩
  · rw [State.consumerOf_scan h]
    split <;> simp [MatchesRow, headOfStation_isSome, *]
  · rw [State.consumerOf_announce h]
    split <;> simp [MatchesRow, headOfStation_isSome, *]
  · simp [State.consumerOf_travel h, MatchesRow, h, pullerOfStation_isSome]
  · rw [State.consumerOf_handover h]
    split <;> simp [MatchesRow, *]
  · rw [State.consumerOf_pressNotice h]
    split <;> simp [MatchesRow, *]
  · rw [State.consumerOf_cutNotice h]
    split <;> simp [MatchesRow, *]
  · rw [State.consumerOf_request h]
    split <;> simp [MatchesRow, *]
  · simp only [State.consumerOf_none h1 h2 h3 h4 h5 h6 h7, MatchesRow, h1, h2, h3, h4, h5, h6, h7, Option.isSome_none,
      Bool.false_eq_true, false_and, or_false]

/-- The length test of a frame's row is the length of its kind (R167, R168). -/
theorem State.consumerOf_fits {c : Consumer} (hc : s.consumerOf port f = some c) :
    c.fits f.payload.length = true ↔ LengthFits f := by
  rcases kind_cases f.kind with h | h | h | h | h | h | h | ⟨h1, h2, h3, h4, h5, h6, h7⟩
  · rw [State.consumerOf_scan h] at hc
    split at hc
    · obtain ⟨k, -, rfl⟩ := Option.map_eq_some_iff.mp hc
      simp [LengthFits, Consumer.fits, h, and_assoc]
    · cases hc
  · rw [State.consumerOf_announce h] at hc
    split at hc
    · obtain ⟨k, -, rfl⟩ := Option.map_eq_some_iff.mp hc
      simp [LengthFits, Consumer.fits, h]
    · cases hc
  · rw [State.consumerOf_travel h] at hc
    obtain ⟨p, -, rfl⟩ := Option.map_eq_some_iff.mp hc
    simp [LengthFits, Consumer.fits, h]
  · rw [State.consumerOf_handover h] at hc
    split at hc <;> cases hc
    simp [LengthFits, Consumer.fits, h]
  · rw [State.consumerOf_pressNotice h] at hc
    split at hc <;> cases hc
    simp [LengthFits, Consumer.fits, h]
  · rw [State.consumerOf_cutNotice h] at hc
    split at hc <;> cases hc
    simp [LengthFits, Consumer.fits, h]
  · rw [State.consumerOf_request h] at hc
    split at hc <;> cases hc
    simp [LengthFits, Consumer.fits, h]
  · rw [State.consumerOf_none h1 h2 h3 h4 h5 h6 h7] at hc
    cases hc

end Rows

/-! ### A good frame (R5, R7, R8) -/

section Good

variable {s : State} {port : Port} {f : Frame} {mode : CheckMode}

theorem State.received_consumerOf : (s.received port).consumerOf port f = s.consumerOf port f := by
  simp [State.consumerOf, State.received]

theorem State.received_ownStation : (s.received port).ownStation = s.ownStation := by simp [State.received]

/-- A complete frame whose check passes is counted and handled. -/
theorem exec_goodFrame (h : Awaits s port f mode) :
    exec (.frameComplete port f.tailBytes) s = .next (
      if f.source = s.ownStation then (s.received port).modCounters port fun c => { c with looped := inc c.looped }
      else if (s.received port).isHeadPortRequest port f then
        { s.received port with headPort := { (s.received port).headPort with
            headPortRequest := inc (s.received port).headPort.headPortRequest } }
      else (s.received port).handleFrame port f) := by
  refine congrArg Host.Outcome.next ((State.receiveBytes_good port h).trans ?_)
  rw [State.goodFrame, State.setParser_ownStation]
  rfl

theorem State.isHeadPortRequest_iff :
    s.isHeadPortRequest port f = true ↔ port = .head ∧ f.kind = 0x20 ∧ f.dest = s.ownStation := by
  have kind : decide (f.kind = kindRequest) = true ↔ f.kind = 0x20 := decide_eq_true_iff
  simp only [State.isHeadPortRequest, Bool.and_eq_true, decide_eq_true_eq, kind, and_assoc]

/-- A frame that is neither the part's own nor a request at the Head Port is handled. -/
theorem exec_handled (h : Awaits s port f mode) (own : f.source ≠ s.ownStation)
    (hr : ¬(port = .head ∧ f.kind = 0x20 ∧ f.dest = s.ownStation)) :
    exec (.frameComplete port f.tailBytes) s = .next ((s.received port).handleFrame port f) := by
  rw [exec_goodFrame h, if_neg own, if_neg]
  rw [State.isHeadPortRequest_iff, State.received_ownStation]
  exact hr

/-- No row of R7 is of a REQUEST at the Head Port. -/
theorem not_headPortRequest_of_matches (h : MatchesRow s port f) :
    ¬(port = .head ∧ f.kind = 0x20 ∧ f.dest = s.ownStation) := by
  rintro ⟨rfl, kind, -⟩
  simp [MatchesRow, kind] at h

/-- A frame that matches a row with a length of its kind is handed to its block. -/
theorem exec_consumed (h : Awaits s port f mode) (own : f.source ≠ s.ownStation) {c : Consumer}
    (hc : s.consumerOf port f = some c) (fits : c.fits f.payload.length = true) :
    exec (.frameComplete port f.tailBytes) s =
      .next (((s.received port).consume c f).forwardFrame port f true) := by
  have row : MatchesRow s port f := State.consumerOf_isSome.mp (by simp [hc])
  rw [exec_handled h own (not_headPortRequest_of_matches row), State.handleFrame, State.received_consumerOf, hc]
  simp only [fits, if_true]

end Good

/-- Settles O15: the cases of a good frame in the order in which they are judged. -/
theorem goodFrameNotConsumed : Obligations.GoodFrameNotConsumed := by
  intro s port f mode h u
  refine ⟨fun own => ?_, fun own => ⟨fun hp hk hd => ?_, fun hr hm => ?_, fun hm hl => ?_⟩⟩
  · rw [exec_goodFrame h, if_pos own]
  · rw [exec_goodFrame h, if_neg own, if_pos]
    exact State.isHeadPortRequest_iff.mpr ⟨hp, hk, hd.trans State.received_ownStation.symm⟩
  · have none : s.consumerOf port f = none := by
      rw [← Option.not_isSome_iff_eq_none, State.consumerOf_isSome]
      exact hm
    rw [exec_handled h own hr, State.handleFrame, State.received_consumerOf, none]
  · obtain ⟨c, hc⟩ := Option.isSome_iff_exists.mp (State.consumerOf_isSome.mpr hm)
    have fits : c.fits f.payload.length = false := by
      rw [← Bool.not_eq_true, State.consumerOf_fits hc]
      exact hl
    rw [exec_handled h own (not_headPortRequest_of_matches hm), State.handleFrame, State.received_consumerOf, hc]
    simp only [fits, Bool.false_eq_true, if_false]
    rfl

/-- A field that is the whole payload. -/
theorem fieldNat_whole {p : List Byte} {n : Nat} (h : p.length = n) : fieldNat p 0 n = beNat p := by
  simp [fieldNat, field, ← h]

/-- Settles O16: row by row, the frame's block and the length test. -/
theorem goodFrameConsumed : Obligations.GoodFrameConsumed := by
  intro s port f mode h own u n Hands
  have hands {c : Consumer} (hc : s.consumerOf port f = some c) (fits : c.fits n = true) : Hands (u.consume c f) :=
    exec_consumed h own hc fits
  refine ⟨fun k hp hs hk hn => ?_, fun k hp hs hk hn => ?_, fun hk hn => ⟨fun hs => ?_, fun hs => ?_⟩, fun hk hs hn => ?_,
    fun hk hs hn => ?_, fun hk hp hs hn => ?_, fun hk hp hd hn => ?_⟩
  · exact hands (c := .scan k) (by rw [State.consumerOf_scan hk, if_pos hp, headOfStation_eq_some.mpr hs]; rfl)
      (by simpa [Consumer.fits, and_assoc] using hn)
  · exact hands (c := .announce k) (by rw [State.consumerOf_announce hk, if_pos hp, headOfStation_eq_some.mpr hs]; rfl)
      (by simpa [Consumer.fits] using hn)
  · have := hands (c := .travel .a) (by rw [State.consumerOf_travel hk, hs]; rfl) (by simpa [Consumer.fits] using hn)
    rwa [State.consume, fieldNat_whole hn] at this
  · have := hands (c := .travel .b) (by rw [State.consumerOf_travel hk, hs]; rfl) (by simpa [Consumer.fits] using hn)
    rwa [State.consume, fieldNat_whole hn] at this
  · have := hands (c := .pressNotice) (by rw [State.consumerOf_pressNotice hk, if_pos hs]) (by simpa [Consumer.fits] using hn)
    rwa [State.consume, fieldNat_whole hn] at this
  · have := hands (c := .handover) (by rw [State.consumerOf_handover hk, if_pos hs]) (by simpa [Consumer.fits] using hn)
    rwa [State.consume, fieldNat_whole hn] at this
  · have := hands (c := .cutNotice) (by rw [State.consumerOf_cutNotice hk, if_pos ⟨hp, hs⟩])
      (by simpa [Consumer.fits] using hn)
    have position : fieldNat f.payload 1 5 = beNat (f.payload.drop 1) := by
      have : (f.payload.drop 1).length = 5 := by simp [show f.payload.length = 6 from hn]
      rw [fieldNat, field, List.take_of_length_le this.le]
    rw [State.consume, position] at this
    simpa [fieldNat, field] using this
  · exact hands (c := .request) (by rw [State.consumerOf_request hk, if_pos ⟨hp, hd⟩]) (by simpa [Consumer.fits] using hn)

/-! ### The forwarding decision (R9, R13, R17, R18) -/

section Forwarding

variable (s : State) (port : Port) (f : Frame)

theorem State.forwardFrame_of_own {consumed : Bool} (h : f.dest = s.ownStation) :
    s.forwardFrame port f consumed =
      if consumed then s else s.modCounters port fun c => { c with unclaimed := inc c.unclaimed } := if_pos h

theorem State.forwardFrame_of_stop {consumed : Bool} (h : f.dest ≠ s.ownStation) (hr : (s.route f.dest).action = .stop) :
    s.forwardFrame port f consumed = s := by
  rw [State.forwardFrame, if_neg h, hr]

theorem State.forwardFrame_of_pass {consumed : Bool} (h : f.dest ≠ s.ownStation) (hr : (s.route f.dest).action = .pass) :
    s.forwardFrame port f consumed = s.offerForward (opposite port) f := by
  rw [State.forwardFrame, if_neg h, hr]

theorem State.offerForward_of_full (h : 16 ≤ (s.forwardOf port).length) :
    s.offerForward port f = s.modCounters port fun c => { c with forwardDrop := inc c.forwardDrop } := by
  cases port <;> exact if_neg (not_lt.mpr h)

theorem State.offerForward_head_of_room (h : s.headPort.forward.length < 16) :
    s.offerForward .head f =
      { s with headPort := ({ s.headPort with forward := s.headPort.forward ++ [f] } : HeadPort).kick } := if_pos h

theorem State.offerForward_line_of_room (h : s.linePort.forward.length < 16) :
    s.offerForward .line f =
      State.kickLine { s with linePort := { s.linePort with forward := s.linePort.forward ++ [f] } } := if_pos h

/-- A selection moves frames, and nothing else of a Head Port. -/
@[simp] theorem HeadPort.kick_frame (p : HeadPort) :
    p.kick.parser = p.parser ∧ p.kick.counters = p.counters ∧ p.kick.headPortRequest = p.headPortRequest ∧
      p.kick.triggerDrop = p.triggerDrop ∧ p.kick.controlDrop = p.controlDrop := by
  unfold HeadPort.kick HeadPort.select
  repeat' split
  all_goals exact ⟨rfl, rfl, rfl, rfl, rfl⟩

/-- A Head Port that transmits makes no selection. -/
theorem HeadPort.kick_of_sending {p : HeadPort} (h : p.tx ≠ none) : p.kick = p := by
  rw [HeadPort.kick, if_neg]
  simpa using h

theorem HeadPort.kick_of_own {p : HeadPort} (h : p.tx = none) {x : HeadFrame} {rest : List HeadFrame} (ho : p.own = x :: rest) :
    p.kick = { p with own := rest, tx := some (.own x) } := by
  simp [HeadPort.kick, HeadPort.select, h, ho]

theorem HeadPort.kick_of_forward {p : HeadPort} (h : p.tx = none) (ho : p.own = []) {x : Frame} {rest : List Frame}
    (hf : p.forward = x :: rest) : p.kick = { p with forward := rest, tx := some (.forwarded x) } := by
  simp [HeadPort.kick, HeadPort.select, h, ho, hf]

variable {s}

theorem State.kickLine_of_sending (h : s.linePort.tx ≠ none ∨ s.handler.restart = .due) : s.kickLine = s := by
  rw [State.kickLine, if_neg]
  rintro ⟨idle, phase⟩
  rcases h with h | h
  · exact h (Option.isNone_iff_eq_none.mp idle)
  · exact phase h

theorem State.kickLine_of_idle (h : s.linePort.tx = none) (hr : s.handler.restart ≠ .due) :
    s.kickLine = { s with linePort := s.linePort.select } := by
  rw [State.kickLine, if_pos ⟨Option.isNone_iff_eq_none.mpr h, hr⟩]

theorem LinePort.select_of_own {p : LinePort} {x : Record} {rest : List Record} (ho : p.own = x :: rest)
    (hp : p.forward = [] ∨ p.prefer = .own) : p.select = { p with own := rest, tx := some (.own x), prefer := .forward } := by
  cases hf : p.forward with
  | nil => simp [LinePort.select, ho, hf]
  | cons g gs =>
    have hp : p.prefer = .own := by simpa [hf] using hp
    simp [LinePort.select, ho, hf, hp]

theorem LinePort.select_of_forward {p : LinePort} {x : Frame} {rest : List Frame} (hf : p.forward = x :: rest)
    (hp : p.own = [] ∨ p.prefer = .forward) :
    p.select = { p with forward := rest, tx := some (.forwarded x), prefer := .own } := by
  cases ho : p.own with
  | nil => simp [LinePort.select, ho, hf]
  | cons g gs =>
    have hp : p.prefer = .forward := by simpa [ho] using hp
    simp [LinePort.select, ho, hf, hp]

end Forwarding

theorem State.headTransmitting_eq_none {s : State} : s.headTransmitting = none ↔ s.headPort.tx = none := by
  simp [State.headTransmitting]

theorem State.lineTransmitting_eq_none {s : State} : s.lineTransmitting = none ↔ s.linePort.tx = none := by
  simp [State.lineTransmitting]

/-- What of each port's parser and counters a frame that joins the forward queue leaves. -/
theorem State.offerForward_parser {s : State} {port : Port} (f : Frame) (h : (s.forwardOf port).length < 16) (p : Port) :
    (s.offerForward port f).parser p = s.parser p ∧ (s.offerForward port f).portCounters p = s.portCounters p := by
  cases port with
  | head =>
    rw [State.offerForward_head_of_room s f h]
    cases p <;> simp [State.parser, State.portCounters]
  | line =>
    rw [State.offerForward_line_of_room s f h]
    cases p <;> simp [State.parser, State.portCounters]

/-- A frame that joins the forward queue of one port leaves the other port. -/
theorem State.offerForward_other {s : State} {port : Port} (f : Frame) :
    (s.offerForward (opposite port) f).transmitting port = s.transmitting port ∧
      (s.offerForward (opposite port) f).forwardOf port = s.forwardOf port := by
  cases port <;> simp only [opposite, State.offerForward] <;> split <;>
    simp [State.transmitting, State.forwardOf, State.headTransmitting, State.lineTransmitting]

/-- A frame that joins the Head Port's forward queue, and what an idle transmitter then takes (R13, R17). -/
theorem State.offerForward_headPort {s : State} (f : Frame) (room : s.headPort.forward.length < 16) :
    let p := s.headPort
    let t := s.offerForward .head f
    t.linePort = s.linePort ∧ (p.tx ≠ none → t.headPort = { p with forward := p.forward ++ [f] }) ∧
      (p.tx = none →
        (∀ x rest, p.own = x :: rest →
          t.headPort = { p with own := rest, tx := some (.own x), forward := p.forward ++ [f] }) ∧
        (p.own = [] → ∀ x rest, p.forward ++ [f] = x :: rest →
          t.headPort = { p with forward := rest, tx := some (.forwarded x) })) := by
  rw [State.offerForward_head_of_room s f room]
  let joined : HeadPort := { s.headPort with forward := s.headPort.forward ++ [f] }
  exact ⟨rfl, fun sending => joined.kick_of_sending sending, fun idle =>
    ⟨fun x rest own => joined.kick_of_own idle own, fun own x rest forward => joined.kick_of_forward idle own forward⟩⟩

/-- A frame that joins the Line Port's forward queue, and what an idle transmitter then takes (R13, R17, R18). -/
theorem State.offerForward_linePort {s : State} (f : Frame) (room : s.linePort.forward.length < 16) :
    let p := s.linePort
    let t := s.offerForward .line f
    t.headPort = s.headPort ∧
      (p.tx ≠ none ∨ s.handler.restart = .due → t.linePort = { p with forward := p.forward ++ [f] }) ∧
      (p.tx = none → s.handler.restart ≠ .due →
        (∀ x rest, p.own = x :: rest → p.prefer = .own → t.linePort =
          { p with own := rest, tx := some (.own x), forward := p.forward ++ [f], prefer := .forward }) ∧
        (p.own = [] ∨ p.prefer = .forward → ∀ x rest, p.forward ++ [f] = x :: rest → t.linePort =
          { p with forward := rest, tx := some (.forwarded x), prefer := .own })) := by
  simp only [State.offerForward_line_of_room s f room]
  let joined : State := { s with linePort := { s.linePort with forward := s.linePort.forward ++ [f] } }
  refine ⟨by simp, fun sending => ?_, fun idle phase => ⟨fun x rest own prefer => ?_, fun empty x rest forward => ?_⟩⟩
  · rw [State.kickLine_of_sending]
    exact sending
  · rw [State.kickLine_of_idle (s := joined) idle phase]
    exact LinePort.select_of_own own (.inr prefer)
  · rw [State.kickLine_of_idle (s := joined) idle phase]
    exact LinePort.select_of_forward forward empty

/-- Settles O17: the decision case by case, and then the entry into each of the two queues. -/
theorem forwardingDecided : Obligations.ForwardingDecided := by
  intro s port f consumed q t
  refine ⟨fun hd => s.forwardFrame_of_own port f hd, fun hd hr => s.forwardFrame_of_stop port f hd hr, fun hd hr => ?_⟩
  have ht : t = s.offerForward q f := s.forwardFrame_of_pass port f hd hr
  refine ⟨fun full => ht.trans (s.offerForward_of_full q f full), fun room => ?_⟩
  rw [ht]
  refine ⟨⟨by simp, by simp, by simp, by simp, by simp, by simp [SameRest], fun p => State.offerForward_parser f room p,
    State.offerForward_other f⟩, fun hq => ?_, fun hq => ?_, fun sending => ?_, fun idle empty head line => ?_⟩
  · rw [hq] at room ⊢
    exact State.offerForward_headPort f room
  · rw [hq] at room ⊢
    exact State.offerForward_linePort f room
  · cases hq : q <;> rw [hq] at room sending
    · obtain ⟨-, busy, -⟩ := State.offerForward_headPort f room
      have port := busy (mt State.headTransmitting_eq_none.mpr sending)
      simp [State.forwardOf, State.transmitting, State.headTransmitting, port]
    · obtain ⟨-, busy, -⟩ := State.offerForward_linePort f room
      have port := busy (.inl (mt State.lineTransmitting_eq_none.mpr sending))
      simp [State.forwardOf, State.transmitting, State.lineTransmitting, port]
  · cases hq : q <;> rw [hq] at room idle empty
    · obtain ⟨-, -, free⟩ := State.offerForward_headPort f room
      have port := (free (State.headTransmitting_eq_none.mp idle)).2 (head hq) f [] (by
        rw [show s.headPort.forward = [] from empty]; rfl)
      simp [State.forwardOf, State.transmitting, State.headTransmitting, port]
    · obtain ⟨-, -, free⟩ := State.offerForward_linePort f room
      obtain ⟨own, phase⟩ := line hq
      have port := (free (State.lineTransmitting_eq_none.mp idle) phase).2 (.inl own) f [] (by
        rw [show s.linePort.forward = [] from empty]; rfl)
      simp [State.forwardOf, State.transmitting, State.lineTransmitting, port]

/-! ### A request (R152, R153) -/

theorem busyReply_eq (f : Frame) : busyReply f =
    { dest := f.source, tag := beNat (f.payload.take 2), kind := beNat ((f.payload.drop 2).take 1), status := .busy,
      body := [] } := rfl

theorem lineHasRoom_iff {s : State} : s.lineHasRoom = true ↔ s.linePort.own.length < 32 := decide_eq_true_iff

/-- Settles O18: the entry is taken below 4 requests; else the BUSY reply enters the Line Port or is counted unsent. -/
theorem requestTakenOrBusy : Obligations.RequestTakenOrBusy := by
  intro s f t busy
  refine ⟨fun room => if_pos room, fun full => ?_⟩
  have ht : t = if s.lineHasRoom then
      State.enqueueRecord { s with handler.counters.requestsBusy := inc s.handler.counters.requestsBusy } (.reply busy)
    else { s with handler := { s.handler with counters := { s.handler.counters with
      requestsBusy := inc s.handler.counters.requestsBusy, busyUnsent := inc s.handler.counters.busyUnsent } } } :=
    if_neg (not_lt.mpr full)
  by_cases room : s.linePort.own.length < 32
  · rw [if_pos (lineHasRoom_iff.mpr room)] at ht
    rw [ht]
    refine ⟨by simp [room], fun _ => ⟨?_, by simp⟩, fun h => absurd room (not_lt.mpr h), by simp [SameRest], ?_, by simp, by simp,
      by simp, by simp, by simp⟩
    · exact (State.enqueueRecord_entered _ _).of_same rfl rfl
    · exact ⟨by simp, by simp, by simp, by simp, State.enqueueRecord_lineGrows _ _⟩
  · rw [if_neg (mt lineHasRoom_iff.mp room)] at ht
    rw [ht]
    exact ⟨by simp [room], fun h => absurd h room, fun _ => rfl, by simp [SameRest], ⟨rfl, rfl, rfl, rfl, LineGrows.refl _⟩, rfl,
      rfl, rfl, rfl, rfl⟩

end Sys2Proof.Machine
end

section
/-! Proofs: the encodings of chapter 10: the CRC-16 (R4), the frames that the part sends (R18, R166), and the REQUEST payload
(R168). -/

namespace Sys2Proof.Machine

/-! ### The CRC-16 (R4) -/

/-- A shift of a register whose most significant bit is 0 doubles it. -/
theorem toNat_crcShift {r : BitVec 16} (h : r.toNat < 32768) : (crcShift r).toNat = 2 * r.toNat := by
  have msb : r.msb = false := by rw [BitVec.msb_eq_false_iff_two_mul_lt]; omega
  simp only [crcShift, msb, Bool.false_eq_true, if_false, BitVec.toNat_shiftLeft, Nat.shiftLeft_eq]
  omega

/-- Eight shifts carry a register below 256 into its most significant byte. -/
theorem crcByte_of_low {r : BitVec 16} {x : Byte} (h : (r ^^^ x.setWidth 16 <<< 8).toNat < 256) :
    (crcByte r x).toNat = 256 * (r ^^^ x.setWidth 16 <<< 8).toNat := by
  simp only [crcByte]
  generalize r ^^^ x.setWidth 16 <<< 8 = v at h
  have h1 := toNat_crcShift (r := v) (by omega)
  have h2 := toNat_crcShift (r := crcShift v) (by omega)
  have h3 := toNat_crcShift (r := crcShift (crcShift v)) (by omega)
  have h4 := toNat_crcShift (r := crcShift (crcShift (crcShift v))) (by omega)
  have h5 := toNat_crcShift (r := crcShift (crcShift (crcShift (crcShift v)))) (by omega)
  have h6 := toNat_crcShift (r := crcShift (crcShift (crcShift (crcShift (crcShift v))))) (by omega)
  have h7 := toNat_crcShift (r := crcShift (crcShift (crcShift (crcShift (crcShift (crcShift v)))))) (by omega)
  have h8 := toNat_crcShift (r := crcShift (crcShift (crcShift (crcShift (crcShift (crcShift (crcShift v))))))) (by omega)
  omega

/-- The register's most significant byte cancels it. -/
theorem xor_high_byte (r : BitVec 16) : r ^^^ (r.extractLsb' 8 8).setWidth 16 <<< 8 = (r.extractLsb' 0 8).setWidth 16 := by
  ext i hi
  simp only [BitVec.getElem_xor, BitVec.getElem_shiftLeft, BitVec.getElem_setWidth, BitVec.getLsbD_extractLsb']
  by_cases h : i < 8
  · simp [h, BitVec.getLsbD_eq_getElem hi]
  · have : i - 8 < 8 := by omega
    have : 8 + (i - 8) = i := by omega
    simp [*]

/-- The two check bytes bring a register to 0. -/
theorem crcByte_crcByte (r : BitVec 16) : crcByte (crcByte r (r.extractLsb' 8 8)) (r.extractLsb' 0 8) = 0#16 := by
  have low : ((r.extractLsb' 0 8).setWidth 16).toNat < 256 := by
    have := (r.extractLsb' 0 8).isLt
    simp only [BitVec.toNat_setWidth]
    omega
  have first := crcByte_of_low (r := r) (x := r.extractLsb' 8 8) (by rw [xor_high_byte]; exact low)
  rw [xor_high_byte] at first
  have high : crcByte r (r.extractLsb' 8 8) = (r.extractLsb' 0 8).setWidth 16 <<< 8 := by
    apply BitVec.eq_of_toNat_eq
    rw [first, BitVec.toNat_shiftLeft, Nat.shiftLeft_eq]
    omega
  have zero := crcByte_of_low (r := crcByte r (r.extractLsb' 8 8)) (x := r.extractLsb' 0 8) (by rw [high]; simp)
  rw [high, BitVec.xor_self] at zero
  rw [high]
  exact BitVec.eq_of_toNat_eq zero

theorem crc16_crcBytes (payload : List Byte) : crc16 (payload ++ crcBytes payload) = 0#16 := by
  rw [crc16, List.foldl_append]
  exact crcByte_crcByte (crc16 payload)

/-! ### Frames (R18, R166) -/

theorem headerBytes_eq (f : Frame) :
    headerFields f.dest f.source f.kind f.payload.length =
      bytesOf [(1, f.dest), (1, f.source), (1, f.kind.toNat), (2, f.payload.length)] := by
  simp [headerFields, encCode]

/-- Settles O13: the CRC-16, the frame of each sending by the layout that its encoder writes, and the codes. -/
theorem crcOfCheckedPayloadIsZero : Obligations.CrcOfCheckedPayloadIsZero := by
  refine ⟨fun p => ⟨crc16_crcBytes p, by simp [checkPasses, crc16_crcBytes]⟩,
    fun s => ⟨fun tx htx => ?_, fun tx htx => ?_⟩, fun f => ?_,
    by decide, by decide, by decide, by decide, by decide, by decide, by decide, by decide, by decide, by decide, by decide,
    by decide, by decide, by decide, by decide, by decide⟩
  · rw [State.headTransmitting, htx]
    rcases tx with _ | (_ | _ | _) | f <;>
      simp [HeadFrame.frame, ownFrame, kindTrigger, kindHeadHold, kindHeadRelease]
  · rw [State.lineTransmitting, htx]
    rcases tx with _ | (_ | _ | _ | _) | f <;>
      simp [Record.frame, ownFrame, kindReply, kindPiece, kindAdvice, kindNotice]
  · simp only [Frame.bytes, headerBytes, headerBytes_eq]
    rfl

end Sys2Proof.Machine
end

section
/-! Proofs: a REQUEST payload decodes to the command that it was encoded from (R165, R168). -/

namespace Sys2Proof.Machine

/-! ### The field types (R165) -/

@[simp] theorem length_encCode (n : Nat) : (encCode n).length = 1 := by simp [encCode]
@[simp] theorem length_encShort (n : Nat) : (encShort n).length = 2 := by simp [encShort]
@[simp] theorem length_encWord (n : Nat) : (encWord n).length = 4 := by simp [encWord]
@[simp] theorem length_encSigned (z : Int) : (encSigned z).length = 4 := by simp [encSigned]

theorem beNat_encCode {n : Nat} (h : n < 256) : beNat (encCode n) = n := by
  simp only [beNat, encCode, List.foldl_cons, List.foldl_nil, BitVec.toNat_ofNat]
  omega

theorem beNat_encShort {n : Nat} (h : n < 65536) : beNat (encShort n) = n := by
  simp only [beNat, encShort, List.foldl_cons, List.foldl_nil, BitVec.toNat_ofNat]
  omega

theorem beNat_encWord {n : Nat} (h : n < 4294967296) : beNat (encWord n) = n := by
  simp only [beNat, encWord, encShort, List.cons_append, List.nil_append, List.foldl_cons, List.foldl_nil, BitVec.toNat_ofNat]
  omega

theorem beSigned_encSigned {z : Int} (h : -2147483648 ≤ z ∧ z < 2147483648) : beSigned (encSigned z) = z := by
  have value : beNat (encSigned z) = (z % 4294967296).toNat := beNat_encWord (by omega)
  simp only [beSigned, value]
  split <;> omega

/-- A field that lies behind the first part of a payload. -/
theorem field_skip {a b : List Byte} {o n : Nat} (h : a.length ≤ o) : field (a ++ b) o n = field b (o - a.length) n := by
  simp [field, List.drop_append, List.drop_eq_nil_of_le h]

/-- A field that is the first part of a payload. -/
theorem field_first {a b : List Byte} {n : Nat} (h : a.length = n) : field (a ++ b) 0 n = a := by
  simp [field, ← h]

/-- A field that is the whole payload. -/
theorem field_whole {a : List Byte} {n : Nat} (h : a.length = n) : field a 0 n = a := by
  simp [field, ← h]

theorem flatMap_toList (v : Vector Nat 6) (enc : Nat → List Byte) :
    v.toList.flatMap enc = enc v[0] ++ (enc v[1] ++ (enc v[2] ++ (enc v[3] ++ (enc v[4] ++ enc v[5])))) := by
  have : v.toList = [v[0], v[1], v[2], v[3], v[4], v[5]] := by
    apply List.ext_getElem <;> simp
    intro i hi
    interval_cases i <;> rfl
  simp [this]

theorem vector_eta {α : Type} (v : Vector α 6) : #v[v[0], v[1], v[2], v[3], v[4], v[5]] = v := by
  ext i hi
  interval_cases i <;> rfl

/-! ### The request's tag and kind -/

/-- The tag comes first. -/
theorem requestTag_encodeRequest {tag : Nat} (c : Instr) (h : tag < 65536) : requestTag (encodeRequest tag c) = tag := by
  simp only [requestTag, encodeRequest, List.append_assoc, fieldNat]
  rw [field_first (length_encShort tag), beNat_encShort h]

/-- A field behind the tag and the kind is one of the request's fields. -/
theorem field_encodeRequest (tag : Nat) (c : Instr) {o : Nat} (n : Nat) (h : 3 ≤ o) :
    field (encodeRequest tag c) o n = field (requestFieldsOf c) (o - 3) n :=
  field_skip (a := encShort tag ++ encCode (requestKindOf c)) h

theorem length_encodeRequest (tag : Nat) (c : Instr) : (encodeRequest tag c).length = 3 + (requestFieldsOf c).length := by
  simp only [encodeRequest, List.length_append, length_encShort, length_encCode]

/-- The kind comes behind the tag. -/
theorem kind_encodeRequest (tag : Nat) {c : Instr} (hk : requestKindOf c < 256) :
    fieldNat (encodeRequest tag c) 2 1 = requestKindOf c := by
  simp only [encodeRequest, List.append_assoc, fieldNat]
  rw [field_skip (length_encShort tag).le, length_encShort, field_first (length_encCode _), beNat_encCode hk]

/-- A payload of the length of its kind is decoded by its kind. -/
theorem decodeRequest_encodeRequest (tag : Nat) {c : Instr} (hk : requestKindOf c < 256)
    (hl : requestLength (requestKindOf c) = some (3 + (requestFieldsOf c).length)) :
    decodeRequest (encodeRequest tag c) = decodeKnown (requestKindOf c) (encodeRequest tag c) := by
  rw [decodeRequest, kind_encodeRequest tag hk, length_encodeRequest, if_pos hl]

theorem signed_iff {z : Int} : WellFormed.signed z = true ↔ -2147483648 ≤ z ∧ z < 2147483648 := by
  simp [WellFormed.signed]



theorem code_iff {n : Nat} : WellFormed.code n = true ↔ n < 256 := by simp [WellFormed.code]
theorem short_iff {n : Nat} : WellFormed.short n = true ↔ n < 65536 := by simp [WellFormed.short]
theorem word_iff {n : Nat} : WellFormed.word n = true ↔ n < 4294967296 := by simp [WellFormed.word]

theorem toList_all (v : Vector Nat 6) (p : Nat → Bool) :
    v.toList.all p = true ↔ p v[0] = true ∧ p v[1] = true ∧ p v[2] = true ∧ p v[3] = true ∧ p v[4] = true ∧ p v[5] = true := by
  have : v.toList = [v[0], v[1], v[2], v[3], v[4], v[5]] := by
    apply List.ext_getElem <;> simp
    intro i hi
    interval_cases i <;> rfl
  simp [this]

/-! ### The groups of fields (R168) -/


/-- The fields of a group that begins behind the first part of a payload are those of the rest. -/
theorem decGeometry_skip {a b : List Byte} {o : Nat} (h : a.length ≤ o) :
    decGeometry (a ++ b) o = decGeometry b (o - a.length) := by
  have shift (n : Nat) : o + n - a.length = o - a.length + n := Nat.sub_add_comm h
  simp [decGeometry, fieldNat, fieldSigned, field_skip, Nat.le_add_right_of_le h, h, shift]

theorem decTolerance_skip {a b : List Byte} {o : Nat} (h : a.length ≤ o) :
    decTolerance (a ++ b) o = decTolerance b (o - a.length) := by
  have shift (n : Nat) : o + n - a.length = o - a.length + n := Nat.sub_add_comm h
  simp [decTolerance, fieldNat, fieldSigned, field_skip, Nat.le_add_right_of_le h, h, shift]

theorem decHeader_skip {a b : List Byte} {o : Nat} (h : a.length ≤ o) :
    decHeader (a ++ b) o = decHeader b (o - a.length) := by
  have shift (n : Nat) : o + n - a.length = o - a.length + n := Nat.sub_add_comm h
  simp [decHeader, fieldNat, field_skip, Nat.le_add_right_of_le h, h, shift]

theorem decParams_skip {a b : List Byte} {o : Nat} (h : a.length ≤ o) :
    decParams (a ++ b) o = decParams b (o - a.length) := by
  have shift (n : Nat) : o + n - a.length = o - a.length + n := Nat.sub_add_comm h
  simp [decParams, fieldNat, field_skip, Nat.le_add_right_of_le h, h, shift]

theorem decGeometry_encGeometry {g : Geometry} (h : WellFormed.geometry g = true) (rest : List Byte) :
    decGeometry (encGeometry g ++ rest) 0 = g := by
  simp only [WellFormed.geometry, Bool.and_eq_true, code_iff, short_iff, signed_iff] at h
  simp [decGeometry, encGeometry, fieldNat, fieldSigned, field_skip, field_first, beNat_encCode, beNat_encShort,
    beSigned_encSigned, h]

theorem decTolerance_encTolerance {t : Tolerance} (h : WellFormed.tolerance t = true) : decTolerance (encTolerance t) 0 = t := by
  simp only [WellFormed.tolerance, Bool.and_eq_true, code_iff, signed_iff] at h
  simp [decTolerance, encTolerance, fieldNat, fieldSigned, field_skip, field_first, field_whole, beNat_encCode,
    beSigned_encSigned, h]

theorem decHeader_encHeader {b : BankHeader} (h : WellFormed.header b = true) : decHeader (encHeader b) 0 = b := by
  simp only [WellFormed.header, Bool.and_eq_true, code_iff, word_iff, toList_all, short_iff] at h
  simp [decHeader, encHeader, flatMap_toList, fieldNat, field_skip, field_first, field_whole, beNat_encCode, beNat_encShort,
    beNat_encWord, vector_eta, h]

theorem decParams_encParams {p : StrandParams} (h : WellFormed.strandParams p = true) : decParams (encParams p) 0 = p := by
  simp only [WellFormed.strandParams, Bool.and_eq_true, code_iff, short_iff, word_iff] at h
  simp [decParams, encParams, fieldNat, field_skip, field_first, field_whole, beNat_encCode, beNat_encShort, beNat_encWord, h]

@[simp] theorem length_encGeometry (g : Geometry) : (encGeometry g).length = 25 := by simp [encGeometry]
@[simp] theorem length_encTolerance (t : Tolerance) : (encTolerance t).length = 10 := by simp [encTolerance]
@[simp] theorem length_encHeader (h : BankHeader) : (encHeader h).length = 31 := by simp [encHeader, flatMap_toList]
@[simp] theorem length_encParams (p : StrandParams) : (encParams p).length = 21 := by simp [encParams]

/-! ### The requests -/

/-- The payload of a request has the length of its kind (R168). -/
theorem requestLength_encodeRequest {c : Instr} (h : c.isRequest = true) (known : ∀ k, c ≠ .unknownRequest k) :
    requestLength (requestKindOf c) = some (3 + (requestFieldsOf c).length) := by
  cases c
  case unknownRequest k => exact absurd rfl (known k)
  all_goals simp_all [Instr.isRequest, requestKindOf, requestLength, requestFieldsOf, flatMap_toList, encTravelConfig]

theorem requestLength_ne (k : Nat) : requestLength k ≠ some 47 := by
  unfold requestLength
  split <;> simp

theorem decodeKnown_encodeRequest (tag : Nat) {c : Instr} (h : c.isRequest = true) (wf : c.wellFormed = true)
    (known : ∀ k, c ≠ .unknownRequest k) : decodeKnown (requestKindOf c) (encodeRequest tag c) = c := by
  cases c
  case unknownRequest k => exact absurd rfl (known k)
  case entryWriteGeometry s b e g n f =>
    simp only [Instr.wellFormed, Bool.and_eq_true, code_iff, word_iff, bne_iff_ne] at wf
    obtain ⟨⟨⟨⟨⟨⟨hs, hb⟩, he⟩, hg⟩, other⟩, hn⟩, hf⟩ := wf
    simp [decodeKnown, requestKindOf, encodeRequest, requestFieldsOf, fieldNat, field_skip, field_first,
      beNat_encCode, beNat_encWord, decGeometry_skip, decGeometry_encGeometry, hs, hb, he, hg, other, hn, hf]
  case entryWriteTolerance s b e n f =>
    simp only [Instr.wellFormed, Bool.and_eq_true, code_iff, word_iff] at wf
    obtain ⟨⟨⟨⟨hs, hb⟩, he⟩, hn⟩, hf⟩ := wf
    simp [-List.reduceReplicate, decodeKnown, requestKindOf, encodeRequest, requestFieldsOf, fieldNat, field_skip, field_first,
      beNat_encCode, beNat_encWord, decTolerance_skip, decTolerance_encTolerance, hs, hb, he, hn, hf]
  case bankParamWrite s b n f =>
    simp only [Instr.wellFormed, Bool.and_eq_true, code_iff, word_iff] at wf
    obtain ⟨⟨⟨hs, hb⟩, hn⟩, hf⟩ := wf
    simp [decodeKnown, requestKindOf, encodeRequest, requestFieldsOf, fieldNat, field_skip, field_first,
      beNat_encCode, beNat_encWord, decHeader_skip, decHeader_encHeader, hs, hb, hn, hf]
  case strandConfigWrite s slots p =>
    simp only [Instr.wellFormed, Bool.and_eq_true, toList_all, code_iff] at wf
    obtain ⟨⟨hs, hslots⟩, hp⟩ := wf
    simp [decodeKnown, requestKindOf, encodeRequest, requestFieldsOf, fieldNat, flatMap_toList, field_skip, field_first,
      beNat_encCode, decParams_skip, decParams_encParams, vector_eta, hs, hslots, hp]
  case travelConfigWrite t =>
    simp only [Instr.wellFormed, WellFormed.travelConfig, Bool.and_eq_true, short_iff] at wf
    simp [decodeKnown, requestKindOf, encodeRequest, requestFieldsOf, encTravelConfig, fieldNat, field_skip, field_first,
      field_whole, beNat_encShort, wf]
  all_goals
    simp_all [Instr.isRequest, Instr.wellFormed, code_iff, short_iff, word_iff, signed_iff, decodeKnown, requestKindOf, encodeRequest,
      requestFieldsOf, fieldNat, fieldSigned, field_skip, field_first, field_whole, beNat_encCode, beNat_encShort, beNat_encWord,
      beSigned_encSigned]

theorem requestKindOf_lt {c : Instr} (wf : c.wellFormed = true) : requestKindOf c < 256 := by
  cases c
  case unknownRequest k => exact code_iff.mp wf
  all_goals simp [requestKindOf]

/-- Settles O10: the length of the payload selects the layout of its kind, and each field is read where it was laid. -/
theorem requestDecodesBack : Obligations.RequestDecodesBack := by
  intro tag c htag wf request
  refine ⟨?_, requestTag_encodeRequest c htag⟩
  by_cases known : ∀ k, c ≠ .unknownRequest k
  · rw [decodeRequest_encodeRequest tag (requestKindOf_lt wf) (requestLength_encodeRequest request known),
      decodeKnown_encodeRequest tag request wf known]
  · obtain ⟨k, rfl⟩ := not_forall_not.mp known
    have kind : fieldNat (encodeRequest tag (.unknownRequest k)) 2 1 = k := kind_encodeRequest tag (requestKindOf_lt wf)
    have length : (encodeRequest tag (.unknownRequest k)).length = 47 := length_encodeRequest tag _
    rw [decodeRequest, kind, length, if_neg (requestLength_ne k)]

end Sys2Proof.Machine
end

section
/-! Proofs: what a raised notice does (R15, R163), and the requests that write the banks (R83 to R89, R98). -/

namespace Sys2Proof.Machine

/-! ### A raised notice -/

/-- With at least 4 entries free, a notice enters the Line Port. -/
theorem State.raise_of_room {s : State} (n : Notice) (h : s.linePort.own.length ≤ 28) :
    s.raise n = s.takeNoticeNumber.enqueueRecord (.notice s.handler.noticeTarget s.handler.noticeSeq n) :=
  if_pos (show s.linePort.own.length + 3 < 32 by omega)

/-- With fewer, it is dropped. -/
theorem State.raise_of_full {s : State} (n : Notice) (h : 29 ≤ s.linePort.own.length) :
    s.raise n = { s.takeNoticeNumber with linePort.noticeDrop := inc s.linePort.noticeDrop } :=
  if_neg (show ¬s.linePort.own.length + 3 < 32 by omega)

theorem State.raise_handler (s : State) (n : Notice) : (s.raise n).handler = s.takeNoticeNumber.handler := by
  rcases Nat.lt_or_ge 28 s.linePort.own.length with full | room
  · rw [State.raise_of_full n full]
  · simp [State.raise_of_room n room]

/-- Settles O20: the notice takes its number first; then the free entries decide. -/
theorem noticeRaised : Obligations.NoticeRaised := by
  intro s n
  refine ⟨s.raise_handler n, fun room => ?_, fun full => by rw [State.raise_of_full n full]; rfl, by simp [SameRest]⟩
  have entered := s.takeNoticeNumber.enqueueRecord_entered (.notice s.handler.noticeTarget s.handler.noticeSeq n)
  refine ⟨?_, ?_, ?_, by simp [SameLine, s.raise_lineGrows n]⟩
  · rw [State.raise_of_room n room]
    exact entered.of_same rfl rfl
  · simp [State.raise_of_room n room]
  · simp [State.raise_of_room n room, State.takeNoticeNumber]

/-! ### Bank writes -/

theorem State.modStrand_id (s : State) (i : Fin 4) : (s.modStrand i fun st => st) = s := by
  have same : s.strands.set i.val (s.strand i) = s.strands := Vector.set_getElem_self i.isLt
  exact congrArg (fun v => { s with strands := v }) same

/-- What a refused bank write does to its strand (R98). -/
theorem State.refuseWrite_eq (s : State) (i : Fin 4) (status : Status) :
    s.refuseWrite i status = (s.modStrand i fun st => { st with tplCounters := { st.tplCounters with
      bankWritesRefused := if status.countsAsRefusedWrite then inc st.tplCounters.bankWritesRefused
        else st.tplCounters.bankWritesRefused } }, { status := status }) := by
  cases counts : status.countsAsRefusedWrite
  · simp [State.refuseWrite, counts, s.modStrand_id i]
  · simp [State.refuseWrite, counts]

/-- The bank write that a command asks for: the bank, the expected generation, the change, and the classes that may send it. -/
inductive WriteOf (s : State) (r : Request) : Instr → Fin 4 → BankId → Nat → (Bank → Bank) → Bool → Prop
  | geometry {i : Fin 4} {id : BankId} {n : Nat} (e : Fin 64) {f : Geometry} (slot : f.slot ≤ 5)
      (cls : r.sourceClass = .engineering) :
      WriteOf s r (.entryWriteGeometry i id.code e 0 n f) i id n (fun x => x.writeGeometry e (clampGeometry f))
        (clampGeometry f ≠ f)
  | tolerance {i : Fin 4} {id : BankId} {n : Nat} (e : Fin 64) (f : Tolerance) (cls : r.sourceClass ≠ .none) :
      WriteOf s r (.entryWriteTolerance i id.code e n f) i id n
        (fun x => x.writeTolerance e (clampToleranceFor r.sourceClass (((s.strand i).bank id).entries[e]).geo f))
        (clampToleranceFor r.sourceClass (((s.strand i).bank id).entries[e]).geo f ≠ f)
  | params {i : Fin 4} {id : BankId} {n : Nat} (x : BankHeader) (cls : r.sourceClass = .engineering) :
      WriteOf s r (.bankParamWrite i id.code n x) i id n (fun b => { b with header := clampHeader x }) (clampHeader x ≠ x)
  | copy (i : Fin 4) (n : Nat) (cls : r.sourceClass = .engineering) :
      WriteOf s r (.bankCopy i n) i (s.strand i).active.other n (fun _ => (s.strand i).activeBank) false

/-- A bank write is carried out by `State.bankWrite`. -/
theorem WriteOf.carriedOut {s : State} {r : Request} {c : Instr} {i : Fin 4} {id : BankId} {n : Nat} {f : Bank → Bank}
    {clamped : Bool} (w : WriteOf s r c i id n f clamped) :
    r.sourceClass ≠ .none ∧ ∃ act, exec c s = .next (s.carryOut c act) ∧ act r s = s.bankWrite i id n f clamped := by
  cases w with
  | geometry e slot cls =>
    exact ⟨by simp [cls], _, rfl, by simp [cls, slot]⟩
  | tolerance e x cls => exact ⟨cls, _, rfl, by simp⟩
  | params x cls => exact ⟨by simp [cls], _, rfl, by simp [cls]⟩
  | copy i n cls => exact ⟨by simp [cls], _, rfl, by simp [cls]⟩

/-- A bank write that is refused with a status changes one counter of the strand, if the status is one that is counted. -/
theorem WriteOf.refused {s : State} {r : Request} {c : Instr} {i : Fin 4} {id : BankId} {n : Nat} {f : Bank → Bank}
    {clamped : Bool} (w : WriteOf s r c i id n f clamped) (serves : Serves s r c) {status : Status}
    (h : s.bankWrite i id n f clamped = s.refuseWrite i status) :
    ∃ t, exec c s = .next t ∧ CarriedOutQuietly s t r { status := status } ∧ t.headPort = s.headPort ∧ t.heads = s.heads ∧
      t.travel = s.travel ∧ t.routes = s.routes ∧ OtherStrands s t i ∧
      t.strand i = { s.strand i with tplCounters := { (s.strand i).tplCounters with
        bankWritesRefused := if status.countsAsRefusedWrite then inc (s.strand i).tplCounters.bankWritesRefused
          else (s.strand i).tplCounters.bankWritesRefused } } := by
  obtain ⟨cls, act, run, acted⟩ := w.carriedOut
  exact ⟨_, run, State.carryOut_modStrand { status := status } i _ serves cls
    (acted.trans (h.trans (s.refuseWrite_eq i status)))⟩

/-- A bank write that is accepted writes its bank and nothing else. -/
theorem WriteOf.accepted {s : State} {r : Request} {c : Instr} {i : Fin 4} {id : BankId} {n : Nat} {f : Bank → Bank}
    {clamped : Bool} (w : WriteOf s r c i id n f clamped) (serves : Serves s r c) (standby : (s.strand i).role id = .standby)
    (generation : ((s.strand i).bank id).generation = n) (below : n < 4294967295) :
    ∃ t, exec c s = .next t ∧ CarriedOutQuietly s t r { status := if clamped then .acceptedClamped else .accepted } ∧
      t.headPort = s.headPort ∧ t.heads = s.heads ∧ t.travel = s.travel ∧ t.routes = s.routes ∧ OtherStrands s t i ∧
      t.strand i = { (s.strand i).setBank id { f ((s.strand i).bank id) with generation := n + 1 } with
        tplCounters.bankWrites := inc (s.strand i).tplCounters.bankWrites } := by
  obtain ⟨cls, act, run, acted⟩ := w.carriedOut
  obtain ⟨-, -, writes⟩ := s.bankWrite_spec i id n f clamped
  obtain ⟨-, -, written⟩ := writes standby
  have result := State.carryOut_modStrand (writtenAnswer clamped) i (fun st => st.writeBank id f) serves cls
    (acted.trans (written generation below))
  simp only [Strand.writeBank, generation] at result
  exact ⟨_, run, result⟩

/-- Settles O46: the role is judged first, then the generation. -/
theorem bankWriteRefused : Obligations.BankWriteRefused := by
  intro s r c i id n serves cls form
  have write : ∃ f clamped, WriteOf s r c i id n f clamped := by
    rcases form with ⟨e, f, slot, rfl⟩ | ⟨e, f, rfl⟩ | ⟨x, rfl⟩ | ⟨rfl, rfl⟩
    · exact ⟨_, _, .geometry e slot (cls.resolve_right (by simp))⟩
    · exact ⟨_, _, .tolerance e f (by rcases cls with h | ⟨h, -⟩ <;> simp [h])⟩
    · exact ⟨_, _, .params x (cls.resolve_right (by simp))⟩
    · exact ⟨_, _, .copy i n (cls.resolve_right (by simp))⟩
  obtain ⟨f, clamped, w⟩ := write
  obtain ⟨active, pending, standby⟩ := s.bankWrite_spec i id n f clamped
  refine ⟨fun role => w.refused serves (active role), fun role => w.refused serves (pending role), fun role => ?_⟩
  obtain ⟨stale, greatest, -⟩ := standby role
  exact ⟨fun differs => w.refused serves (stale differs), fun same top => w.refused serves (greatest same top)⟩

/-! ### Clamping -/

theorem clampNat_eq_near {lo hi : Nat} (n : Nat) (h : lo ≤ hi) :
    clampNat lo hi n = if n < lo then lo else if hi < n then hi else n := by
  unfold clampNat
  split <;> [skip; split] <;> omega

theorem clampInt_eq_near {lo hi : Int} (z : Int) (h : lo ≤ hi) :
    clampInt lo hi z = if z < lo then lo else if hi < z then hi else z := by
  unfold clampInt
  split <;> [skip; split] <;> omega

theorem clampHeader_widths (x : BankHeader) (k : Fin 6) : (clampHeader x).widths[k] = clampNat 64 512 x.widths[k] := by
  simp [clampHeader, mapTable]

theorem clampToleranceFor_eq (c : SourceClass) (g : Geometry) (f : Tolerance) :
    clampToleranceFor c g f = if c = .operator then
        { clampTolerance f with
          lower := clampInt g.floor 0 (clampTolerance f).lower, upper := clampInt 0 g.ceiling (clampTolerance f).upper }
      else clampTolerance f := by
  cases c <;> rfl

/-- Settles O47: each kind of write is the change of its part, and the clamps take the nearer end. -/
theorem bankWriteAccepted : Obligations.BankWriteAccepted := by
  refine ⟨⟨fun lo hi n h => clampNat_eq_near n h, fun lo hi z h => clampInt_eq_near z h, fun f => ?_, fun f => ?_,
    fun x => ⟨fun k => ?_, ?_⟩⟩, ?_⟩
  · simp [clampGeometry, clampNat_eq_near, clampInt_eq_near]
  · simp [clampTolerance, clampNat_eq_near, clampInt_eq_near]
  · rw [clampHeader_widths, clampNat_eq_near _ (by decide)]
  · simp [clampHeader, clampNat_eq_near]
  · intro s r i id n standby generation below
    refine ⟨fun e f serves cls slot => ?_, fun e f serves cls => ?_, fun x serves cls => ?_, fun serves cls => ?_⟩
    · exact (WriteOf.geometry e slot cls).accepted serves standby generation below
    · have write := WriteOf.tolerance (s := s) (i := i) (id := id) (n := n) e f cls
      rw [clampToleranceFor_eq] at write
      exact write.accepted serves standby generation below
    · exact (WriteOf.params x cls).accepted serves standby generation below
    · have target : id = (s.strand i).active.other := by
        have other : id ≠ (s.strand i).active := by
          rintro rfl
          simp [Strand.role] at standby
        cases id <;> cases h : (s.strand i).active <;> simp_all [BankId.other]
      subst target
      exact (WriteOf.copy i n cls).accepted serves standby generation below

end Sys2Proof.Machine
end

section
/-! Proofs: bank switches (R92, R93) and the writes of the configuration, the calibration and the tables (R22, R51, R161). -/

namespace Sys2Proof.Machine

/-! ### Switching -/

/-- The mismatch flag of each head of the strand is re-evaluated, and the other heads stay (R31). -/
theorem State.reevaluateStrand_head (s : State) (i : Fin 4) (h : Fin 16) :
    (s.reevaluateStrand i).head h =
      if (s.head h).assignedTo i then { s.head h with mismatch := s.mismatchOf (s.head h) } else s.head h := by
  simp only [State.reevaluateStrand, State.head, Fin.getElem_fin, mapTable_getElem]
  rfl

/-- A head's record after the mismatch flags of a strand's heads were re-evaluated, by the head's assignment. -/
theorem State.mismatch_of_assignedTo (s : State) (i : Fin 4) (r : HeadRecord) :
    (if r.assignedTo i then { r with mismatch := s.mismatchOf r } else r) = { r with
      mismatch := match r.assignment, r.announced with
        | some (j, k), some a => if j = i then a.width != (s.strand i).activeBank.header.widths[k] else r.mismatch
        | some (j, _), none => if j = i then false else r.mismatch
        | none, _ => r.mismatch } := by
  obtain ⟨state, cause, assignment, announced, offset, delay, timeout, errors, misses, mismatch, deadline, counters⟩ := r
  rcases assignment with - | ⟨j, k⟩
  · rfl
  · by_cases own : j = i
    · subst own
      cases announced <;> simp [HeadRecord.assignedTo, State.mismatchOf]
    · cases announced <;> simp [HeadRecord.assignedTo, own]

theorem State.switchBanks_same (s : State) (i : Fin 4) : (s.switchBanks i).strand i = (s.strand i).exchangeBanks := by
  simp only [State.switchBanks, State.reevaluateStrand_strand, State.strand_modStrand_same]

theorem Strand.exchangeBanks_activeBank (st : Strand) : st.exchangeBanks.activeBank = st.bank st.active.other := rfl

theorem State.switchBanks_head (s : State) (i : Fin 4) (h : Fin 16) :
    (s.switchBanks i).head h = { s.head h with
      mismatch := match (s.head h).assignment, (s.head h).announced with
        | some (j, k), some a =>
          if j = i then a.width != ((s.strand i).bank (s.strand i).active.other).header.widths[k] else (s.head h).mismatch
        | some (j, _), none => if j = i then false else (s.head h).mismatch
        | none, _ => (s.head h).mismatch } := by
  rw [State.switchBanks, State.reevaluateStrand_head, State.mismatch_of_assignedTo]
  simp only [State.modStrand_head, State.strand_modStrand_same, Strand.exchangeBanks_activeBank]

section
variable {s : State} {i : Fin 4}

theorem State.requestSwitch_of_pending (h : (s.strand i).pendingSwitch ≠ none) :
    s.requestSwitch i = (s, { status := .pending }) := by
  simp [State.requestSwitch, refusal, Option.isSome_iff_ne_none.mpr h]

theorem State.requestSwitch_of_draining (h : (s.strand i).pendingSwitch = none) (hd : (s.strand i).state = .draining) :
    s.requestSwitch i = (s, { status := .wrongState }) := by
  simp [State.requestSwitch, refusal, h, hd]

theorem State.requestSwitch_of_invalid {n : Nat} {reason : InvalidReason} (h : (s.strand i).pendingSwitch = none)
    (hd : (s.strand i).state ≠ .draining)
    (hv : (s.strand i).validate ((s.strand i).bank (s.strand i).active.other) = some (n, reason)) :
    s.requestSwitch i = (s, invalidAnswer n reason) := by
  simp [State.requestSwitch, h, hd, hv]

theorem State.requestSwitch_of_valid (h : (s.strand i).pendingSwitch = none) (hd : (s.strand i).state ≠ .draining)
    (hv : (s.strand i).validate ((s.strand i).bank (s.strand i).active.other) = none) :
    s.requestSwitch i = (s.acceptSwitch i, { status := .accepted }) := by
  simp [State.requestSwitch, h, hd, hv]

theorem State.acceptSwitch_of_running (h : (s.strand i).state = .running ∨ (s.strand i).state = .stalled) :
    s.acceptSwitch i = s.modStrand i fun st =>
      { st with pendingSwitch := some { target := st.active.other, switchLength := none } } := by
  rcases h with h | h <;> simp only [State.acceptSwitch, h]

theorem State.acceptSwitch_of_not_running (h : (s.strand i).state = .idle ∨ (s.strand i).state = .armed ∨
    (s.strand i).state = .closed) : s.acceptSwitch i = s.switchBanks i := by
  rcases h with h | h | h <;> simp only [State.acceptSwitch, h]

/-- An accepted switch changes its strand and the heads. -/
theorem State.acceptSwitch_frame (s : State) (i : Fin 4) :
    (s.acceptSwitch i).handler = s.handler ∧ (s.acceptSwitch i).linePort = s.linePort ∧ SameRest s (s.acceptSwitch i) ∧
      (s.acceptSwitch i).headPort = s.headPort ∧ (s.acceptSwitch i).travel = s.travel ∧
      (s.acceptSwitch i).routes = s.routes ∧ ∀ j, j ≠ i → (s.acceptSwitch i).strand j = s.strand j := by
  unfold State.acceptSwitch
  split <;> refine ⟨by simp, by simp, by simp [SameRest], by simp, by simp, by simp, fun j hj => by simp [hj]⟩

end

theorem exec_bankSwitch {s : State} {r : Request} {i : Fin 4} (serves : Serves s r (.bankSwitch i 0))
    (cls : r.sourceClass = .engineering) :
    exec (.bankSwitch i 0) s = .next ((s.requestSwitch i).1.finish r (s.requestSwitch i).2) :=
  congrArg Host.Outcome.next (State.carryOut_engineering serves cls (by simp))

/-- Settles O48: the refusals in their order, and else the switch that the strand's state calls for. -/
theorem bankSwitchJudged : Obligations.BankSwitchJudged := by
  intro s r i serves cls st
  have answered {a : Answer} (h : s.requestSwitch i = (s, a)) :
      OnlyAnswered s ((s.requestSwitch i).1.finish r (s.requestSwitch i).2) r a := by
    rw [h]
    exact s.finish_onlyAnswered r a serves.1
  refine ⟨_, exec_bankSwitch serves cls, fun pending => answered (State.requestSwitch_of_pending pending),
    fun free => ⟨fun draining => answered (State.requestSwitch_of_draining free draining), fun running =>
      ⟨fun n reason fails => answered (State.requestSwitch_of_invalid free running fails), fun passes => ?_⟩⟩⟩
  obtain ⟨handler, linePort, rest, headPort, travel, routes, others⟩ := s.acceptSwitch_frame i
  rw [State.requestSwitch_of_valid free running passes]
  refine ⟨⟨State.finish_quietly r _ serves.1 handler linePort rest, by simp [headPort], by simp [travel], by simp [routes],
    fun j hj => by simp [others j hj]⟩, fun moving => ?_, fun still => ⟨?_, fun h => ?_⟩⟩
  · simp [State.acceptSwitch_of_running moving, st]
  · simp [State.acceptSwitch_of_not_running still, State.switchBanks_same, Strand.exchangeBanks, Strand.unseedAll, st,
      show (s.strand i).pendingSwitch = none from free]
  · simp only [State.finish_head, State.acceptSwitch_of_not_running still]
    exact s.switchBanks_head i h

/-! ### The configuration of a strand -/

/-- A slot byte that names a head or the empty slot. -/
theorem slotOfByte_of_names {o : Option (Fin 16)} {n : Nat} (h : (o = none ∧ n = 255) ∨ ∃ k : Fin 16, o = some k ∧ n = k) :
    slotOfByte n = some o := by
  rcases h with ⟨rfl, rfl⟩ | ⟨k, rfl, rfl⟩
  · rfl
  · have : (k : Nat) ≠ 255 := by omega
    simp [slotOfByte, this]

theorem slotsOfBytes_of_names {bytes : Vector Nat 6} {slots : Vector (Option (Fin 16)) 6}
    (h : ∀ k : Fin 6, (slots[k] = none ∧ bytes[k] = 255) ∨ ∃ x : Fin 16, slots[k] = some x ∧ bytes[k] = x) :
    slotsOfBytes bytes = some slots := by
  have named (k : Fin 6) : slotOfByte bytes[k] = some slots[k] := slotOfByte_of_names (h k)
  simp only [slotsOfBytes, show slotOfByte bytes[0] = _ from named 0, show slotOfByte bytes[1] = _ from named 1,
    show slotOfByte bytes[2] = _ from named 2, show slotOfByte bytes[3] = _ from named 3,
    show slotOfByte bytes[4] = _ from named 4, show slotOfByte bytes[5] = _ from named 5]
  exact congrArg some (vector_eta slots)

theorem slotNaming_isSome {slots : Vector (Option (Fin 16)) 6} {h : Fin 16} :
    (slotNaming slots h).isSome = true ↔ ∃ u : Fin 6, slots[u] = some h := by
  rw [← Option.ne_none_iff_isSome, ne_eq, slotNaming_eq_none, not_forall_not]

/-- The slot holds a head that is named at two slots (R51). -/
theorem slotTaken_iff {s : State} {i : Fin 4} {slots : Vector (Option (Fin 16)) 6} {k : Fin 6} :
    s.slotTaken i slots k = true ↔ ∃ h : Fin 16, slots[k] = some h ∧
      ((∃ u : Fin 6, u ≠ k ∧ slots[u] = some h) ∨ ∃ (j : Fin 4) (u : Fin 6), j ≠ i ∧ (s.strand j).slots[u] = some h) := by
  unfold State.slotTaken
  cases hk : slots[k] with
  | none => simp
  | some h =>
    simp only [State.namedElsewhere, Bool.or_eq_true, List.any_eq_true, Bool.and_eq_true, decide_eq_true_eq, slotNaming_isSome,
      mem_allSlots, mem_allStrands, true_and, Option.some.injEq, exists_eq_left', exists_and_left]

/-- The first slot that a test finds. -/
theorem find_allSlots {p : Fin 6 → Bool} {k : Fin 6} (hk : p k = true) (before : ∀ u, u < k → p u = false) :
    allSlots.find? p = some k := by
  have split : allSlots = allSlots.take k ++ k :: allSlots.drop (k + 1) :=
    (by decide : ∀ k : Fin 6, allSlots = allSlots.take k ++ k :: allSlots.drop (k + 1)) k
  have below : ∀ u ∈ allSlots.take k, u < k := (by decide : ∀ k : Fin 6, ∀ u ∈ allSlots.take k, u < k) k
  exact List.find?_eq_some_iff_append.mpr ⟨hk, _, _, split, fun u hu => by simp [before u (below u hu)]⟩

/-- Where no slot is taken, each slot of the request is the one at which its head is named. -/
theorem slotNaming_of_free {s : State} {i : Fin 4} {slots : Vector (Option (Fin 16)) 6}
    (free : ∀ t, s.slotTaken i slots t = false) {k : Fin 6} {h : Fin 16} (hk : slots[k] = some h) :
    slotNaming slots h = some k := by
  cases hn : slotNaming slots h with
  | none => exact absurd hk (slotNaming_eq_none.mp hn k)
  | some u => rw [(slotTaken_eq_false hk (free k)).1 u (slotNaming_eq_some hn)]

section
variable {s : State} {i : Fin 4} {slots : Vector (Option (Fin 16)) 6} {p : StrandParams} {h : Fin 16}

/-- A head named at neither configuration stays. -/
theorem State.configure_head_of_unnamed (new : ∀ u : Fin 6, slots[u] ≠ some h)
    (old : ∀ u : Fin 6, (s.strand i).slots[u] ≠ some h) : (s.configure i slots p).head h = s.head h := by
  rw [State.configure_head]
  simp [State.assignedRecord, newAssignment, slotNaming_eq_none.mpr new, slotNaming_eq_none.mpr old]

/-- A head named at a new slot takes it, and a change re-evaluates its mismatch flag. -/
theorem State.configure_head_of_named {k : Fin 6} (named : slotNaming slots h = some k) :
    (s.configure i slots p).head h = { s.head h with
      assignment := some (i, k),
      mismatch := if (s.head h).assignment = some (i, k) then (s.head h).mismatch
        else match (s.head h).announced with
          | some a => a.width != (s.strand i).activeBank.header.widths[k]
          | none => false } := by
  rw [State.configure_head]
  generalize s.head h = r
  simp only [State.assignedRecord, newAssignment, named]
  by_cases same : r.assignment = some (i, k)
  · simp [← same]
  · rw [if_neg (Ne.symm same), if_neg same]
    cases announced : r.announced <;> simp [State.mismatchOf, Strand.activeBank, Strand.bank]

/-- A head that the old configuration alone names loses its assignment. -/
theorem State.configure_head_of_dropped (new : ∀ u : Fin 6, slots[u] ≠ some h) (old : ∃ u : Fin 6, (s.strand i).slots[u] = some h) :
    (s.configure i slots p).head h = { s.head h with
      assignment := none, mismatch := if (s.head h).assignment = none then (s.head h).mismatch else false } := by
  rw [State.configure_head]
  generalize s.head h = r
  simp only [State.assignedRecord, newAssignment, slotNaming_eq_none.mpr new, slotNaming_isSome.mpr old, if_true]
  by_cases same : r.assignment = none
  · simp [← same]
  · rw [if_neg (Ne.symm same), if_neg same]
    simp [State.mismatchOf]

/-- A configuration changes only a head's assignment and its mismatch flag. -/
theorem State.configure_head_keeps : ((s.configure i slots p).head h).state = (s.head h).state ∧
    ((s.configure i slots p).head h).misses = (s.head h).misses ∧
    ((s.configure i slots p).head h).checkErrors = (s.head h).checkErrors ∧
    ((s.configure i slots p).head h).counters = (s.head h).counters := by
  rw [State.configure_head]
  simp only [State.assignedRecord]
  split <;> exact ⟨rfl, rfl, rfl, rfl⟩

end

theorem exec_strandConfigWrite {s : State} {r : Request} {i : Fin 4} {bytes : Vector Nat 6} {p : StrandParams}
    {slots : Vector (Option (Fin 16)) 6} (serves : Serves s r (.strandConfigWrite i bytes p))
    (cls : r.sourceClass = .engineering) (names : slotsOfBytes bytes = some slots) :
    exec (.strandConfigWrite i bytes p) s = .next ((s.writeConfig i slots p).1.finish r (s.writeConfig i slots p).2) :=
  congrArg Host.Outcome.next (State.carryOut_engineering serves cls (by simp [names]))

/-- Settles O50: the first taken slot refuses; else each head's record follows from where the two configurations name it. -/
theorem strandConfigured : Obligations.StrandConfigured := by
  refine ⟨fun p => by simp [clampParams, clampNat_eq_near], ?_⟩
  intro s r i bytes p slots serves cls names taken
  have answered {a : Answer} (h : s.writeConfig i slots p = (s, a)) :
      OnlyAnswered s ((s.writeConfig i slots p).1.finish r (s.writeConfig i slots p).2) r a := by
    rw [h]
    exact s.finish_onlyAnswered r a serves.1
  refine ⟨_, exec_strandConfigWrite serves cls (slotsOfBytes_of_names names),
    fun busy => answered (if_pos busy), fun idle => ⟨fun k hk before => answered ?_, fun free => ?_⟩⟩
  · have found : allSlots.find? (s.slotTaken i slots) = some k :=
      find_allSlots (slotTaken_iff.mpr hk) fun u hu => by
        simpa using fun h => before u hu (slotTaken_iff.mp h)
    simp [State.writeConfig, idle, found, invalidAnswer]
  · have untaken (k : Fin 6) : s.slotTaken i slots k = false := by
      simpa using fun h => free k (slotTaken_iff.mp h)
    have none_found : allSlots.find? (s.slotTaken i slots) = none := by
      simp [List.find?_eq_none, untaken]
    have written : s.writeConfig i slots p = (s.configure i slots (clampParams p), writtenAnswer (clampParams p ≠ p)) := by
      simp [State.writeConfig, idle, none_found]
    rw [written, writtenAnswer_decide]
    refine ⟨State.finish_quietly r _ serves.1 (by simp) (by simp) (by simp [SameRest]), ?_, fun j hj => ?_, by simp, by simp,
      by simp, fun h => ?_⟩
    · simp [State.configure_strand]
    · simp [State.configure_strand, hj]
    · rw [State.finish_head]
      refine ⟨State.configure_head_of_unnamed, fun k hk => ?_, fun new old => ?_, fun k hk => ?_,
        State.configure_head_of_dropped, State.configure_head_keeps⟩
      · rw [State.configure_head_of_named (slotNaming_of_free untaken hk)]
      · rw [State.configure_head_of_dropped new old]
        exact ⟨rfl, rfl⟩
      · exact State.configure_head_of_named (slotNaming_of_free untaken hk)

/-! ### The calibration and the tables -/

/-- The answer tells whether each of the three values was kept. -/
theorem calibration_answer (offset : Int) (delay timeout : Nat) :
    writtenAnswer (!calibrationFits offset delay timeout) = { status :=
      if (clampInt (-1000000) 1000000 offset = offset ∧ clampNat 0 255 delay = delay ∧ clampNat 1 1000 timeout = timeout) then
        .accepted
      else .acceptedClamped } := by
  have fits : calibrationFits offset delay timeout = true ↔ clampInt (-1000000) 1000000 offset = offset ∧
      clampNat 0 255 delay = delay ∧ clampNat 1 1000 timeout = timeout := by
    simp only [calibrationFits, Bool.and_eq_true, decide_eq_true_eq, and_assoc]
    exact Iff.rfl
  simp only [writtenAnswer, ← fits]
  cases calibrationFits offset delay timeout <;> rfl

theorem exec_headCalWrite {s : State} {r : Request} {h : Fin 16} {offset : Int} {delay timeout : Nat}
    (serves : Serves s r (.headCalWrite h offset delay timeout)) (cls : r.sourceClass = .engineering) :
    exec (.headCalWrite h offset delay timeout) s = .next ((s.modHead h fun x => { x with
      offset := clampInt (-1000000) 1000000 offset, releaseDelay := clampNat 0 255 delay,
      announceTimeout := clampNat 1 1000 timeout }).finish r (writtenAnswer (!calibrationFits offset delay timeout))) :=
  congrArg Host.Outcome.next (State.carryOut_engineering serves cls (onHead_val s h _))

theorem exec_routeWrite {s : State} {r : Request} {n : Fin 64} {a : RouteAction} {k : SourceClass}
    (serves : Serves s r (.routeWrite n a.code k.code)) (cls : r.sourceClass = .engineering) :
    exec (.routeWrite n a.code k.code) s =
      .next ((s.setRoute n { action := a, sourceClass := k }).finish r { status := .accepted }) :=
  congrArg Host.Outcome.next (State.carryOut_engineering serves cls (by simp))

theorem exec_noticeTargetWrite {s : State} {r : Request} {n : Nat} (hn : n ≤ 63) (serves : Serves s r (.noticeTargetWrite n))
    (cls : r.sourceClass = .engineering) : exec (.noticeTargetWrite n) s =
      .next (State.finish { s with handler := { s.handler with noticeTarget := n } } r { status := .accepted }) :=
  congrArg Host.Outcome.next (State.carryOut_engineering serves cls (if_pos hn))

/-- Settles O52: each write changes its own entry, and the answer follows. -/
theorem calibrationAndTablesWritten : Obligations.CalibrationAndTablesWritten := by
  refine ⟨?_, fun s r cls => ⟨fun n a k serves => ?_, fun n hn serves => ?_⟩⟩
  · intro s r h offset delay timeout serves cls kept
    refine ⟨_, exec_headCalWrite serves cls, ?_, by simp, fun j hj => by simp [hj], by simp, by simp, by simp, by simp⟩
    rw [calibration_answer]
    exact State.finish_quietly r _ serves.1 rfl rfl ⟨rfl, rfl, rfl, rfl, rfl, rfl⟩
  · exact ⟨_, exec_routeWrite serves cls, State.finish_quietly r _ serves.1 rfl rfl ⟨rfl, rfl, rfl, rfl, rfl, rfl⟩,
      by simp [State.setRoute], by simp [State.setRoute], by simp [State.setRoute], by simp [State.setRoute],
      by simp [State.setRoute]⟩
  · refine ⟨_, exec_noticeTargetWrite hn serves cls, ?_, ?_, ?_, by simp, by simp, by simp, by simp, by simp, by simp, by simp⟩
    · exact State.finish_carriedOut r _ serves.1 rfl rfl ⟨rfl, rfl, rfl, rfl⟩ ⟨rfl, rfl, rfl, rfl, .refl _⟩
        (by simp [SameRest])
    · simp [NoNotice, HandlerCounters.count_eq]
    · exact State.offerReply_oneReply r _ serves.1 rfl rfl

end Sys2Proof.Machine
end

section
/-! Proofs: the release of a head (R24, R25, R37). -/

namespace Sys2Proof.Machine

variable (s : State) (h : Fin 16)

theorem millis_eq (n : Nat) : millis n = 1000 * n := Nat.mul_comm n 1000

/-- The record of a head that enters RELEASING (R24). -/
def HeadRecord.releasing (r : HeadRecord) (now : Nat) : HeadRecord :=
  { r with state := .releasing, cause := none, deadline := some (now + 1000 * r.releaseDelay) }

/-- The record of a head whose release delay has expired (R25). -/
def HeadRecord.awaiting (r : HeadRecord) (now : Nat) : HeadRecord :=
  { r with state := .awaiting, cause := none, deadline := some (now + 1000 * r.announceTimeout) }

/-- The head has entered RELEASING, and the change is noticed (R24, R37). -/
def State.enterReleasing : State :=
  (s.setHead h ((s.head h).releasing s.now)).raise (.headState h (s.head h).state .releasing none)

theorem State.beginRelease_eq (other : (s.head h).state ≠ .releasing) : s.beginRelease h =
    if (s.head h).releaseDelay = 0 then (s.enterReleasing h).expireRelease h else s.enterReleasing h := by
  have entered : s.replaceHead h ((s.head h).releasing s.now) = s.enterReleasing h :=
    State.replaceHead_of_state_ne s other
  rw [← entered, State.beginRelease]
  simp only [millis_eq]
  rfl

@[simp] theorem State.enterReleasing_head : (s.enterReleasing h).head h = (s.head h).releasing s.now := by
  simp [State.enterReleasing]

/-- At a release delay of 0 the delay expires at once (R25). -/
theorem State.expireRelease_enterReleasing : (s.enterReleasing h).expireRelease h =
    (((s.enterReleasing h).enqueueControl (.release h)).setHead h ((s.head h).awaiting s.now)).raise
      (.headState h .releasing .awaiting none) := by
  have now : (s.enterReleasing h).now = s.now := by simp [State.enterReleasing]
  have other : (((s.enterReleasing h).enqueueControl (.release h)).head h).state ≠ .awaiting := by
    simp [HeadRecord.releasing]
  rw [State.expireRelease, State.enterReleasing_head, now, millis_eq]
  exact (State.replaceHead_of_state_ne _ other).trans (by simp [HeadRecord.releasing]; rfl)

/-- Before a head in service is released, it is held (R24). -/
def State.heldFirst : State := if (s.head h).state = .online ∨ (s.head h).state = .silent then s.holdHead h else s

theorem State.requestRelease_of_waiting (waits : (s.head h).state = .releasing ∨ (s.head h).state = .awaiting) :
    s.requestRelease h = (s, { status := .wrongState }) := by
  rcases waits with w | w <;> simp only [State.requestRelease, w, refusal]

theorem State.requestRelease_of_not_waiting (other : (s.head h).state ≠ .releasing ∧ (s.head h).state ≠ .awaiting) :
    s.requestRelease h = ((s.heldFirst h).beginRelease h, { status := .accepted }) := by
  cases state : (s.head h).state
  case releasing => exact absurd state other.1
  case awaiting => exact absurd state other.2
  all_goals simp [State.requestRelease, State.heldFirst, state]

/-- A hold before the release changes the record's state, deadline and cause, which the release sets anew. -/
theorem State.heldFirst_releasing (now : Nat) :
    ((s.heldFirst h).head h).releasing now = (s.head h).releasing now ∧
      ((s.heldFirst h).head h).awaiting now = (s.head h).awaiting now ∧
      ((s.heldFirst h).head h).releaseDelay = (s.head h).releaseDelay := by
  unfold State.heldFirst
  split
  · simp [HeadRecord.releasing, HeadRecord.awaiting]
  · exact ⟨rfl, rfl, rfl⟩

theorem State.heldFirst_state : ((s.heldFirst h).head h).state =
    if (s.head h).state = .online ∨ (s.head h).state = .silent then .held else (s.head h).state := by
  unfold State.heldFirst
  split <;> simp

theorem State.heldFirst_not_releasing (other : (s.head h).state ≠ .releasing) :
    ((s.heldFirst h).head h).state ≠ .releasing := by
  rw [State.heldFirst_state]
  split
  · simp
  · exact other

theorem State.heldFirst_headPort : (s.heldFirst h).headPort =
    if (s.head h).state = .online ∨ (s.head h).state = .silent then s.headPort.enqueueControl (.hold h) else s.headPort := by
  unfold State.heldFirst
  split <;> simp

theorem State.heldFirst_noticeSeq : (s.heldFirst h).handler.noticeSeq + 1 =
    s.handler.noticeSeq + if (s.head h).state = .online ∨ (s.head h).state = .silent then 2 else 1 := by
  unfold State.heldFirst
  split
  · next served =>
    have other : (s.head h).state ≠ .held := by rcases served with w | w <;> simp [w]
    simp [s.holdHead_of_not_held other, BitVec.add_assoc]
  · rfl

theorem State.heldFirst_eq : s.heldFirst h =
    if (s.head h).state = .online ∨ (s.head h).state = .silent then
      (State.setHead { s with headPort := s.headPort.enqueueControl (.hold h) } h
        { s.head h with state := .held, cause := none, deadline := none }).raise (.headState h (s.head h).state .held none)
    else s := by
  unfold State.heldFirst
  split
  · next served =>
    have other : (s.head h).state ≠ .held := by rcases served with w | w <;> simp [w]
    exact s.holdHead_of_not_held other
  · rfl

@[simp] theorem State.heldFirst_now : (s.heldFirst h).now = s.now := by
  unfold State.heldFirst
  split <;> simp

/-- A head with a release delay waits in RELEASING. -/
theorem State.release_of_delay (other : (s.head h).state ≠ .releasing) (delayed : (s.head h).releaseDelay ≠ 0) :
    (s.heldFirst h).beginRelease h = (s.heldFirst h).enterReleasing h := by
  rw [State.beginRelease_eq _ _ (s.heldFirst_not_releasing h other), (s.heldFirst_releasing h s.now).2.2, if_neg delayed]

/-- A head without one goes on to AWAITING. -/
theorem State.release_of_no_delay (other : (s.head h).state ≠ .releasing) (immediate : (s.head h).releaseDelay = 0) :
    (s.heldFirst h).beginRelease h =
      ((((s.heldFirst h).enterReleasing h).enqueueControl (.release h)).setHead h ((s.head h).awaiting s.now)).raise
        (.headState h .releasing .awaiting none) := by
  obtain ⟨-, awaiting, delay⟩ := s.heldFirst_releasing h s.now
  rw [State.beginRelease_eq _ _ (s.heldFirst_not_releasing h other), delay, if_pos immediate,
    State.expireRelease_enterReleasing, State.heldFirst_now, awaiting]

/-- The change to RELEASING as one of the head that was held first. -/
theorem State.enterReleasing_heldFirst : (s.heldFirst h).enterReleasing h =
    ((s.heldFirst h).setHead h ((s.head h).releasing s.now)).raise
      (.headState h (if (s.head h).state = .online ∨ (s.head h).state = .silent then .held else (s.head h).state)
        .releasing none) := by
  rw [State.enterReleasing, State.heldFirst_now, (s.heldFirst_releasing h s.now).1, State.heldFirst_state]

theorem State.enterReleasing_headPort : ((s.heldFirst h).enterReleasing h).headPort =
    if (s.head h).state = .online ∨ (s.head h).state = .silent then s.headPort.enqueueControl (.hold h) else s.headPort := by
  rw [← State.heldFirst_headPort]
  simp [State.enterReleasing]

theorem State.enterReleasing_noticeSeq : ((s.heldFirst h).enterReleasing h).handler.noticeSeq =
    s.handler.noticeSeq + if (s.head h).state = .online ∨ (s.head h).state = .silent then 2 else 1 := by
  rw [← State.heldFirst_noticeSeq]
  simp [State.enterReleasing]

/-- A release keeps what its notices and its frames keep. -/
theorem State.requestRelease_frame : SameRest s (s.requestRelease h).1 ∧ SameHandler s (s.requestRelease h).1 ∧
    SameLine s (s.requestRelease h).1 ∧ OtherHeads s (s.requestRelease h).1 h ∧
    (s.requestRelease h).1.travel = s.travel ∧ (s.requestRelease h).1.strands = s.strands ∧
    (s.requestRelease h).1.routes = s.routes := by
  refine ⟨?_, ?_, ⟨?_, ?_, ?_, ?_, s.requestRelease_lineGrows h⟩, fun k hk => ?_, ?_, ?_, ?_⟩ <;>
    unfold State.requestRelease <;> split <;> simp [refusal, SameRest, SameHandler, SameHandling, *]

theorem exec_headRelease {s : State} {r : Request} {h : Fin 16} (serves : Serves s r (.headRelease h))
    (cls : r.sourceClass ≠ .none) :
    exec (.headRelease h) s = .next ((s.requestRelease h).1.finish r (s.requestRelease h).2) :=
  congrArg Host.Outcome.next (State.carryOut_eq serves cls (onHead_val s h _))

/-- Settles O54: a head that waits is refused; any other is held first where it is in service, and then released. -/
theorem headReleased : Obligations.HeadReleased := by
  intro s r h serves cls x
  refine ⟨_, exec_headRelease serves cls, fun waits => ?_, fun other => ?_⟩
  · rw [State.requestRelease_of_waiting s h waits]
    exact s.finish_onlyAnswered r _ serves.1
  obtain ⟨rest, handler, line, heads, travel, strands, routes⟩ := s.requestRelease_frame h
  rw [State.requestRelease_of_not_waiting s h other] at *
  have carried := State.finish_carriedOut r { status := .accepted } serves.1 handler.2.1 handler.1 handler.2.2.2 line rest
  have handling : SameHandling s (((s.heldFirst h).beginRelease h).finish r { status := .accepted }) := by
    simpa [SameHandling] using handler.2.2.1
  refine ⟨carried, handling, fun k hk => by simpa using heads k hk, by simpa using travel, by simpa using strands,
    by simpa using routes, fun delayed => ?_, fun immediate => ?_, ?_⟩
  · rw [State.release_of_delay s h other.1 delayed]
    exact ⟨by simp [s.enterReleasing_headPort h, x], by simp [s.enterReleasing_noticeSeq h, x],
      by simp only [State.finish_head, State.enterReleasing_head, State.heldFirst_now, (s.heldFirst_releasing h s.now).1]; rfl⟩
  · rw [State.release_of_no_delay s h other.1 immediate]
    exact ⟨by simp [State.enqueueControl, s.enterReleasing_headPort h, x],
      by simp [s.enterReleasing_noticeSeq h, x], by simp [HeadRecord.awaiting, x]⟩
  · have held : s.heldFirst h = if x.state = .online ∨ x.state = .silent then
        (State.setHead { s with headPort :=
          if x.state = .online ∨ x.state = .silent then s.headPort.enqueueControl (.hold h) else s.headPort } h
          { x with state := .held, cause := none, deadline := none }).raise (.headState h x.state .held none) else s := by
      rw [State.heldFirst_eq]
      split <;> rfl
    refine congrArg (State.finish · r _) ?_
    by_cases immediate : (s.head h).releaseDelay = 0
    · have released := State.release_of_no_delay s h other.1 immediate
      have port : (((s.heldFirst h).beginRelease h).finish r { status := .accepted }).headPort =
          ((s.heldFirst h).enterReleasing h).headPort.enqueueControl (.release h) := by
        rw [released]
        simp [State.enqueueControl]
      have record : (((s.heldFirst h).beginRelease h).finish r { status := .accepted }).head h =
          (s.head h).awaiting s.now := by
        rw [released]
        simp
      rw [port, record, ← held, if_pos immediate, released, State.enterReleasing_heldFirst]
      rfl
    · rw [← held, State.release_of_delay s h other.1 immediate, if_neg immediate, State.enterReleasing_heldFirst]
      rfl

end Sys2Proof.Machine
end

section
/-! Proofs: the start of a strand (R52, R35). -/

namespace Sys2Proof.Machine

/-! ### A notice and a strand's record -/

theorem State.kickLine_setStrand (s : State) (i : Fin 4) (st : Strand) :
    (s.setStrand i st).kickLine = s.kickLine.setStrand i st := by
  by_cases idle : s.linePort.tx = none ∧ s.handler.restart ≠ .due
  · rw [State.kickLine_of_idle idle.1 idle.2, State.kickLine_of_idle (s := s.setStrand i st) idle.1 idle.2]
    rfl
  · have busy : s.linePort.tx ≠ none ∨ s.handler.restart = .due := by rwa [← not_and_or.trans (or_congr_right not_not)]
    rw [State.kickLine_of_sending busy, State.kickLine_of_sending (s := s.setStrand i st) busy]

/-- A record that enters the Line Port and a write to a strand do not touch each other. -/
theorem State.enqueueRecord_setStrand (s : State) (i : Fin 4) (st : Strand) (r : Record) :
    (s.setStrand i st).enqueueRecord r = (s.enqueueRecord r).setStrand i st :=
  State.kickLine_setStrand { s with linePort := { s.linePort with own := s.linePort.own ++ [r] } } i st

/-- A notice and a write to a strand do not touch each other. -/
theorem State.raise_setStrand (s : State) (i : Fin 4) (st : Strand) (n : Notice) :
    (s.setStrand i st).raise n = (s.raise n).setStrand i st := by
  by_cases room : s.linePort.own.length ≤ 28
  · rw [State.raise_of_room n room, State.raise_of_room n (s := s.setStrand i st) room]
    exact State.enqueueRecord_setStrand s.takeNoticeNumber i st _
  · have full : 29 ≤ s.linePort.own.length := by omega
    rw [State.raise_of_full n full, State.raise_of_full n (s := s.setStrand i st) full]
    rfl

theorem State.raise_modStrand (s : State) (i : Fin 4) (f : Strand → Strand) (n : Notice) :
    (s.modStrand i f).raise n = (s.raise n).modStrand i f := by
  rw [State.modStrand, State.raise_setStrand, State.modStrand, State.raise_strand]

theorem State.replaceHead_setStrand (s : State) (i : Fin 4) (st : Strand) (h : Fin 16) (r : HeadRecord) :
    (s.setStrand i st).replaceHead h r = (s.replaceHead h r).setStrand i st := by
  by_cases same : (s.head h).state = r.state
  · rw [State.replaceHead_of_state_eq _ same, State.replaceHead_of_state_eq _ (show ((s.setStrand i st).head h).state = _ from same)]
    rfl
  · rw [State.replaceHead_of_state_ne _ same, State.replaceHead_of_state_ne _ (show ((s.setStrand i st).head h).state ≠ _ from same)]
    exact State.raise_setStrand (s.setHead h r) i st _

/-! ### The heads are refreshed -/

/-- What a start makes of the record of one of the strand's heads (R35). -/
def HeadRecord.refreshed (r : HeadRecord) : HeadRecord :=
  { r with misses := 0, state := if r.state = .silent then .online else r.state }

theorem State.refreshHead_head (i : Fin 4) (s : State) (h k : Fin 16) : (State.refreshHead i s h).head k =
    if k = h then (if (s.head h).assignedTo i then (s.head h).refreshed else s.head h) else s.head k := by
  by_cases same : k = h
  · subst same
    simp only [State.refreshHead, if_true]
    split
    · exact State.replaceHead_head_same ..
    · rfl
  · simp [same]

theorem State.refreshHeads_head (s : State) (i : Fin 4) (h : Fin 16) : (s.refreshHeads i).head h =
    if (s.head h).assignedTo i then (s.head h).refreshed else s.head h := by
  rw [State.refreshHeads, foldl_head (g := fun _ r => if r.assignedTo i then r.refreshed else r) (by simp)
    (fun t _ h k => State.refreshHead_head i t h k) nodup_allHeads, if_pos (mem_allHeads h)]

/-- A refreshed head that was SILENT is ONLINE, and is noticed; any other only loses its count. -/
theorem State.replaceHead_refreshed (s : State) (h : Fin 16) : s.replaceHead h (s.head h).refreshed =
    if (s.head h).state = .silent then (s.setHead h (s.head h).refreshed).raise (.headState h .silent .online none)
    else s.setHead h (s.head h).refreshed := by
  by_cases silent : (s.head h).state = .silent
  · rw [if_pos silent, State.replaceHead_of_state_ne s (by simp [HeadRecord.refreshed, silent])]
    simp [silent, HeadRecord.refreshed]
  · rw [if_neg silent, State.replaceHead_of_state_eq s (by simp [HeadRecord.refreshed, silent])]

theorem State.refreshHead_eq (i : Fin 4) (s : State) (h : Fin 16) : State.refreshHead i s h =
    if (s.head h).assignedTo i then
      if (s.head h).state = .silent then
        (s.setHead h (s.head h).refreshed).raise (.headState h .silent .online none)
      else s.setHead h (s.head h).refreshed
    else s := by
  rw [← State.replaceHead_refreshed]
  rfl

theorem State.refreshHead_setStrand (i j : Fin 4) (s : State) (st : Strand) (h : Fin 16) :
    State.refreshHead i (s.setStrand j st) h = (State.refreshHead i s h).setStrand j st := by
  by_cases own : (s.head h).assignedTo i
  · exact (if_pos own).trans ((State.replaceHead_setStrand ..).trans (congrArg (State.setStrand · j st) (if_pos own).symm))
  · exact (if_neg own).trans (congrArg (State.setStrand · j st) (if_neg own).symm)

theorem State.refreshHeads_setStrand (s : State) (i j : Fin 4) (st : Strand) :
    (s.setStrand j st).refreshHeads i = (s.refreshHeads i).setStrand j st :=
  (List.foldl_hom (State.setStrand · j st) (fun v h => (State.refreshHead_setStrand i j v st h)))

theorem State.refreshHeads_modStrand (s : State) (i j : Fin 4) (f : Strand → Strand) :
    (s.modStrand j f).refreshHeads i = (s.refreshHeads i).modStrand j f := by
  rw [State.modStrand, State.refreshHeads_setStrand, State.modStrand, State.refreshHeads_strand]

/-- Each head is refreshed from the record that it had at first, for every head comes once. -/
theorem foldl_refreshHead {i : Fin 4} {s : State} {record : Fin 16 → HeadRecord}
    (refreshed : ∀ h, (s.head h).assignedTo i = true → record h = (s.head h).refreshed) {l : List (Fin 16)} (hl : l.Nodup) :
    ∀ v : State, (∀ h ∈ l, v.head h = s.head h) → l.foldl (State.refreshHead i) v = l.foldl
      (fun v h =>
        if (s.head h).assignedTo i then
          if (s.head h).state = .silent then (v.setHead h (record h)).raise (.headState h .silent .online none)
          else v.setHead h (record h)
        else v) v := by
  induction l with
  | nil => exact fun _ _ => rfl
  | cons h rest ih =>
    intro v same
    obtain ⟨fresh, nodup⟩ := List.nodup_cons.mp hl
    have here : State.refreshHead i v h = if (s.head h).assignedTo i then
          if (s.head h).state = .silent then (v.setHead h (record h)).raise (.headState h .silent .online none)
          else v.setHead h (record h)
        else v := by
      rw [State.refreshHead_eq, same h List.mem_cons_self]
      split
      · next own => rw [refreshed h own]
      · rfl
    rw [List.foldl_cons, List.foldl_cons, ← here]
    refine ih nodup _ fun k hk => ?_
    have other : k ≠ h := fun e => fresh (e ▸ hk)
    rw [State.refreshHead_head, if_neg other, same k (List.mem_cons_of_mem h hk)]

/-! ### The strand starts -/

/-- The started strand, ARMED (R52). -/
theorem State.startStrand_same (s : State) (i : Fin 4) : (s.startStrand i).strand i =
    { (s.strand i).started s.travel.length with state := .armed } := by
  simp [State.startStrand]

/-- A start as a whole: the strand, its heads, and its notice. -/
theorem State.startStrand_eq {s : State} {i : Fin 4} (idle : (s.strand i).state = .idle) :
    s.startStrand i = ((s.setStrand i ((s.startStrand i).strand i)).refreshHeads i).raise (.strandState i .idle .armed) := by
  have state : ((s.strand i).started s.travel.length).state = .idle := idle
  rw [State.refreshHeads_setStrand, State.raise_setStrand, State.startStrand_same, State.startStrand,
    State.refreshHeads_modStrand, State.changeStrand_of_ne _ (by simp [state]), State.modStrand_modStrand,
    State.raise_setStrand]
  simp [state]

/-- The notices of a start: those of the heads that return, in head order, and then that of the strand. -/
theorem State.startStrand_heads {s : State} {i : Fin 4} (idle : (s.strand i).state = .idle) (record : Fin 16 → HeadRecord)
    (refreshed : ∀ h, (s.head h).assignedTo i = true → record h = (s.head h).refreshed) :
    s.startStrand i = ((List.finRange 16).foldl
      (fun v h =>
        if (s.head h).assignedTo i then
          if (s.head h).state = .silent then (v.setHead h (record h)).raise (.headState h .silent .online none)
          else v.setHead h (record h)
        else v) (s.setStrand i ((s.startStrand i).strand i))).raise (.strandState i .idle .armed) := by
  have order : List.finRange 16 = allHeads := by decide
  rw [order, ← foldl_refreshHead refreshed nodup_allHeads _ fun h _ => by simp]
  exact State.startStrand_eq idle

/-- A start keeps what its notices keep. -/
theorem State.startStrand_frame (s : State) (i : Fin 4) : SameRest s (s.startStrand i) ∧ SameHandler s (s.startStrand i) ∧
    SameLine s (s.startStrand i) ∧ OtherStrands s (s.startStrand i) i ∧ (s.startStrand i).headPort = s.headPort ∧
    (s.startStrand i).travel = s.travel ∧ (s.startStrand i).routes = s.routes := by
  refine ⟨?_, ?_, ⟨?_, ?_, ?_, ?_, s.startStrand_lineGrows i⟩, fun j hj => ?_, ?_, ?_, ?_⟩ <;>
    simp [State.startStrand, SameRest, SameHandler, SameHandling, *]

theorem State.startStrand_head (s : State) (i : Fin 4) (h : Fin 16) : (s.startStrand i).head h =
    if (s.head h).assignedTo i then (s.head h).refreshed else s.head h := by
  simp [State.startStrand, State.refreshHeads_head]

theorem State.requestStart_of_busy {s : State} {i : Fin 4} (h : (s.strand i).state ≠ .idle ∨ s.travel.limitReached = true) :
    s.requestStart i = (s, { status := .wrongState }) := if_pos h

theorem State.requestStart_of_invalid {s : State} {i : Fin 4} {n : Nat} {reason : InvalidReason}
    (idle : (s.strand i).state = .idle) (below : s.travel.limitReached = false)
    (fails : (s.strand i).validate (s.strand i).activeBank = some (n, reason)) :
    s.requestStart i = (s, invalidAnswer n reason) := by
  simp [State.requestStart, idle, below, fails]

theorem State.requestStart_of_valid {s : State} {i : Fin 4} (idle : (s.strand i).state = .idle)
    (below : s.travel.limitReached = false) (passes : (s.strand i).validate (s.strand i).activeBank = none) :
    s.requestStart i = (s.startStrand i, { status := .accepted }) := by
  simp [State.requestStart, idle, below, passes]

theorem exec_strandStart {s : State} {r : Request} {i : Fin 4} (serves : Serves s r (.strandStart i))
    (cls : r.sourceClass ≠ .none) :
    exec (.strandStart i) s = .next ((s.requestStart i).1.finish r (s.requestStart i).2) :=
  congrArg Host.Outcome.next (State.carryOut_eq serves cls (onStrand_val s i _))

/-- Settles O55: the refusals only answer; an accepted start is `startStrand`, answered. -/
theorem strandStarted : Obligations.StrandStarted := by
  intro s r i serves cls st
  have answered {a : Answer} (h : s.requestStart i = (s, a)) :
      OnlyAnswered s ((s.requestStart i).1.finish r (s.requestStart i).2) r a := by
    rw [h]
    exact s.finish_onlyAnswered r a serves.1
  refine ⟨_, exec_strandStart serves cls, fun busy => answered (State.requestStart_of_busy busy), fun idle below =>
    ⟨fun n reason fails => answered (State.requestStart_of_invalid idle below fails), fun passes => ?_⟩⟩
  obtain ⟨rest, handler, line, others, headPort, travel, routes⟩ := s.startStrand_frame i
  rw [State.requestStart_of_valid idle below passes]
  dsimp only
  have heads (h : Fin 16) := s.startStrand_head i h
  obtain ⟨requests, waiting, handling, counts⟩ := handler
  have carried := State.finish_carriedOut (u := s.startStrand i) r { status := .accepted } serves.1 waiting requests counts
    line rest
  refine ⟨carried,
    by simpa [SameHandling] using handling, ?_, ?_, fun j hj => by simpa using others j hj, fun h => ?_,
    by simpa using headPort, by simpa using travel, by simpa using routes, ?_⟩
  · rw [State.finish_strand, State.startStrand_same]
    rfl
  · simp [State.ell, State.startStrand_same, Strand.started, travel]
  · rw [State.finish_head, heads]
    rfl
  · have whole := State.startStrand_heads idle (fun h => ((s.startStrand i).finish r { status := .accepted }).head h)
      fun h own => by rw [State.finish_head, heads, if_pos own]
    rw [State.finish_strand]
    exact congrArg (fun u => State.finish u r { status := .accepted }) whole

end Sys2Proof.Machine
end

section
/-! Proofs: a RESTART that is carried out (R18, R162), and one that takes effect (R39, R40, R50 and the RESTART columns). -/

namespace Sys2Proof.Machine

/-! ### Carried out -/

theorem exec_restart {s : State} {r : Request} (serves : Serves s r .restart) (cls : r.sourceClass = .engineering) :
    exec .restart s =
      .next (State.finish { s with handler := { s.handler with restart := .carried } } r { status := .accepted }) :=
  congrArg Host.Outcome.next (State.carryOut_engineering serves cls rfl)

/-- While a RESTART is under way, no request is carried out (R162). -/
theorem exec_request_of_restart {s : State} (h : s.handler.restart ≠ .idle) {c : Instr} (hc : c.isRequest = true) :
    exec c s = .next s := by
  have idle (r : Request) (c : Instr) : ¬Serves s r c := fun serves => h serves.2.1
  have unready (c : Instr) : s.ready c = none := by
    cases hr : s.ready c with
    | none => rfl
    | some r => exact absurd (State.serves_of_ready hr) (idle r c)
  cases c
  case countersClear => exact congrArg Host.Outcome.next (by rw [State.requestClear, unready])
  case unknownRequest => exact congrArg Host.Outcome.next (by rw [State.refuseUnknown, unready])
  case powerOnReset | headerReceived | truncated | frameComplete | frameTransmitted | releaseDelayExpiry
      | announceTimeoutExpiry | stallTimeExpiry | scanWaitExpiry | evaluationComplete | restartTakesEffect | frameStart =>
    exact absurd hc Bool.false_ne_true
  all_goals exact congrArg Host.Outcome.next (State.carryOut_of_not_serves _ fun r => idle r _)

/-- Settles O59: the handler's phase forbids every request, and the end of the reply makes the RESTART due. -/
theorem restartCarriedOut : Obligations.RestartCarriedOut := by
  refine ⟨fun s r serves cls => ?_, fun s r tx kind status phase => ?_⟩
  · have carried := State.finish_carriedOut (u := { s with handler := { s.handler with restart := .carried } }) r
      { status := .accepted } serves.1 rfl rfl ⟨rfl, rfl, rfl, rfl⟩ ⟨rfl, rfl, rfl, rfl, .refl _⟩ ⟨rfl, rfl, rfl, rfl, rfl, rfl⟩
    refine ⟨_, exec_restart serves cls, carried, ?_, ?_, by simp, by simp, by simp, by simp, by simp, by simp, by simp,
      fun c hc => exec_request_of_restart (by simp) hc⟩
    · simp [NoNotice, HandlerCounters.count_eq]
    · let u : State := { s with handler := { s.handler with restart := .carried } }
      have reply : OneReply u (u.finish r { status := .accepted }) r { status := .accepted } :=
        State.offerReply_oneReply (s := u) (u := u.countRequest .accepted) r { status := .accepted } serves.1 rfl rfl
      simpa [OneReply, Entered, serves.2.1, u] using reply
  · have restart : s.isRestartReply (.own (.reply r)) = true := by simp [State.isRestartReply, kind, status, phase]
    refine congrArg Host.Outcome.next ?_
    simp only [State.transmitted, tx, State.lineSent, restart, if_true]
    rfl

/-! ### In effect -/

/-- The heads whose wait for an announce runs have their HEAD_RELEASE placed again, in head order (R39). -/
theorem foldl_requeueRelease (s : State) (l : List (Fin 16)) : ∀ v : State, v.heads = s.heads →
    l.foldl State.requeueRelease v = { v with headPort :=
      (l.filter fun h => (s.head h).state = .awaiting).foldl (fun p h => p.enqueueControl (.release h)) v.headPort } := by
  induction l with
  | nil => exact fun v _ => rfl
  | cons h rest ih =>
    intro v same
    have here : (v.head h).state = (s.head h).state := congrArg HeadRecord.state (State.head_of_heads same h)
    by_cases waits : (s.head h).state = .awaiting
    · have queued : v.requeueRelease h = v.enqueueControl (.release h) := if_pos (here.trans waits)
      rw [List.foldl_cons, queued, ih _ (by simpa using same), List.filter_cons_of_pos (by simpa using waits), List.foldl_cons]
      rfl
    · have stays : v.requeueRelease h = v := if_neg (here ▸ waits)
      rw [List.foldl_cons, stays, ih v same, List.filter_cons_of_neg (by simpa using waits)]

/-- A control frame enters, and the parser, the counters of R19 and the forward queue stay; so does a frame in transmission. -/
theorem HeadPort.enqueueControl_keeps (p : HeadPort) (f : HeadFrame) :
    (p.enqueueControl f).parser = p.parser ∧ (p.enqueueControl f).counters = p.counters ∧
      (p.enqueueControl f).forward = p.forward ∧ ∀ x, p.tx = some x → (p.enqueueControl f).tx = some x := by
  have joins (q : HeadPort) : (q.join f).parser = q.parser ∧ (q.join f).counters = q.counters ∧
      (q.join f).forward = q.forward ∧ ∀ x, q.tx = some x → (q.join f).tx = some x := by
    refine ⟨by simp [HeadPort.join], by simp [HeadPort.join], ?_, fun x hx => ?_⟩
    · obtain ⟨g, rest, own⟩ : ∃ g rest, q.own ++ [f] = g :: rest := by cases q.own <;> simp
      simp only [HeadPort.join, HeadPort.kick, HeadPort.select, own]
      split <;> rfl
    · rw [HeadPort.join, HeadPort.kick_of_sending (by simp [hx])]
      exact hx
  unfold HeadPort.enqueueControl
  split
  · exact joins p
  · split
    · exact joins _
    · exact ⟨rfl, rfl, rfl, fun _ h => h⟩

/-- The same, of one frame after the other. -/
theorem HeadPort.foldl_enqueueControl_keeps (l : List (Fin 16)) : ∀ p : HeadPort,
    let q := l.foldl (fun p h => p.enqueueControl (.release h)) p
    q.parser = p.parser ∧ q.counters = p.counters ∧ q.forward = p.forward ∧ ∀ x, p.tx = some x → q.tx = some x := by
  induction l with
  | nil => exact fun _ => ⟨rfl, rfl, rfl, fun _ h => h⟩
  | cons h rest ih =>
    intro p
    obtain ⟨parser, counters, forward, tx⟩ := p.enqueueControl_keeps (.release h)
    obtain ⟨parser', counters', forward', tx'⟩ := ih (p.enqueueControl (.release h))
    exact ⟨parser'.trans parser, counters'.trans counters, forward'.trans forward, fun x hx => tx' x (tx x hx)⟩

theorem HeadRecord.restarted_awaiting (r : HeadRecord) (now : Nat) :
    (r.restarted now).state = .awaiting ↔ r.state = .awaiting := by
  by_cases silent : r.state = .silent <;> simp [HeadRecord.restarted, silent]

theorem HeadRecord.restarted_eq (r : HeadRecord) (now : Nat) : r.restarted now = { r with
    checkErrors := 0, misses := 0, state := if r.state = .silent then .online else r.state,
    deadline := if r.state = .releasing then some (now + 1000 * r.releaseDelay)
      else if r.state = .awaiting then some (now + 1000 * r.announceTimeout)
      else r.deadline } := by
  cases state : r.state <;> simp [HeadRecord.restarted, state, millis_eq]

/-- The RESTART column of every block (R39, R40, R50, R162): the blocks but the Head Port, and the heads that are queued there
again. -/
theorem State.restarted_eq (s : State) : s.restarted = { s with
    headPort := (allHeads.filter fun h => (s.head h).state = .awaiting).foldl (fun p h => p.enqueueControl (.release h))
      s.headPort.restarted,
    linePort := s.linePort.restarted, travel := s.travel.restarted, handler := s.handler.restarted,
    heads := mapTable (HeadRecord.restarted s.now) s.heads, strands := mapTable Strand.restarted s.strands } := by
  let u : State := { s with
    headPort := s.headPort.restarted, linePort := s.linePort.restarted, travel := s.travel.restarted,
    handler := s.handler.restarted, heads := mapTable (HeadRecord.restarted s.now) s.heads,
    strands := mapTable Strand.restarted s.strands }
  have waits : (allHeads.filter fun h => (u.head h).state = .awaiting) =
      allHeads.filter fun h => (s.head h).state = .awaiting := by
    refine List.filter_congr fun h _ => ?_
    rw [show u.head h = (s.head h).restarted s.now by simp [u], decide_eq_decide]
    exact HeadRecord.restarted_awaiting _ _
  have queued : s.restarted = _ := foldl_requeueRelease u allHeads u rfl
  rw [queued, waits]

/-- Settles O60: each block takes its RESTART column, and the HEAD_RELEASE frames enter the emptied queue. -/
theorem restartTakesEffect : Obligations.RestartTakesEffect := by
  intro s due
  have effect : exec .restartTakesEffect s = .next s.restarted := if_pos due
  obtain ⟨parser, counters, forward, tx⟩ := HeadPort.foldl_enqueueControl_keeps
    (allHeads.filter fun h => (s.head h).state = .awaiting) s.headPort.restarted
  refine ⟨_, effect, ?_⟩
  have heads (h : Fin 16) := (s.restarted_head h).trans (HeadRecord.restarted_eq (s.head h) s.now)
  have strand (i : Fin 4) : s.restarted.strand i = (s.strand i).restarted := by rw [State.restarted_eq]; simp
  refine ⟨?_, ?_, ?_, ?_, ?_, ?_, ?_, fun p => ?_, ?_, fun x hx => ⟨?_, fun absent => ?_⟩, ?_, ?_, ?_, heads, fun i => ?_⟩
  case refine_8 =>
    rw [State.restarted_eq]
    cases p
    · exact ⟨parser, forward, counters⟩
    · exact ⟨rfl, rfl, rfl⟩
  case refine_10 =>
    rw [State.restarted_eq]
    exact tx x hx
  case refine_11 =>
    rw [State.restarted_eq, List.filter_eq_nil_iff.mpr fun h _ => by simpa using absent h]
    rfl
  case refine_15 =>
    rw [strand, Strand.restarted, ← Strand.discard_evaluationsDiscarded]
    rfl
  all_goals rw [State.restarted_eq]
  all_goals rfl

end Sys2Proof.Machine
end

section
/-! Proofs: the waits of a head expire (R25, R26), and the entry of frames into the Head Port's queue (R14). -/

namespace Sys2Proof.Machine

/-! ### The Head Port's queue -/

/-- A frame that joins the tail of the queue, with what an idle transmitter then takes. -/
theorem HeadPort.join_joined (p : HeadPort) (f : HeadFrame) : Joined p f (p.join f) := by
  refine ⟨fun x hx => HeadPort.kick_of_sending (by simp [hx]), fun idle empty => ?_, fun g rest idle own => ?_⟩
  · rw [HeadPort.join, HeadPort.kick_of_own (p := { p with own := p.own ++ [f] }) idle (x := f) (rest := []) (by simp [empty])]
    simp [empty]
  · rw [HeadPort.join, HeadPort.kick_of_own (p := { p with own := p.own ++ [f] }) idle (x := g) (rest := rest ++ [f])
      (by simp [own])]

/-- A frame that is no TRIGGER, in the words of the statements. -/
theorem isTrigger_eq_false {f : HeadFrame} (h : ∀ i k mask, f ≠ .trigger i k mask) : f.isTrigger = false := by
  cases f with
  | trigger i k mask => exact absurd rfl (h i k mask)
  | hold _ => rfl
  | release _ => rfl

/-- The TRIGGER nearest the tail leaves the queue (R14). -/
theorem dropLastTrigger_append {before after : List HeadFrame} {i : Fin 4} {k : Nat} {mask : BitVec 16}
    (control : ∀ x ∈ after, x.isTrigger = false) :
    dropLastTrigger (before ++ .trigger i k mask :: after) = before ++ after := by
  have none : (HeadFrame.trigger i k mask).isTrigger = true := rfl
  simp only [dropLastTrigger, List.reverse_append, List.reverse_cons, List.append_assoc, List.singleton_append]
  rw [List.eraseP_append_right _ (by simpa using control), List.eraseP_cons_of_pos none]
  simp

section
variable {p : HeadPort} {f : HeadFrame}

theorem HeadPort.enqueueControl_of_room (h : p.own.length < 8) : p.enqueueControl f = p.join f := if_pos h

theorem HeadPort.enqueueControl_of_trigger (h : 8 ≤ p.own.length) (any : p.own.any HeadFrame.isTrigger = true) :
    p.enqueueControl f = ({ p with triggerDrop := inc p.triggerDrop, own := dropLastTrigger p.own } : HeadPort).join f :=
  (if_neg h.not_gt).trans (if_pos any)

theorem HeadPort.enqueueControl_of_full (h : 8 ≤ p.own.length) (none : ∀ x ∈ p.own, x.isTrigger = false) :
    p.enqueueControl f = { p with controlDrop := inc p.controlDrop } :=
  (if_neg h.not_gt).trans (if_neg (by simpa using none))

end

/-! ### The waits -/

theorem State.releaseExpires_eq {s : State} {h : Fin 16} {d : Nat} (deadline : (s.head h).deadline = some d)
    (waits : (s.head h).state = .releasing) : s.releaseExpires h =
    ((State.enqueueControl { s with now := max s.now d } (.release h)).setHead h { s.head h with
      state := .awaiting, deadline := some (max s.now d + 1000 * (s.head h).announceTimeout) }).raise
      (.headState h .releasing .awaiting none) := by
  have expires : s.releaseExpires h = (s.reach d).expireRelease h := by
    simp only [State.releaseExpires, waits, deadline]
  rw [expires, State.expireRelease, State.replaceHead_of_state_ne _ (by simp [waits])]
  simp [waits, millis_eq, State.reach]

theorem State.announceExpires_eq {s : State} {h : Fin 16} {d : Nat} (deadline : (s.head h).deadline = some d)
    (waits : (s.head h).state = .awaiting) : s.announceExpires h =
    (State.setHead { s with now := max s.now d } h { s.head h with
      state := .faulted, cause := some .mute, deadline := none, counters.faults := inc (s.head h).counters.faults }).raise
      (.headState h .awaiting .faulted (some .mute)) := by
  have expires : s.announceExpires h = (s.reach d).faultHead h .mute := by
    simp only [State.announceExpires, waits, deadline]
  rw [expires, State.faultHead_eq]
  simp [waits, State.reach]

/-- Settles O43: the two expiries, and the three cases of the queue. -/
theorem headWaitsExpire : Obligations.HeadWaitsExpire := by
  refine ⟨fun s h d deadline => ⟨fun waits => ?_, fun waits => ?_⟩, fun p f => ⟨fun room => ?_, fun full => ⟨?_, fun none => ?_⟩⟩⟩
  · exact congrArg Host.Outcome.next (State.releaseExpires_eq deadline waits)
  · exact congrArg Host.Outcome.next (State.announceExpires_eq deadline waits)
  · rw [HeadPort.enqueueControl_of_room room]
    exact p.join_joined f
  · intro before i k mask after own control
    have none : ∀ x ∈ after, x.isTrigger = false := fun x hx => isTrigger_eq_false (control x hx)
    rw [HeadPort.enqueueControl_of_trigger full (by simp [own, HeadFrame.isTrigger]), own, dropLastTrigger_append none]
    exact HeadPort.join_joined _ f
  · exact HeadPort.enqueueControl_of_full full fun x hx => isTrigger_eq_false (none x hx)

end Sys2Proof.Machine
end

section
/-! Proofs: the announce of a head (R27 to R31, R37, R102). -/

namespace Sys2Proof.Machine

/-! ### The filters of a slot -/

/-- Unseeding keeps the number of filters. -/
theorem length_unseedFilters (slots : BitVec 6) (ps : List Placement) (fs : List (Option Int)) :
    (unseedFilters slots ps fs).length = fs.length := by
  induction fs generalizing ps with
  | nil => cases ps <;> rfl
  | cons f fs ih => cases ps <;> simp [unseedFilters, ih]

/-- Each filter of an instance that names one of the slots is unseeded, and the others stay. -/
theorem getElem_unseedFilters (slots : BitVec 6) (ps : List Placement) (fs : List (Option Int)) (n : Nat) (hn : n < fs.length) :
    (unseedFilters slots ps fs)[n]'((length_unseedFilters slots ps fs).symm ▸ hn) =
      match ps[n]? with
      | some p => if slots.getLsbD p.entry.geo.slot then none else fs[n]
      | none => fs[n] := by
  induction fs generalizing ps n with
  | nil => simp at hn
  | cons f fs ih =>
    cases ps with
    | nil => simp [unseedFilters]
    | cons p ps =>
      cases n with
      | zero => simp [unseedFilters]
      | succ n => simpa [unseedFilters] using ih ps n (by simpa using hn)

/-- A vector with the entries of a list of its length. -/
theorem getElem_retable {α : Type} {n : Nat} (v : Vector α n) {l : List α} (hl : l.length = n) (k : Nat) (hk : k < n) :
    (retable v l)[k] = l[k]'(hl.symm ▸ hk) := by
  simp [retable, hl]

theorem getLsbD_oneSlot (k : Fin 6) (m : Nat) : (oneSlot k).getLsbD m = decide (m = k) := by
  by_cases below : m < 6
  · have small : ∀ m k : Fin 6, (oneSlot k).getLsbD m = decide (m.val = k.val) := by decide
    exact small ⟨m, below⟩ k
  · rw [BitVec.getLsbD_of_ge _ _ (by omega)]
    simp
    omega

/-- The filters of the instances that name a slot are unseeded (R102). -/
theorem Strand.applyUnseed_filters (st : Strand) (k : Fin 6) (n : Fin 256) : (st.applyUnseed (oneSlot k)).filters[n] =
    match st.activeBank.placements[n.val]? with
    | some x => if x.entry.geo.slot = k then none else st.filters[n]
    | none => st.filters[n] := by
  have length : (unseedFilters (oneSlot k) st.activeBank.placements st.filters.toList).length = 256 := by
    simp [length_unseedFilters]
  simp only [Strand.applyUnseed, Fin.getElem_fin]
  rw [getElem_retable _ length, getElem_unseedFilters _ _ _ _ (by simp)]
  simp [getLsbD_oneSlot]

section
variable {s : State} {i : Fin 4} {k : Fin 6}

theorem State.requestUnseed_of_busy (busy : (s.strand i).eval ≠ none) :
    (s.requestUnseed i k).strand i = { s.strand i with unseed := (s.strand i).unseed ||| oneSlot k } := by
  simp [State.requestUnseed, Option.isSome_iff_ne_none.mpr busy]

theorem State.requestUnseed_of_free (free : (s.strand i).eval = none) :
    (s.requestUnseed i k).strand i = (s.strand i).applyUnseed (oneSlot k) := by
  simp [State.requestUnseed, free]

end

/-! ### A valid announce -/

/-- A head without a slot asks for nothing. -/
theorem State.unseedHead_of_unassigned {s : State} {h : Fin 16} (none : (s.head h).assignment = none) : s.unseedHead h = s := by
  simp only [State.unseedHead, none]

theorem State.unseedHead_of_assigned {s : State} {h : Fin 16} {i : Fin 4} {k : Fin 6}
    (assigned : (s.head h).assignment = some (i, k)) : s.unseedHead h = s.requestUnseed i k := by
  simp only [State.unseedHead, assigned]

/-- An unseed request changes strands only. -/
theorem State.unseedHead_eq (s : State) (h : Fin 16) : s.unseedHead h = { s with strands := (s.unseedHead h).strands } := by
  rcases assigned : (s.head h).assignment with - | ⟨i, k⟩
  · rw [State.unseedHead_of_unassigned assigned]
  · rw [State.unseedHead_of_assigned assigned]
    rfl

/-- The announced convention differs from one that was held (R30). -/
abbrev Announced.Differs (o a : Announced) : Prop :=
  o.order ≠ a.order ∨ o.sign ≠ a.sign ∨ o.scaleCode ≠ a.scaleCode ∨ o.width ≠ a.width

theorem conventionChanged_some (o a : Announced) : conventionChanged (some o) a = true ↔ o.Differs a := by
  simp [conventionChanged, or_assoc]

/-- The head brought ONLINE, with the notice of one that was not (R28, R37). -/
def State.broughtOnline (s : State) (h : Fin 16) (a : Announced) : State :=
  let named := s.setHead h (s.announcedRecord h a)
  if (s.head h).state = .online then named else named.raise (.headState h (s.head h).state .online none)

theorem State.replaceHead_announcedRecord (s : State) (h : Fin 16) (a : Announced) :
    s.replaceHead h (s.announcedRecord h a) = s.broughtOnline h a := by
  by_cases online : (s.head h).state = .online
  · rw [State.replaceHead_of_state_eq s (by simp [State.announcedRecord, online]), State.broughtOnline, if_pos online]
  · rw [State.replaceHead_of_state_ne s (by simpa [State.announcedRecord] using online), State.broughtOnline, if_neg online]
    simp [State.announcedRecord]

section
variable {s : State} {h : Fin 16} {a : Announced}

/-- An announce that changes no convention. -/
theorem State.validAnnounce_of_same (same : ∀ o, (s.head h).announced = some o → ¬o.Differs a) :
    s.validAnnounce h a = s.broughtOnline h a := by
  have unchanged : conventionChanged (s.head h).announced a = false := by
    cases held : (s.head h).announced with
    | none => rfl
    | some o => exact Bool.eq_false_iff.mpr fun c => same o held ((conventionChanged_some o a).mp c)
  simp [State.validAnnounce, unchanged, State.replaceHead_announcedRecord]

/-- One that changes the convention of a head out of service. -/
theorem State.validAnnounce_of_changed {o : Announced} (held : (s.head h).announced = some o) (differs : o.Differs a)
    (out : ¬((s.head h).state = .online ∨ (s.head h).state = .silent)) :
    s.validAnnounce h a = (s.broughtOnline h a).unseedHead h := by
  have changed : conventionChanged (some o) a = true := (conventionChanged_some o a).mpr differs
  have quiet : (s.head h).state.inService = false := Bool.eq_false_iff.mpr fun c => out ((inService_iff _).mp c)
  simp [State.validAnnounce, changed, State.replaceHead_announcedRecord, State.noticeReannounced, held, quiet]

/-- One that changes the convention of a head in service, which is noticed (R30). -/
theorem State.validAnnounce_of_reannounced {o : Announced} (held : (s.head h).announced = some o) (differs : o.Differs a)
    (served : (s.head h).state = .online ∨ (s.head h).state = .silent) :
    s.validAnnounce h a = ((s.broughtOnline h a).raise (.headReannounced h o a)).unseedHead h := by
  have changed : conventionChanged (some o) a = true := (conventionChanged_some o a).mpr differs
  simp [State.validAnnounce, changed, State.replaceHead_announcedRecord, State.noticeReannounced, held,
    (inService_iff _).mpr served]

/-- What a head brought ONLINE leaves. -/
theorem State.broughtOnline_keeps : (s.broughtOnline h a).strands = s.strands ∧
    (s.broughtOnline h a).head h = s.announcedRecord h a ∧
    (s.broughtOnline h a).handler.noticeTarget = s.handler.noticeTarget ∧
    (s.broughtOnline h a).handler.noticeSeq = s.handler.noticeSeq + (if (s.head h).state = .online then 0 else 1) := by
  unfold State.broughtOnline
  split <;> simp

theorem State.length_enqueueRecord_le (s : State) (r : Record) :
    (s.enqueueRecord r).linePort.own.length ≤ s.linePort.own.length + 1 := by
  let joined : State := { s with linePort := { s.linePort with own := s.linePort.own ++ [r] } }
  have length : joined.linePort.own.length = s.linePort.own.length + 1 := by simp [joined]
  have kicked : joined.kickLine.linePort.own.length ≤ joined.linePort.own.length := by
    unfold State.kickLine
    split
    · exact joined.linePort.select_length_le.1
    · exact le_rfl
  exact length ▸ kicked

theorem State.length_raise_le (s : State) (n : Notice) : (s.raise n).linePort.own.length ≤ s.linePort.own.length + 1 := by
  by_cases room : s.linePort.own.length ≤ 28
  · rw [State.raise_of_room n room]
    exact (State.length_enqueueRecord_le _ _)
  · rw [State.raise_of_full n (by omega)]
    exact Nat.le_succ _

theorem State.length_broughtOnline_le : (s.broughtOnline h a).linePort.own.length ≤ s.linePort.own.length + 1 := by
  unfold State.broughtOnline
  split
  · simp
  · exact State.length_raise_le (s.setHead h _) _

/-- The record after a valid announce, field by field (R28, R31). -/
theorem State.announcedRecord_eq : s.announcedRecord h a = { s.head h with
    announced := some a, checkErrors := 0, misses := 0, deadline := none, cause := none, state := .online,
    counters.announces := inc (s.head h).counters.announces,
    mismatch := match (s.head h).assignment with
      | some (i, t) => a.width != (s.strand i).activeBank.header.widths[t]
      | none => false } := by
  rcases assigned : (s.head h).assignment with - | ⟨i, t⟩ <;> simp [State.announcedRecord, State.mismatchOf, assigned]

/-- The three ways of a valid announce: without a change of the convention, with one out of service, and with one in service. -/
theorem State.validAnnounce_cases (s : State) (h : Fin 16) (a : Announced) :
    ((∀ o, (s.head h).announced = some o → ¬o.Differs a) ∧ s.validAnnounce h a = s.broughtOnline h a) ∨
    ∃ o, (s.head h).announced = some o ∧ o.Differs a ∧
      (¬((s.head h).state = .online ∨ (s.head h).state = .silent) ∧
          s.validAnnounce h a = (s.broughtOnline h a).unseedHead h ∨
        ((s.head h).state = .online ∨ (s.head h).state = .silent) ∧
          s.validAnnounce h a = ((s.broughtOnline h a).raise (.headReannounced h o a)).unseedHead h) := by
  by_cases same : ∀ o, (s.head h).announced = some o → ¬o.Differs a
  · exact .inl ⟨same, State.validAnnounce_of_same same⟩
  · push Not at same
    obtain ⟨o, held, differs⟩ := same
    refine .inr ⟨o, held, differs, ?_⟩
    by_cases served : (s.head h).state = .online ∨ (s.head h).state = .silent
    · exact .inr ⟨served, State.validAnnounce_of_reannounced held differs served⟩
    · exact .inl ⟨served, State.validAnnounce_of_changed held differs served⟩

theorem State.validAnnounce_head : (s.validAnnounce h a).head h = s.announcedRecord h a := by
  obtain ⟨-, record, -⟩ := State.broughtOnline_keeps (s := s) (h := h) (a := a)
  rcases s.validAnnounce_cases h a with ⟨-, e⟩ | ⟨o, -, -, ⟨-, e⟩ | ⟨-, e⟩⟩ <;> simp [e, record]

/-- An unseed request of the head's slot is all that a change of the convention does to the strands. -/
theorem State.validAnnounce_strands {o : Announced} (held : (s.head h).announced = some o) (differs : o.Differs a) :
    (s.validAnnounce h a).strands = ((s.broughtOnline h a).unseedHead h).strands := by
  have line (u : State) (n : Notice) : ((u.raise n).unseedHead h).strands = (u.unseedHead h).strands := by
    rcases assigned : (u.head h).assignment with - | ⟨i, k⟩
    · rw [State.unseedHead_of_unassigned assigned, State.unseedHead_of_unassigned (by simpa using assigned)]
      simp
    · rw [State.unseedHead_of_assigned assigned, State.unseedHead_of_assigned (i := i) (k := k) (by simpa using assigned)]
      simp [State.requestUnseed, State.modStrand, State.setStrand]
  by_cases served : (s.head h).state = .online ∨ (s.head h).state = .silent
  · rw [State.validAnnounce_of_reannounced held differs served, line]
  · rw [State.validAnnounce_of_changed held differs served]

/-- A strand that does not hold the head is as it was. -/
theorem State.unseedHead_other {i : Fin 4} (unassigned : ∀ k, (s.head h).assignment ≠ some (i, k)) :
    (s.unseedHead h).strand i = s.strand i := by
  rcases assigned : (s.head h).assignment with - | ⟨j, k⟩
  · rw [State.unseedHead_of_unassigned assigned]
  · have other : i ≠ j := fun e => unassigned k (e ▸ assigned)
    simp [State.unseedHead_of_assigned assigned, other]

theorem State.validAnnounce_other {i : Fin 4} (unassigned : ∀ k, (s.head h).assignment ≠ some (i, k)) :
    (s.validAnnounce h a).strand i = s.strand i := by
  obtain ⟨strands, record, -⟩ := State.broughtOnline_keeps (s := s) (h := h) (a := a)
  have same : (s.broughtOnline h a).strand i = s.strand i := State.strand_of_strands strands i
  have slot : ∀ k, ((s.broughtOnline h a).head h).assignment ≠ some (i, k) := by
    rw [record]
    exact unassigned
  rcases s.validAnnounce_cases h a with ⟨-, e⟩ | ⟨o, -, -, ⟨-, e⟩ | ⟨-, e⟩⟩
  · rw [e, same]
  · rw [e, State.unseedHead_other slot, same]
  · rw [e, State.unseedHead_other (by simpa using slot), State.raise_strand, same]

/-- The slot of an assigned head is unseeded, at once or after the evaluation in flight (R30, R102). -/
theorem State.validAnnounce_unseeds {o : Announced} {i : Fin 4} {k : Fin 6} (held : (s.head h).announced = some o)
    (differs : o.Differs a) (assigned : (s.head h).assignment = some (i, k)) :
    let st := s.strand i
    let t := s.validAnnounce h a
    (st.eval ≠ none → t.strand i = { st with unseed := st.unseed ||| 1#6 <<< k.val }) ∧
      (st.eval = none → t.strand i = { st with filters := (t.strand i).filters } ∧
        ∀ n : Fin 256, (t.strand i).filters[n] =
          match st.activeBank.placements[n.val]? with
          | some x => if x.entry.geo.slot = k then none else st.filters[n]
          | none => st.filters[n]) := by
  obtain ⟨strands, record, -⟩ := State.broughtOnline_keeps (s := s) (h := h) (a := a)
  have same : (s.broughtOnline h a).strand i = s.strand i := State.strand_of_strands strands i
  have slot : ((s.broughtOnline h a).head h).assignment = some (i, k) := by
    rw [record]
    exact assigned
  have result : (s.validAnnounce h a).strand i = ((s.broughtOnline h a).requestUnseed i k).strand i := by
    rw [← State.unseedHead_of_assigned slot]
    exact State.strand_of_strands (State.validAnnounce_strands held differs) i
  intro st t
  refine ⟨fun busy => ?_, fun free => ?_⟩
  · rw [result, State.requestUnseed_of_busy (by rwa [same]), same]
    rfl
  · have unseeded : t.strand i = st.applyUnseed (oneSlot k) := by
      rw [result, State.requestUnseed_of_free (by rwa [same]), same]
    rw [unseeded]
    exact ⟨rfl, Strand.applyUnseed_filters st k⟩

/-- But for the strands, an announce that raises no HEAD_REANNOUNCED only brings its head ONLINE. -/
theorem State.validAnnounce_quiet
    (same : ∀ o, (s.head h).announced = some o → o.Differs a → (s.head h).state ≠ .online ∧ (s.head h).state ≠ .silent) :
    s.validAnnounce h a = { s.broughtOnline h a with strands := (s.validAnnounce h a).strands } := by
  rcases s.validAnnounce_cases h a with ⟨-, e⟩ | ⟨o, held, differs, ⟨-, e⟩ | ⟨served, -⟩⟩
  · rw [e]
  · rw [e]
    exact State.unseedHead_eq _ h
  · obtain ⟨online, silent⟩ := same o held differs
    exact absurd served (by simp [online, silent])

theorem State.validAnnounce_noticed {o : Announced} (held : (s.head h).announced = some o) (differs : o.Differs a)
    (served : (s.head h).state = .online ∨ (s.head h).state = .silent) : s.validAnnounce h a =
      { (s.broughtOnline h a).raise (.headReannounced h o a) with strands := (s.validAnnounce h a).strands } := by
  rw [State.validAnnounce_of_reannounced held differs served]
  exact State.unseedHead_eq _ h

end

/-! ### The judgement of an announce -/

/-- The four marker words (R27). -/
theorem orientation_eq_some (n : Nat) (o : SampleOrder) (g : HeightSign) : orientation n = some (o, g) ↔
    (n = 0xC3A5 ∧ o = .forward ∧ g = .up ∨ n = 0xA5C3 ∧ o = .reversed ∧ g = .up ∨
      n = 0x3C5A ∧ o = .forward ∧ g = .down ∨ n = 0x5A3C ∧ o = .reversed ∧ g = .down) := by
  unfold orientation
  split_ifs <;> subst_vars <;> cases o <;> cases g <;> simp <;> omega

theorem checkModeOfCode_none {n : Nat} (h : 1 < n) : checkModeOfCode n = none := by
  unfold checkModeOfCode
  split <;> simp_all

theorem checkModeOfCode_some {x : Byte} (h : x.toNat ≤ 1) :
    checkModeOfCode x.toNat = some (if x = 0 then .crc16 else .lrc8) := by
  rcases (by omega : x.toNat = 0 ∨ x.toNat = 1) with e | e
  · have zero : x = 0 := BitVec.eq_of_toNat_eq e
    simp [zero, checkModeOfCode]
  · have other : ¬x = 0#8 := fun zero => by simp [zero] at e
    simp [e, other, checkModeOfCode]

/-- The judgement by the announced values. -/
theorem judgeAnnounce_of_fields {p : List Byte} {marker width scale tag : Nat} {mode : Byte}
    (hmarker : fieldNat p 0 2 = marker) (hwidth : fieldNat p 2 2 = width) (hscale : fieldNat p 4 1 = scale)
    (hmode : fieldNat p 5 1 = mode.toNat) (htag : fieldNat p 6 4 = tag) :
    ((∀ o g, orientation marker ≠ some (o, g)) → judgeAnnounce p = .error .badMarker) ∧
    (∀ o g, orientation marker = some (o, g) →
      (width < 64 ∨ 512 < width ∨ 7 < scale ∨ 1 < mode.toNat → judgeAnnounce p = .error .badAnnounce) ∧
      (64 ≤ width → width ≤ 512 → scale ≤ 7 → mode.toNat ≤ 1 → judgeAnnounce p = .ok
        { width := width, order := o, sign := g, scaleCode := scale,
          checkMode := if mode = 0 then .crc16 else .lrc8, serialTag := tag })) := by
  refine ⟨fun unnamed => ?_, fun o g named => ⟨fun bad => ?_, fun low high scaled coded => ?_⟩⟩
  · have none : orientation marker = none := by
      cases e : orientation marker with
      | none => rfl
      | some x => exact absurd e (unnamed x.1 x.2)
    simp only [judgeAnnounce, hmarker, none]
  · simp only [judgeAnnounce, hmarker, named, hwidth, hscale, hmode]
    split
    · rfl
    · have coded : 1 < mode.toNat := by omega
      rw [checkModeOfCode_none coded]
  · simp only [judgeAnnounce, hmarker, named, hwidth, hscale, hmode, htag]
    rw [if_neg (by omega), checkModeOfCode_some coded]

theorem judgeAnnounce_bytes (m1 m0 w1 w0 scale mode b3 b2 b1 b0 : Byte) :
    let p := [m1, m0, w1, w0, scale, mode, b3, b2, b1, b0]
    let marker := m1.toNat * 256 + m0.toNat
    let width := w1.toNat * 256 + w0.toNat
    let names := fun (o : SampleOrder) (g : HeightSign) =>
      marker = 0xC3A5 ∧ o = .forward ∧ g = .up ∨ marker = 0xA5C3 ∧ o = .reversed ∧ g = .up ∨
        marker = 0x3C5A ∧ o = .forward ∧ g = .down ∨ marker = 0x5A3C ∧ o = .reversed ∧ g = .down
    ((∀ o g, ¬names o g) → judgeAnnounce p = .error .badMarker) ∧
    (∀ o g, names o g →
      (width < 64 ∨ 512 < width ∨ 7 < scale.toNat ∨ 1 < mode.toNat → judgeAnnounce p = .error .badAnnounce) ∧
      (64 ≤ width → width ≤ 512 → scale.toNat ≤ 7 → mode.toNat ≤ 1 → judgeAnnounce p = .ok
        { width := width, order := o, sign := g, scaleCode := scale.toNat,
          checkMode := if mode = 0 then .crc16 else .lrc8,
          serialTag := ((b3.toNat * 256 + b2.toNat) * 256 + b1.toNat) * 256 + b0.toNat })) := by
  intro p marker width names
  have named (o : SampleOrder) (g : HeightSign) : orientation marker = some (o, g) ↔ names o g := orientation_eq_some ..
  have judged := judgeAnnounce_of_fields (p := p) (marker := marker) (width := width) (scale := scale.toNat) (mode := mode)
    (tag := ((b3.toNat * 256 + b2.toNat) * 256 + b1.toNat) * 256 + b0.toNat)
    (by simp [p, marker, fieldNat, field, beNat]) (by simp [p, width, fieldNat, field, beNat])
    (by simp [p, fieldNat, field, beNat]) (by simp [p, fieldNat, field, beNat]) (by simp [p, fieldNat, field, beNat])
  simpa only [named, ne_eq] using judged

/-- Settles O42: the convention changes or not, and the head is in service or not. -/
theorem announceJudged : Obligations.AnnounceJudged := by
  refine ⟨fun s h p => ⟨fun held => if_pos held, fun other => ⟨fun a valid => ?_, fun c invalid => ?_⟩⟩, judgeAnnounce_bytes⟩
  · have judged : s.announce h p = s.validAnnounce h a := by
      simp only [State.announce, if_neg other, valid]
    obtain ⟨strands, record, target, seq⟩ := State.broughtOnline_keeps (s := s) (h := h) (a := a)
    have head := State.validAnnounce_head (s := s) (h := h) (a := a)
    dsimp only
    rw [judged]
    refine ⟨head.trans State.announcedRecord_eq, fun k hk => by simp [hk],
      by simp [SameWorld, SameHandler, SameHandling, SameLine, s.validAnnounce_lineGrows h a], by simp, by simp, by simp,
      fun i unassigned => State.validAnnounce_other unassigned, fun same => ?_, fun o i k held differs assigned => ?_,
      ⟨fun same => ?_, fun o held differs served => ?_⟩, fun same => ⟨?_, fun online => ?_⟩, fun o held differs served => ?_⟩
    · rw [State.validAnnounce_of_same same, strands]
    · exact State.validAnnounce_unseeds held differs assigned
    · rw [head]
      exact State.validAnnounce_quiet same
    · rw [head]
      exact State.validAnnounce_noticed held differs served
    · rw [State.validAnnounce_quiet same]
      exact seq
    · rw [State.validAnnounce_quiet same, State.broughtOnline, if_pos online]
      simp [NoNotice]
    · have room := State.length_broughtOnline_le (s := s) (h := h) (a := a)
      rw [State.validAnnounce_noticed held differs served]
      refine ⟨by simp [seq], fun few => ?_⟩
      have entered := State.raise_of_room (s := s.broughtOnline h a) (.headReannounced h o a) (by omega)
      rw [seq, target] at entered
      refine (congrArg State.latestRecord entered).trans ?_
      simp
  · have judged : s.announce h p = s.faultHead h c := by
      simp only [State.announce, if_neg other, invalid]
    rw [judged, State.faultHead_eq]

end Sys2Proof.Machine
end

section
/-! Proofs: the reads (R90, R157 to R159), and the requests that are refused before their block looks at the state (R155, R156). -/

namespace Sys2Proof.Machine

/-! ### The reads -/

/-- An accepted read answers its body, and changes nothing. -/
theorem read_answers {s : State} {r : Request} {c : Instr} {act : Request → State → State × Answer} {body : List Byte}
    (cls : r.sourceClass ≠ .none) (run : exec c s = .next (s.carryOut c act)) (acted : act r s = readAnswer s body)
    (serves : Serves s r c) : ∃ t, exec c s = .next t ∧ OnlyAnswered s t r { status := .accepted, body := body } :=
  ⟨_, run, State.carryOut_only serves cls acted⟩

theorem counterGroup_strand (s : State) (i : Fin 4) : s.counterGroup (2 + i.val) = some (strandGroup (s.strand i)) := by
  fin_cases i <;> rfl

/-- Settles O45: each read's body is the bytes of its layout. -/
theorem readsAnswerAndChangeNothing : Obligations.ReadsAnswerAndChangeNothing := by
  intro s r cls Answers
  have counters (g : Nat) (l : List Nat) (group : s.counterGroup g = some l) : Answers (.countersRead g) (encCounters l) :=
    read_answers cls rfl (by simp only [group])
  refine ⟨fun h => ?_, fun i => ⟨?_, fun id => ⟨?_, fun e => ?_⟩, fun first low => ?_, ?_⟩, ?_, ?_, counters, ?_⟩
  · rw [bytesOf_headLayout]
    exact read_answers cls rfl (onHead_val s h _)
  · rw [bytesOf_strandLayout]
    exact read_answers cls rfl (onStrand_val s i _)
  · rw [bytesOf_bankReadLayout]
    exact read_answers cls rfl (onBank_val s i id _)
  · rw [bytesOf_append, bytesOf_bankLayout, bytesOf_entryLayout]
    exact read_answers cls rfl ((onBank_val s i id _).trans (by simp only [entryOfNat_val]; rfl))
  · rw [bytesOf_mapLayout]
    exact read_answers cls rfl ((onStrand_val s i _).trans (if_neg low.not_gt))
  · rw [bytesOf_words]
    exact counters _ _ (counterGroup_strand s i)
  · rw [bytesOf_words]
    exact counters 0 _ rfl
  · rw [bytesOf_words]
    exact counters 1 _ rfl
  · rw [bytesOf_routeLayout]
    exact read_answers cls rfl rfl

/-! ### Refused before the block looks at the state -/

section
variable {s : State} {r : Request} {c : Instr}

/-- Every kind but an unknown one is refused to a source of class NONE. -/
theorem exec_of_class_none (serves : Serves s r c) (request : c.isRequest = true) (known : ∀ k, c ≠ .unknownRequest k)
    (cls : r.sourceClass = .none) : exec c s = .next (s.finish r { status := .notPermitted }) := by
  have refused (act : Request → State → State × Answer) : s.carryOut c act = s.finish r { status := .notPermitted } := by
    rw [State.carryOut_of_serves act serves, if_pos cls]
  cases c
  case unknownRequest k => exact absurd rfl (known k)
  case countersClear =>
    refine congrArg Host.Outcome.next ?_
    simp only [State.requestClear, State.ready_of_serves serves, if_pos cls]
  case powerOnReset | headerReceived | truncated | frameComplete | frameTransmitted | releaseDelayExpiry
      | announceTimeoutExpiry | stallTimeExpiry | scanWaitExpiry | evaluationComplete | restartTakesEffect | frameStart =>
    exact absurd request Bool.false_ne_true
  all_goals exact congrArg Host.Outcome.next (refused _)

theorem exec_unknownRequest {k : Nat} (serves : Serves s r (.unknownRequest k)) :
    exec (.unknownRequest k) s = .next (s.finish r { status := .unknownRequest }) :=
  congrArg Host.Outcome.next (by simp only [State.refuseUnknown, State.ready_of_serves serves])

/-- A kind that needs the class ENGINEERING. -/
theorem exec_refuses_operator {act : State → State × Answer} (serves : Serves s r c) (cls : r.sourceClass = .operator)
    (run : exec c s = .next (s.carryOut c (engineering act))) :
    ∃ t, exec c s = .next t ∧ OnlyAnswered s t r { status := .notPermitted } :=
  ⟨_, run, State.carryOut_engineering_refuses act serves (by simp [cls])⟩

/-- An index or a code out of range, of a kind that an OPERATOR may send. -/
theorem exec_out_of_range {act : Request → State → State × Answer} (serves : Serves s r c) (cls : r.sourceClass ≠ .none)
    (run : exec c s = .next (s.carryOut c act)) (acted : act r s = (s, { status := .outOfRange })) :
    ∃ t, exec c s = .next t ∧ OnlyAnswered s t r { status := .outOfRange } :=
  ⟨_, run, State.carryOut_only serves cls acted⟩

/-- The same, of a kind that needs the class ENGINEERING. -/
theorem exec_out_of_range_engineering {act : State → State × Answer} (serves : Serves s r c)
    (cls : r.sourceClass = .engineering) (run : exec c s = .next (s.carryOut c (engineering act)))
    (acted : act s = (s, { status := .outOfRange })) :
    ∃ t, exec c s = .next t ∧ OnlyAnswered s t r { status := .outOfRange } :=
  exec_out_of_range serves (by simp [cls]) run ((engineering_of_engineering s act cls).trans acted)

/-- A strand's request that is refused for every strand. -/
theorem onStrand_of_refusing {act : Fin 4 → State → State × Answer} (n : Nat)
    (acted : ∀ i, act i s = (s, { status := .outOfRange })) : onStrand n act s = (s, { status := .outOfRange }) := by
  unfold onStrand
  split
  · exact acted _
  · rfl

theorem onBank_of_refusing {act : Fin 4 → BankId → State → State × Answer} (n b : Nat)
    (acted : ∀ i id, act i id s = (s, { status := .outOfRange })) : onBank n b act s = (s, { status := .outOfRange }) := by
  unfold onBank
  split
  · exact acted _ _
  · rfl

theorem onEntry_of_refusing {act : Fin 4 → BankId → Fin 64 → State → State × Answer} (n b e : Nat)
    (acted : ∀ i id x, act i id x s = (s, { status := .outOfRange })) : onEntry n b e act s = (s, { status := .outOfRange }) := by
  refine onBank_of_refusing n b fun i id => ?_
  split
  · exact acted _ _ _
  · rfl

end

/-- A slot byte that names neither a head nor the empty slot. -/
theorem slotOfByte_none {n : Nat} (high : 15 < n) (filled : n ≠ 255) : slotOfByte n = none := by
  simp [slotOfByte, filled, headOfNat_none high]

theorem slotsOfBytes_none {v : Vector Nat 6} {k : Fin 6} (high : 15 < v[k]) (filled : v[k] ≠ 255) : slotsOfBytes v = none := by
  cases named : slotsOfBytes v with
  | none => rfl
  | some w =>
    have all : ∀ k : Fin 6, (slotOfByte v[k]).isSome := by
      unfold slotsOfBytes at named
      split at named
      · next h0 h1 h2 h3 h4 h5 =>
        intro k
        fin_cases k <;> simp [*]
      · cases named
    exact absurd (slotOfByte_none high filled) (Option.isSome_iff_ne_none.mp (all k))

theorem counterGroup_none (s : State) {g : Nat} (h : 5 < g) : s.counterGroup g = none := by
  unfold State.counterGroup
  split <;> simp_all

/-- Settles O44: the unknown kind first, then the class, and then the indices and codes of each kind. -/
theorem requestRefusedUnchanged : Obligations.RequestRefusedUnchanged := by
  unfold Obligations.RequestRefusedUnchanged
  intro engineers
  refine ⟨fun s r a free => s.finish_onlyAnswered r a free, fun s r c serves => ⟨?_, fun request known none => ?_, ?_⟩, ?_⟩
  · rintro k rfl
    exact ⟨_, exec_unknownRequest serves, s.finish_onlyAnswered r _ serves.1⟩
  · exact ⟨_, exec_of_class_none serves request known none, s.finish_onlyAnswered r _ serves.1⟩
  · rintro operator (⟨i, b, e, g, n, f, rfl⟩ | ⟨i, b, n, x, rfl⟩ | ⟨i, n, rfl⟩ | ⟨i, o, rfl⟩ | ⟨i, rfl⟩ | ⟨i, v, p, rfl⟩ |
      ⟨x, rfl⟩ | ⟨h, o, d, w, rfl⟩ | ⟨n, a, k, rfl⟩ | ⟨n, rfl⟩ | rfl)
    all_goals exact exec_refuses_operator serves operator rfl
  · intro s r c serves cls range
    have known : r.sourceClass ≠ .none := by rcases cls with e | ⟨e, -⟩ <;> simp [e]
    have engineer (needs : engineers c) : r.sourceClass = .engineering := cls.resolve_right fun h => h.2 needs
    rcases range with ⟨h, high, hc⟩ | ⟨i, high, hc⟩ | ⟨i, b, high, hc⟩ | ⟨i, b, e, high, hc⟩ | ⟨i, b, e, g, n, f, bad, rfl⟩ |
      ⟨i, o, bad, rfl⟩ | ⟨i, n, bad, rfl⟩ | ⟨g, bad, rfl⟩ | ⟨n, a, k, bad, rfl⟩ | ⟨n, bad, rfl⟩ | ⟨i, v, p, k, bad, filled, rfl⟩
    · rcases hc with rfl | rfl | rfl | ⟨o, d, w, rfl⟩
      · exact exec_out_of_range serves known rfl (onHead_refuses s _ high)
      · exact exec_out_of_range serves known rfl (onHead_refuses s _ high)
      · exact exec_out_of_range serves known rfl (onHead_refuses s _ high)
      · exact exec_out_of_range_engineering serves (engineer (by simp [engineers])) rfl (onHead_refuses s _ high)
    · rcases hc with rfl | rfl | rfl | rfl | rfl | ⟨n, rfl | rfl | rfl | rfl⟩ | ⟨v, p, rfl⟩ | ⟨b, e, rfl⟩ |
        ⟨b, e, g, n, f, rfl⟩ | ⟨b, e, n, f, rfl⟩ | ⟨b, n, x, rfl⟩
      · exact exec_out_of_range serves known rfl (onStrand_refuses s _ high)
      · exact exec_out_of_range serves known rfl (onStrand_refuses s _ high)
      · exact exec_out_of_range serves known rfl (onStrand_refuses s _ high)
      · exact exec_out_of_range serves known rfl (onStrand_refuses s _ high)
      · exact exec_out_of_range_engineering serves (engineer (by simp [engineers])) rfl (onStrand_refuses s _ high)
      · exact exec_out_of_range_engineering serves (engineer (by simp [engineers])) rfl (onStrand_refuses s _ high)
      · exact exec_out_of_range_engineering serves (engineer (by simp [engineers])) rfl (onStrand_refuses s _ high)
      · exact exec_out_of_range serves known rfl (onStrand_refuses s _ high)
      · exact exec_out_of_range serves known rfl (onBank_refuses s _ (.inl high))
      · exact exec_out_of_range_engineering serves (engineer (by simp [engineers])) rfl (onStrand_refuses s _ high)
      · exact exec_out_of_range serves known rfl (onBank_refuses s _ (.inl high))
      · exact exec_out_of_range_engineering serves (engineer (by simp [engineers])) rfl (onEntry_refuses s _ (.inl high))
      · exact exec_out_of_range serves known rfl (onEntry_refuses s _ (.inl high))
      · exact exec_out_of_range_engineering serves (engineer (by simp [engineers])) rfl (onBank_refuses s _ (.inl high))
    · rcases hc with rfl | ⟨e, rfl⟩ | ⟨e, g, n, f, rfl⟩ | ⟨e, n, f, rfl⟩ | ⟨n, x, rfl⟩
      · exact exec_out_of_range serves known rfl (onBank_refuses s _ (.inr high))
      · exact exec_out_of_range serves known rfl (onBank_refuses s _ (.inr high))
      · exact exec_out_of_range_engineering serves (engineer (by simp [engineers])) rfl (onEntry_refuses s _ (.inr (.inl high)))
      · exact exec_out_of_range serves known rfl (onEntry_refuses s _ (.inr (.inl high)))
      · exact exec_out_of_range_engineering serves (engineer (by simp [engineers])) rfl (onBank_refuses s _ (.inr high))
    · rcases hc with rfl | ⟨g, n, f, rfl⟩ | ⟨n, f, rfl⟩
      · exact exec_out_of_range serves known rfl (onBank_of_refusing i b fun _ _ => by simp only [entryOfNat_none high]; rfl)
      · exact exec_out_of_range_engineering serves (engineer (by simp [engineers])) rfl (onEntry_refuses s _ (.inr (.inr high)))
      · exact exec_out_of_range serves known rfl (onEntry_refuses s _ (.inr (.inr high)))
    · refine exec_out_of_range_engineering serves (engineer (by simp [engineers])) rfl
        (onEntry_of_refusing i b e fun _ _ _ => if_neg fun fits => ?_)
      exact bad.elim (· fits.1) (not_lt.mpr fits.2)
    · exact exec_out_of_range_engineering serves (engineer (by simp [engineers])) rfl
        (onStrand_of_refusing i fun _ => if_neg bad)
    · exact exec_out_of_range serves known rfl (onStrand_of_refusing i fun _ => if_pos bad)
    · exact exec_out_of_range serves known rfl (by simp only [counterGroup_none s bad]; rfl)
    · refine exec_out_of_range_engineering serves (engineer (by simp [engineers])) rfl ?_
      rcases bad with high | high | high
      · simp only [stationOfNat_none high]; rfl
      · simp only [actionOfCode_none high]; cases stationOfNat n <;> rfl
      · simp only [classOfCode_none high]; cases stationOfNat n <;> cases actionOfCode a <;> rfl
    · exact exec_out_of_range_engineering serves (engineer (by simp [engineers])) rfl (if_neg bad.not_ge)
    · exact exec_out_of_range_engineering serves (engineer (by simp [engineers])) rfl
        (onStrand_of_refusing i fun _ => by simp only [slotsOfBytes_none bad filled]; rfl)

end Sys2Proof.Machine
end

section
/-! Proofs: what the operations of the Slice Assembler and of the end of a run do to their own strand, and how the blocks that see
the strands one after the other compose. -/

namespace Sys2Proof.Machine

/-! ### The frame that events share -/

theorem SameWorld.refl (s : State) : SameWorld s s := by
  simp [SameWorld, SameLine, SameHandler, SameHandling, LineGrows.refl]

theorem SameWorld.trans {s t u : State} (h : SameWorld s t) (k : SameWorld t u) : SameWorld s u := by
  obtain ⟨h1, h2, h3, h4, h5, h6, ⟨l1, l2, l3, l4, l5⟩, ⟨r1, r2, ⟨r3, r4⟩, r5, r6, r7, r8⟩⟩ := h
  obtain ⟨k1, k2, k3, k4, k5, k6, ⟨m1, m2, m3, m4, m5⟩, ⟨q1, q2, ⟨q3, q4⟩, q5, q6, q7, q8⟩⟩ := k
  exact ⟨k1.trans h1, k2.trans h2, k3.trans h3, k4.trans h4, k5.trans h5, k6.trans h6,
    ⟨m1.trans l1, m2.trans l2, m3.trans l3, m4.trans l4, l5.trans m5⟩,
    ⟨q1.trans r1, q2.trans r2, ⟨q3.trans r3, q4.trans r4⟩, q5.trans r5, q6.trans r6, q7.trans r7, q8.trans r8⟩⟩

/-- A change of a strand changes none of what events share. -/
theorem State.modStrand_sameWorld (s : State) (i : Fin 4) (f : Strand → Strand) : SameWorld s (s.modStrand i f) := by
  simp [SameWorld, SameLine, SameHandler, SameHandling, LineGrows.refl]

/-! ### Strands informed one after the other -/

/-- Where each turn of a fold leaves the other strands as they are, strand `j` meets its own turn as it was at the start, and keeps
what that turn made of it. -/
theorem foldl_turn {f : State → Fin 4 → State} (other : ∀ s i j, j ≠ i → (f s i).strand j = s.strand j) {j : Fin 4} :
    ∀ {l : List (Fin 4)} (s : State), l.Nodup → j ∈ l →
      ∃ before after, l = before ++ j :: after ∧ (before.foldl f s).strand j = s.strand j ∧
        (l.foldl f s).strand j = (f (before.foldl f s) j).strand j := by
  have absent : ∀ (l : List (Fin 4)) (s : State), j ∉ l → (l.foldl f s).strand j = s.strand j := fun l s hj =>
    List.foldlRecOn (motive := fun t : State => t.strand j = s.strand j) l f rfl fun t ht i hi =>
      (other t i j fun e => hj (e ▸ hi)).trans ht
  intro l s nodup hj
  obtain ⟨before, after, rfl⟩ := List.append_of_mem hj
  have apart := List.nodup_append.mp nodup
  have hbefore : j ∉ before := fun hm => apart.2.2 j hm j (by simp) rfl
  have hafter : j ∉ after := (List.nodup_cons.mp apart.2.1).1
  refine ⟨before, after, rfl, absent before s hbefore, ?_⟩
  rw [List.foldl_append, List.foldl_cons, absent after _ hafter]

theorem nodup_allStrands : allStrands.Nodup := by decide

/-! ### What the Slice Assembler leaves of its strand -/

/-- A projection of a strand that no operation of the Slice Assembler on its sets changes: it reads neither the sets, nor the
evaluation, nor the counters of the assembler, nor what a switch changes. -/
structure BesideSets {α : Type} (proj : Strand → α) : Prop where
  sets : ∀ st x n, proj { st with sets := x, asmCounters := n } = proj st
  eval : ∀ st x, proj { st with eval := x } = proj st
  exchange : ∀ st : Strand, proj st.exchangeBanks = proj st

section
variable (s : State) (i : Fin 4)

theorem State.takeSwitch_same (p : PendingSwitch) (k : Option Nat) :
    (s.takeSwitch i p k).strand i = (s.strand i).exchangeBanks := by
  rw [State.takeSwitch, State.raise_strand, State.switchBanks_same]

/-- At the beginning of an evaluation a switch is taken or not (R96). -/
theorem State.decideSwitch_same (k : Nat) :
    (s.decideSwitch i k).strand i = s.strand i ∨ (s.decideSwitch i k).strand i = (s.strand i).exchangeBanks := by
  unfold State.decideSwitch
  split
  · split
    · split
      · exact .inr (s.takeSwitch_same i _ _)
      · exact .inl rfl
    · exact .inl rfl
  · exact .inl rfl

variable {s i}

/-- The oldest set is released where it is READY and the engine is FREE (R74). -/
theorem State.releaseRule_of_ready {x : SliceSet} {rest : List SliceSet} (hs : (s.strand i).sets = x :: rest)
    (hr : x.ready = true) (he : (s.strand i).eval = none) :
    s.releaseRule i =
      ((s.modStrand i fun st =>
        { st with sets := rest, asmCounters.slicesReleased := inc st.asmCounters.slicesReleased }).decideSwitch i
        x.slice).startEvaluation i x := by
  simp only [State.releaseRule, hs, hr, he, Option.isNone_none, and_self, if_true]

theorem State.releaseRule_of_busy (he : (s.strand i).eval ≠ none) : s.releaseRule i = s := by
  unfold State.releaseRule
  split
  · rw [if_neg fun h => he (Option.isNone_iff_eq_none.mp h.2)]
  · rfl

theorem State.releaseRule_of_open {x : SliceSet} {rest : List SliceSet} (hs : (s.strand i).sets = x :: rest)
    (hr : x.ready = false) : s.releaseRule i = s := by
  simp [State.releaseRule, hs, hr]

theorem State.releaseRule_of_empty (hs : (s.strand i).sets = []) : s.releaseRule i = s := by
  simp only [State.releaseRule, hs]

/-- The release rule does nothing, or it releases the oldest set, whose evaluation begins (R74, R100). -/
theorem State.releaseRule_cases (s : State) (i : Fin 4) :
    s.releaseRule i = s ∨ ∃ x rest, (s.strand i).sets = x :: rest ∧ x.ready = true ∧ (s.strand i).eval = none ∧
      s.releaseRule i =
        ((s.modStrand i fun st =>
          { st with sets := rest, asmCounters.slicesReleased := inc st.asmCounters.slicesReleased }).decideSwitch i
          x.slice).startEvaluation i x := by
  cases hs : (s.strand i).sets with
  | nil => exact .inl (State.releaseRule_of_empty hs)
  | cons x rest =>
    by_cases he : (s.strand i).eval = none
    · cases hr : x.ready with
      | false => exact .inl (State.releaseRule_of_open hs hr)
      | true => exact .inr ⟨x, rest, rfl, hr, he, State.releaseRule_of_ready hs hr he⟩
    · exact .inl (State.releaseRule_of_busy he)

/-- What a release leaves of the list and the engine, and of every projection beside them. -/
theorem State.releaseRule_of_ready_same {x : SliceSet} {rest : List SliceSet} (hs : (s.strand i).sets = x :: rest)
    (hr : x.ready = true) (he : (s.strand i).eval = none) :
    ((s.releaseRule i).strand i).sets = rest ∧ ∃ ev, ((s.releaseRule i).strand i).eval = some ev ∧ ev.set = x := by
  rw [State.releaseRule_of_ready hs hr he, State.startEvaluation, State.strand_modStrand_same]
  refine ⟨?_, _, rfl, rfl⟩
  rcases State.decideSwitch_same (s.modStrand i fun st =>
      { st with sets := rest, asmCounters.slicesReleased := inc st.asmCounters.slicesReleased }) i x.slice with e | e
  · simp [e]
  · simp [e, Strand.exchangeBanks, Strand.unseedAll]

variable {α : Type} {proj : Strand → α}

theorem State.decideSwitch_keeps (h : ∀ st : Strand, proj st.exchangeBanks = proj st) (s : State) (i : Fin 4) (k : Nat) :
    proj ((s.decideSwitch i k).strand i) = proj (s.strand i) := by
  rcases s.decideSwitch_same i k with e | e
  · rw [e]
  · rw [e, h]

theorem BesideSets.releaseRule (h : BesideSets proj) (s : State) (i : Fin 4) :
    proj ((s.releaseRule i).strand i) = proj (s.strand i) := by
  rcases s.releaseRule_cases i with e | ⟨x, rest, -, -, -, e⟩
  · rw [e]
  · rw [e, State.startEvaluation, State.strand_modStrand_same, h.eval, State.decideSwitch_keeps h.exchange,
      State.strand_modStrand_same]
    exact h.sets (s.strand i) ..

theorem BesideSets.forceOldest (h : BesideSets proj) (s : State) (i : Fin 4) :
    proj ((s.forceOldest i).strand i) = proj (s.strand i) := by
  unfold State.forceOldest
  split
  · split
    · rfl
    · rw [State.reportMisses_strand, State.strand_modStrand_same]
      exact h.sets (s.strand i) ..
  · rfl

theorem BesideSets.openSet (h : BesideSets proj) (s : State) (i : Fin 4) (k : Nat) (e : BitVec 6) :
    proj ((s.openSet i k e).strand i) = proj (s.strand i) := by
  have room : proj ((if (s.strand i).sets.length < setCapacity then s else (s.forceOldest i).releaseRule i).strand i) =
      proj (s.strand i) := by
    split
    · rfl
    · rw [h.releaseRule, h.forceOldest]
  unfold State.openSet
  dsimp only
  generalize (if (s.strand i).sets.length < setCapacity then s else (s.forceOldest i).releaseRule i) = t at room ⊢
  split
  · rw [State.strand_modStrand_same, ← room]
    exact h.sets (t.strand i) ..
  · rw [State.strand_modStrand_same, ← room]
    exact h.sets (t.strand i) (t.strand i).sets _

/-- A crossing changes of its strand, besides, the slice index, the last trigger with its time, and the strand's counters. -/
theorem BesideSets.crossing (h : BesideSets proj) (index : ∀ st n, proj { st with sliceIndex := n } = proj st)
    (trigger : ∀ st n m c, proj { st with lastTriggered := n, lastTriggerTime := m, counters := c } = proj st)
    (s : State) (i : Fin 4) : proj ((s.crossing i).strand i) = proj (s.strand i) := by
  have moved : proj ((s.modStrand i fun st =>
      { st with sliceIndex := s.ell i / (s.strand i).params.pitch }).strand i) = proj (s.strand i) := by
    rw [State.strand_modStrand_same, index]
  unfold State.crossing
  dsimp only
  generalize s.modStrand i (fun st => { st with sliceIndex := s.ell i / (s.strand i).params.pitch }) = t at moved ⊢
  split
  · split
    · rw [State.issueTrigger, h.openSet, State.enqueueTrigger_strand, State.strand_modStrand_same, ← moved]
      exact trigger (t.strand i) ..
    · rw [State.strand_modStrand_same, Strand.withhold, ← moved]
      exact trigger (t.strand i) _ (t.strand i).lastTriggerTime _
  · exact moved

end

/-! ### The state of a strand over the close check and the end of a run (R54, R55) -/

section
variable (s : State) (i : Fin 4)

theorem State.offerPiece_keeps {α : Type} {proj : Strand → α} (h : ∀ st x, proj { st with closed := x } = proj st) :
    proj ((s.offerPiece i).strand i) = proj (s.strand i) := by
  unfold State.offerPiece
  split
  · split
    · rw [State.enqueueRecord_strand, State.strand_modStrand_same, h]
    · rfl
  · rfl
  · rfl

theorem State.closePiece_state (cut : Cut) (b : Bool) :
    ((s.modStrand i fun st => st.closePiece i cut b).strand i).state = (s.strand i).state := by
  rw [State.strand_modStrand_same]
  rfl

theorem State.idleCheck_state :
    ((s.idleCheck i).strand i).state = (s.strand i).state ∨
      (s.strand i).state = .closed ∧ ((s.idleCheck i).strand i).state = .idle := by
  unfold State.idleCheck
  dsimp only
  split
  · next h => exact .inr ⟨h.1, by rw [State.enterIdle, State.changeStrand_same]⟩
  · exact .inl rfl

theorem State.mergeTail_state (x : Nat) (r : Run) (runs : List Run) :
    ((s.mergeTail i x r runs).strand i).state = (s.strand i).state := by
  rw [State.mergeTail, State.raise_strand, State.strand_modStrand_same]
  rfl

theorem State.addTail_state (x : Nat) : ((s.addTail i x).strand i).state = (s.strand i).state := by
  unfold State.addTail
  dsimp only
  split
  · rw [State.strand_modStrand_same]; rfl
  · split
    · exact s.mergeTail_state ..
    · split
      · exact s.mergeTail_state ..
      · rfl

/-- A piece that closes leaves its strand's state, but that a CLOSED strand may become IDLE (R55). -/
theorem State.closeCut_state (cut : Cut) :
    ((s.closeCut i cut).strand i).state = (s.strand i).state ∨
      (s.strand i).state = .closed ∧ ((s.closeCut i cut).strand i).state = .idle := by
  have tail : ((if (s.strand i).needsTail cut then s.addTail i cut.position else s).strand i).state =
      (s.strand i).state := by
    split
    · exact s.addTail_state i _
    · rfl
  have offered (t : State) (b : Bool) :
      ((((t.modStrand i fun st => st.closePiece i cut b).offerPiece i).modStrand i fun st =>
        { st with cuts := st.cuts.drop 1 }).strand i).state = (t.strand i).state := by
    rw [State.strand_modStrand_same, ← t.closePiece_state i cut b]
    exact State.offerPiece_keeps _ i (proj := Strand.state) fun _ _ => rfl
  rw [State.closeCut]
  rcases State.idleCheck_state (((State.modStrand (if (s.strand i).needsTail cut then s.addTail i cut.position else s) i
    fun st => st.closePiece i cut ((s.strand i).needsTail cut)).offerPiece i).modStrand i fun st =>
      { st with cuts := st.cuts.drop 1 }) i with same | ⟨closed, idle⟩
  · exact .inl (same.trans ((offered _ _).trans tail))
  · exact .inr ⟨(tail.symm.trans ((offered _ _).symm.trans closed)), idle⟩

theorem State.closeCuts_state (n : Nat) :
    ((s.closeCuts i n).strand i).state = (s.strand i).state ∨
      (s.strand i).state = .closed ∧ ((s.closeCuts i n).strand i).state = .idle := by
  induction n generalizing s with
  | zero => exact .inl rfl
  | succ n ih =>
    unfold State.closeCuts
    split
    · exact .inl rfl
    · next cut rest _ =>
      split
      · rcases s.closeCut_state i cut with e | ⟨hc, hi⟩
        · exact e ▸ ih (s.closeCut i cut)
        · rcases ih (s.closeCut i cut) with e | ⟨hc', -⟩
          · exact .inr ⟨hc, e.trans hi⟩
          · exact absurd (hc'.symm.trans hi) (by decide)
      · exact .inl rfl

theorem State.leaveDraining_state :
    ((s.leaveDraining i).strand i).state = .closed ∨ ((s.leaveDraining i).strand i).state = .idle := by
  have closed : ((((s.closeAtEnd i).switchAtClose i).changeStrand i .closed).strand i).state = .closed := by
    rw [State.changeStrand_same]
  rw [State.leaveDraining]
  rcases State.idleCheck_state ((((s.closeAtEnd i).switchAtClose i).changeStrand i .closed).closeCheck i) i with e | ⟨-, e⟩
  · rcases State.closeCuts_state (((s.closeAtEnd i).switchAtClose i).changeStrand i .closed) i _ with e' | ⟨-, e'⟩
    · exact .inl (e.trans (e'.trans closed))
    · exact .inr (e.trans e')
  · exact .inr e

/-- A check for the end of DRAINING leaves the state, or the strand is CLOSED or IDLE (R55). -/
theorem State.drainCheck_state :
    ((s.drainCheck i).strand i).state = (s.strand i).state ∨
      (s.strand i).state = .draining ∧
        (((s.drainCheck i).strand i).state = .closed ∨ ((s.drainCheck i).strand i).state = .idle) := by
  unfold State.drainCheck
  split
  · next h =>
    simp only [Strand.drained, Bool.and_eq_true, decide_eq_true_eq] at h
    obtain ⟨⟨draining, -⟩, -⟩ := h
    exact .inr ⟨draining, s.leaveDraining_state i⟩
  · exact .inl rfl

/-- A strand whose run has ended takes no more increases and press notices. -/
theorem State.endRun_not_live : ((s.endRun i).strand i).state.live = false := by
  unfold State.endRun
  split
  · have draining : ((s.changeStrand i .draining).strand i).state = .draining := by rw [State.changeStrand_same]
    rcases (s.changeStrand i .draining).drainCheck_state i with e | ⟨-, e | e⟩
    · rw [e, draining]; rfl
    · rw [e]; rfl
    · rw [e]; rfl
  · next h => simpa using h

end

end Sys2Proof.Machine
end

section
/-! Proofs: advances and the increase of L (R45, R46, R48, R53), and the stall (R46, R57). -/

namespace Sys2Proof.Machine

/-! ### An advance (R45) -/

/-- A forward difference within the greatest step is an advance (R45). -/
theorem State.judgeDelta_of_advance (s : State) (p : Puller) (count : Word32) {d : Nat} (hd : 0 < d)
    (hstep : d ≤ s.travel.config.maxStep) : s.judgeDelta p count d = s.advance d := by
  rw [State.judgeDelta, if_neg (by simpa using hstep), if_neg (by omega), if_pos (by omega), Int.natAbs_natCast]

/-- What an advance moves of the Travel Unit: the debt, the length and the residue. -/
theorem Travel.advance_eq (t : Travel) (d : Nat) :
    t.advance d = { t with
      debt := t.debt - d, length := (t.advance d).length, residue := (t.advance d).residue } := by
  unfold Travel.advance
  dsimp only
  split <;> rfl

theorem Travel.advance_of_debt {t : Travel} {d : Nat} (h : d ≤ t.debt) :
    (t.advance d).length = t.length ∧ (t.advance d).residue = t.residue := by
  have paid : t.effective d = 0 := Nat.sub_eq_zero_of_le h
  simp [Travel.advance, paid]

theorem Travel.advance_of_effective {t : Travel} {d : Nat} (h : t.debt < d) :
    (t.advance d).residue = t.total d % t.config.den ∧
      (t.advance d).length =
        if t.length < maxLength then min (t.length + t.total d / t.config.den) maxLength else t.length := by
  have left : t.effective d ≠ 0 := Nat.sub_ne_zero_of_lt h
  simp [Travel.advance, left]

/-- Settles O22: the record's difference is an advance of the Travel Unit whose reference and counter have moved, which pays the
debt and scales what is left. -/
theorem advanceMovesLength : Obligations.AdvanceMovesLength := by
  intro s p count ref d href hdrive hdelta hd hstep t total
  let u : Travel := (s.travel.countRecord p).setRef p count
  have counted : u.debt = s.travel.debt ∧ u.length = s.travel.length ∧ u.residue = s.travel.residue ∧
      u.config = s.travel.config := by cases p <;> exact ⟨rfl, rfl, rfl, rfl⟩
  obtain ⟨hdebt, hlength, hresidue, hconfig⟩ := counted
  have advanced : s.travelRecord p count = ({ s with travel := u } : State).advance d := by
    rw [s.travelRecord_of_driving count href hdrive, hdelta]
    exact State.judgeDelta_of_advance { s with travel := u } p count hd (by simpa [u] using hstep)
  have whole : s.travelRecord p count =
      if s.travel.length < (u.advance d).length then State.increase { s with travel := u.advance d }
      else { s with travel := u.advance d } := by
    rw [advanced, ← hlength]; rfl
  have debt : t.debt = (u.advance d).debt ∧ t.length = (u.advance d).length ∧ t.residue = (u.advance d).residue := by
    simp only [t]
    rw [whole]
    split
    · rw [State.increase_travel]; exact ⟨rfl, rfl, rfl⟩
    · exact ⟨rfl, rfl, rfl⟩
  obtain ⟨tdebt, tlength, tresidue⟩ := debt
  have hpaid : (u.advance d).debt = s.travel.debt - d := by rw [Travel.advance_eq, hdebt]
  have htotal : u.total d = total := by simp only [Travel.total, Travel.effective, hdebt, hconfig, hresidue, total]
  refine ⟨tdebt.trans hpaid, fun covered => ?_, fun left => ?_, ?_⟩
  · obtain ⟨len, res⟩ := Travel.advance_of_debt (t := u) (hdebt ▸ covered)
    exact ⟨tlength.trans (len.trans hlength), tresidue.trans (res.trans hresidue)⟩
  · obtain ⟨res, len⟩ := Travel.advance_of_effective (t := u) (hdebt ▸ left)
    rw [hlength, htotal, hconfig] at len
    refine ⟨tresidue.trans (by rw [res, htotal, hconfig]), fun below => ?_, fun atLimit => ?_⟩
    · exact tlength.trans (len.trans (if_pos below))
    · exact tlength.trans (len.trans (if_neg (Nat.not_lt.mpr atLimit)))
  · intro moved
    have hmoved : moved = u.advance d := by
      rw [Travel.advance_eq u d]
      simp only [moved, tdebt, tlength, tresidue, hpaid, hdebt, u]
      cases p <;> rfl
    rw [hmoved, tlength]
    exact whole

/-! ### An increase (R46, R48, R53) -/

section
variable (s : State) (i : Fin 4)

theorem State.informStrand_of_not_live {s : State} {i : Fin 4} (h : (s.strand i).state.live = false) :
    s.informStrand i = s := by
  unfold State.informStrand
  split <;> simp_all [StrandState.live]

theorem State.endRun_of_not_live {s : State} {i : Fin 4} (h : (s.strand i).state.live = false) : s.endRun i = s := by
  simp [State.endRun, h]

/-- A strand is informed by its state (R53). -/
theorem State.informStrand_eq : s.informStrand i =
    if (s.strand i).state = .armed ∨ (s.strand i).state = .stalled then (s.changeStrand i .running).crossing i
    else if (s.strand i).state = .running then s.crossing i
    else s := by
  unfold State.informStrand
  split
  case h_1 h | h_2 h | h_3 h | h_4 h | h_5 h | h_6 h => rw [h]; rfl

theorem State.crossing_state : ((s.crossing i).strand i).state = (s.strand i).state :=
  BesideSets.crossing (proj := Strand.state) ⟨fun _ _ _ => rfl, fun _ _ => rfl, fun _ => rfl⟩ (fun _ _ => rfl)
    (fun _ _ _ _ => rfl) s i

/-- A strand that takes increases is RUNNING once it is informed. -/
theorem State.informStrand_running (h : (s.strand i).state.live = true) : ((s.informStrand i).strand i).state = .running := by
  rw [State.informStrand_eq]
  split
  · rw [State.crossing_state, State.changeStrand_same]
  · next resting =>
    have running : (s.strand i).state = .running := by
      cases hs : (s.strand i).state <;> simp_all [StrandState.live]
    rw [if_pos running, State.crossing_state, running]

/-- What the strands of a list leave of strand `i`, if its own turn does. -/
theorem foldl_strand_eq {f : State → Fin 4 → State} {s : State} {i : Fin 4}
    (other : ∀ s i j, j ≠ i → (f s i).strand j = s.strand j)
    (own : ∀ t : State, t.strand i = s.strand i → (f t i).strand i = t.strand i) (l : List (Fin 4)) :
    (l.foldl f s).strand i = s.strand i :=
  List.foldlRecOn (motive := fun t : State => t.strand i = s.strand i) l f rfl fun t ht j _ => by
    by_cases hj : i = j
    · subst hj; exact (own t ht).trans ht
    · exact (other t j i hj).trans ht

theorem State.limitReached_of_reached (hl : s.travel.length = maxLength) (hf : s.travel.limitReached = false) :
    s.limitReached = allStrands.foldl State.endRun
      (State.raise { s with travel := { s.travel with limitReached := true } } (.lengthLimit s.travel.length)) :=
  if_pos ⟨hl, hf⟩

theorem State.limitReached_of_not (h : ¬(s.travel.length = maxLength ∧ s.travel.limitReached = false)) :
    s.limitReached = s := if_neg h

theorem State.increase_sameWorld : SameWorld s s.increase := by
  simp [SameWorld, SameHandler, SameHandling, SameLine, s.increase_lineGrows]

end

/-- Settles O23: the strands are informed in turn, each leaving the others, and then the limit is checked. -/
theorem increaseInformsStrands : Obligations.IncreaseInformsStrands := by
  intro s
  dsimp only
  let moving : State := { s with travel := { s.travel with moving := true, lastAdvance := some s.now } }
  let told : State := allStrands.foldl State.informStrand moving
  have htold : told.travel = moving.travel := foldl_informStrand_travel ..
  have informed (i : Fin 4) (live : (s.strand i).state.live = true) : (told.strand i).state = .running := by
    obtain ⟨before, -, -, same, turn⟩ := foldl_turn (fun s i j hj => s.informStrand_other hj) moving nodup_allStrands
      (mem_allStrands i)
    rw [turn]
    exact State.informStrand_running _ i (by rw [same]; exact live)
  have untold (i : Fin 4) (quiet : (s.strand i).state.live = false) : told.strand i = s.strand i :=
    foldl_strand_eq (s := moving) (fun s i j hj => s.informStrand_other hj)
      (fun t ht => by rw [State.informStrand_of_not_live (by rw [ht]; exact quiet)]) _
  let limited : State :=
    State.raise { told with travel := { told.travel with limitReached := true } } (.lengthLimit s.travel.length)
  have kept (i : Fin 4) : limited.strand i = told.strand i := State.strand_of_strands (by simp [limited]) i
  have whole : s.increase = if s.travel.length = maxLength ∧ s.travel.limitReached = false then
        allStrands.foldl State.endRun limited
      else told := by
    have length : told.travel.length = s.travel.length := by rw [htold]
    have flag : told.travel.limitReached = s.travel.limitReached := by rw [htold]
    by_cases h : s.travel.length = maxLength ∧ s.travel.limitReached = false
    · rw [if_pos h]
      exact (told.limitReached_of_reached (length.trans h.1) (flag.trans h.2)).trans
        (congrArg (fun n => allStrands.foldl State.endRun
          (State.raise { told with travel := { told.travel with limitReached := true } } (.lengthLimit n))) length)
    · rw [if_neg h]
      exact told.limitReached_of_not (by rwa [length, flag])
  have now : s.increase.now = s.now := by simp
  refine ⟨s.increase_sameWorld, now, ?_, fun i quiet => ?_, fun below i live => ?_, fun hl hf i => ?_, ?_,
    s.informStrand_eq⟩
  · simp only [State.increase_travel, maxLength]
    rfl
  · rw [whole]
    split
    · have same : limited.strand i = s.strand i := (kept i).trans (untold i quiet)
      have ended : (allStrands.foldl State.endRun limited).strand i = limited.strand i :=
        foldl_strand_eq (fun s i j hj => s.endRun_other hj)
          (fun u hu => by rw [State.endRun_of_not_live (by rw [hu, same]; exact quiet)]) _
      exact ended.trans same
    · exact untold i quiet
  · rw [whole, if_neg]
    · exact informed i live
    · rintro ⟨hl, hf⟩
      rcases below with below | reached
      · simp only [maxLength] at hl; omega
      · simp [reached] at hf
  · rw [whole, if_pos ⟨hl, hf⟩]
    obtain ⟨before, -, -, -, turn⟩ := foldl_turn (f := State.endRun) (fun s i j hj => s.endRun_other hj) limited
      nodup_allStrands (mem_allStrands i)
    rw [turn]
    exact State.endRun_not_live _ i
  · rw [show ([0, 1, 2, 3] : List (Fin 4)) = allStrands from rfl]
    exact whole

/-! ### The stall (R46, R57) -/

theorem State.stallStrand_same (s : State) (i : Fin 4) : (s.stallStrand i).strand i =
    if (s.strand i).state = .running then { s.strand i with state := .stalled } else s.strand i := by
  unfold State.stallStrand
  split
  · rw [State.changeStrand_same]
  · rfl

/-- A RUNNING strand stalls with its notice (R53, R57). -/
theorem State.stallStrand_eq (s : State) (i : Fin 4) : s.stallStrand i =
    if (s.strand i).state = .running then
      (s.modStrand i fun x => { x with state := .stalled }).raise (.strandState i .running .stalled)
    else s := by
  unfold State.stallStrand
  split
  · next h => rw [State.changeStrand_of_ne _ (by rw [h]; decide), h]
  · rfl

theorem State.stall_sameWorld (s : State) : SameWorld s s.stall := by
  simp [SameWorld, SameHandler, SameHandling, SameLine, s.stall_lineGrows]

/-- Settles O25: the change of a state by whether it is one, and the stall as the fold over the strands. -/
theorem stallTimeExpires : Obligations.StallTimeExpires := by
  refine ⟨fun s i new => ⟨fun same => s.changeStrand_of_eq same, fun change => s.changeStrand_of_ne change⟩, ?_⟩
  intro s a hm ha
  let reached : State := { s with now := max s.now (a + 1000 * s.travel.config.stallTime) }
  have expires : exec .stallTimeExpiry s = .next reached.stall := by
    have : s.stallExpires = reached.stall := by
      simp only [State.stallExpires, Travel.stallAt_of_moving hm ha]
      rfl
    rw [← this]; rfl
  refine ⟨reached.stall, expires, by simp [reached], reached.stall_travel, fun i => ?_, by simp [reached], by simp [reached],
    ?_, ?_⟩
  · obtain ⟨before, -, -, same, turn⟩ := foldl_turn (fun s i j hj => s.stallStrand_other hj)
      { reached with travel := { reached.travel with moving := false } } nodup_allStrands (mem_allStrands i)
    rw [State.stall, turn, State.stallStrand_same, same]
    rfl
  · exact reached.stall_sameWorld
  · rw [State.stall, show State.stallStrand = _ from funext fun s => funext s.stallStrand_eq]
    rfl

end Sys2Proof.Machine
end

section
/-! Proofs: cut notices (R138, R139), and how areas fold and are reported (R125, R126, R145). -/

namespace Sys2Proof.Machine

/-! ### Cut notices -/

section
variable (s : State) (i : Fin 4) (x : Nat)

theorem Strand.isBackward_iff (st : Strand) : st.isBackward x = true ↔
    x ≤ st.retired ∨ ∃ before c, st.cuts = before ++ [c] ∧ x ≤ c.position := by
  unfold Strand.isBackward
  rw [Bool.or_eq_true, decide_eq_true_eq]
  refine or_congr Iff.rfl ?_
  rcases List.eq_nil_or_concat st.cuts with h | ⟨before, c, h⟩
  · simp [h]
  · simp only [h, List.concat_eq_append, List.getLast?_append, List.getLast?_singleton, Option.some_or, decide_eq_true_eq]
    constructor
    · exact fun hx => ⟨before, c, rfl, hx⟩
    · rintro ⟨before', c', e, hx⟩
      obtain ⟨-, rfl⟩ := List.append_singleton_inj.mp e
      exact hx

/-- A cut notice of a strand is judged in order: IDLE, backward, overrun, accepted (R138, R139). -/
theorem State.cutNotice_val : s.cutNotice i x =
    if (s.strand i).state = .idle then
      s.modStrand i fun st => { st with pieceCounters.cutIgnored := inc st.pieceCounters.cutIgnored }
    else if (s.strand i).isBackward x then
      s.modStrand i fun st => { st with pieceCounters.backward := inc st.pieceCounters.backward }
    else if cutCapacity ≤ (s.strand i).cuts.length then s.overrunCut i x
    else (s.modStrand i fun st => st.acceptCut x).closeCheck i := by
  simp only [State.cutNotice, strandOfNat_val]

theorem State.cutNotice_none {n : Nat} (h : 4 ≤ n) : s.cutNotice n x = { s with cutInvalid := inc s.cutInvalid } := by
  simp only [State.cutNotice, strandOfNat_none (show 3 < n from h)]

end

/-- Settles O38: the judgement follows the order of R138, and its conditions exclude each other. -/
theorem cutNoticeJudged : Obligations.CutNoticeJudged := by
  intro s n x
  refine ⟨fun h => s.cutNotice_none x h, ?_⟩
  rintro i rfl st backward
  have judged := s.cutNotice_val i x
  have back : st.isBackward x = true ↔ backward := Strand.isBackward_iff x st
  refine ⟨fun idle => by rw [judged, if_pos idle], fun busy => ?_⟩
  rw [if_neg busy] at judged
  refine ⟨fun behind => by rw [judged, if_pos (back.mpr behind)], fun ahead => ?_⟩
  rw [if_neg (mt back.mp ahead)] at judged
  refine ⟨fun full => judged.trans (if_pos full), fun room => judged.trans (if_neg (Nat.not_le.mpr room))⟩

/-! ### Areas -/

/-- An addition whose fold count does not hold keeps the true sum, and A in 32 signed bits (R125). -/
theorem addArea_exact {acc folds v : Int} (hv : -679767040 ≤ v ∧ v ≤ 679767040) (hlow : -2147483648 ≤ acc)
    (hup : acc ≤ 2147483647) (hdown : -32 < folds) (hrise : folds < 31) :
    (addArea acc folds v).1 + (addArea acc folds v).2 * 4294967296 = acc + folds * 4294967296 + v ∧
      -2147483648 ≤ (addArea acc folds v).1 ∧ (addArea acc folds v).1 ≤ 2147483647 ∧
      folds - 1 ≤ (addArea acc folds v).2 ∧ (addArea acc folds v).2 ≤ folds + 1 := by
  unfold addArea
  dsimp only
  split
  · dsimp only; omega
  · split
    · dsimp only; omega
    · dsimp only; omega

/-- As long as the fold count cannot have held, the folded areas are exact (R125). -/
theorem foldl_addArea_exact (vs : List Int) (acc folds : Int) (hv : ∀ v ∈ vs, -679767040 ≤ v ∧ v ≤ 679767040)
    (hlow : -2147483648 ≤ acc) (hup : acc ≤ 2147483647) (hdown : -32 + vs.length ≤ folds) (hrise : folds + vs.length ≤ 31) :
    let a := vs.foldl (fun a v => addArea a.1 a.2 v) (acc, folds)
    a.1 + a.2 * 4294967296 = acc + folds * 4294967296 + vs.sum ∧ -2147483648 ≤ a.1 ∧ a.1 ≤ 2147483647 := by
  induction vs generalizing acc folds with
  | nil => simp [hlow, hup]
  | cons v vs ih =>
    simp only [List.length_cons, Nat.cast_add, Nat.cast_one] at hdown hrise
    obtain ⟨sum, low, up, down, rise⟩ := addArea_exact (folds := folds) (hv v (by simp)) hlow hup (by omega) (by omega)
    have rest := ih (addArea acc folds v).1 (addArea acc folds v).2 (fun w hw => hv w (by simp [hw])) low up (by omega)
      (by omega)
    obtain ⟨total, bounds⟩ := rest
    refine ⟨?_, bounds⟩
    rw [List.foldl_cons, List.sum_cons, total, sum]
    ring

theorem addArea_bounds {acc v : Int} (folds : Int) (hlow : -2147483648 ≤ acc) (hup : acc ≤ 2147483647)
    (hv : -2147483648 ≤ v ∧ v ≤ 2147483647) :
    -2147483648 ≤ (addArea acc folds v).1 ∧ (addArea acc folds v).1 ≤ 2147483647 := by
  unfold addArea
  dsimp only
  split
  · dsimp only; omega
  · split
    · dsimp only; omega
    · dsimp only; omega

theorem foldedArea_bounds (taken : List Run)
    (h : ∀ r ∈ taken, -2147483648 ≤ r.reported.1 ∧ r.reported.1 ≤ 2147483647) :
    -2147483648 ≤ (foldedArea taken).1 ∧ (foldedArea taken).1 ≤ 2147483647 :=
  List.foldlRecOn (motive := fun a : Int × Int => -2147483648 ≤ a.1 ∧ a.1 ≤ 2147483647) taken _ (by decide)
    fun a ha r hr => addArea_bounds a.2 ha.1 ha.2 (h r hr)

theorem reportArea_of_pos {acc folds : Int} (h : 0 < folds) : reportArea acc folds = (2147483647, true) := if_pos h

theorem reportArea_of_neg {acc folds : Int} (h : folds < 0) : reportArea acc folds = (-2147483648, true) := by
  rw [reportArea, if_neg (by omega), if_pos h]

@[simp] theorem reportArea_zero (acc : Int) : reportArea acc 0 = (acc, false) := rfl

theorem reportArea_bounds {acc : Int} (folds : Int) (hlow : -2147483648 ≤ acc) (hup : acc ≤ 2147483647) :
    -2147483648 ≤ (reportArea acc folds).1 ∧ (reportArea acc folds).1 ≤ 2147483647 ∧
      ((reportArea acc folds).2 = true ↔ folds ≠ 0) := by
  rcases lt_trichotomy folds 0 with h | rfl | h
  · simp [reportArea_of_neg h, h.ne]
  · simp [hlow, hup]
  · simp [reportArea_of_pos h, h.ne']

/-- Settles O41: one addition, its fold over a list, and the report of A and O. -/
theorem areasFoldAndReport : Obligations.AreasFoldAndReport := by
  refine ⟨fun vs acc folds hv hlow hup hdown hrise => foldl_addArea_exact vs acc folds hv hlow hup hdown hrise,
    fun acc folds v => ⟨fun high => ?_, fun below => ?_, fun low up => ?_, reportArea_of_pos, reportArea_of_neg, ?_⟩,
    fun r acc folds stop x area saturated => ⟨fun h => ?_, fun h => ?_⟩, fun taken => ⟨?_, ?_⟩, fun taken h => ?_⟩
  · have held : min (folds + 1) 31 = if folds < 31 then folds + 1 else 31 := by split <;> omega
    rw [addArea, if_pos high, held]
  · have held : max (folds - 1) (-32) = if -32 < folds then folds - 1 else -32 := by split <;> omega
    rw [addArea, if_neg (by omega), if_pos below, held]
  · rw [addArea, if_neg (by omega), if_neg (by omega)]
  · rintro rfl; exact reportArea_zero acc
  · simp [Run.reported, RunBody.closedAt, h]
  · simp [Run.reported, RunBody.closedAt, h]
  · rw [foldedArea, List.foldl_map]
  · rw [pieceArea, foldedArea, List.foldl_map]
  · obtain ⟨low, up⟩ := foldedArea_bounds taken h
    obtain ⟨rlow, rup, flag⟩ := reportArea_bounds (foldedArea taken).2 low up
    refine ⟨rlow, rup, ?_, fun exact_ => ?_⟩
    · simp only [pieceArea, Bool.or_eq_true, flag, List.any_eq_true]
    · simp [pieceArea, exact_]

end Sys2Proof.Machine
end

section
/-! Proofs: the layout of a SCAN and the scans that are discarded (R67 to R70, R167). -/

namespace Sys2Proof.Machine

/-! ### The layout -/

theorem samplesOf_bytes (samples : List (BitVec 16)) :
    samplesOf (samples.flatMap fun x => [x.extractLsb' 8 8, x.extractLsb' 0 8]) = samples := by
  induction samples with
  | nil => rfl
  | cons x xs ih =>
    have joined : (x.extractLsb' 8 8 ++ x.extractLsb' 0 8 : BitVec 16) = x := by
      rw [BitVec.extractLsb'_append_extractLsb'_eq_extractLsb' (by rfl), BitVec.extractLsb'_eq_self]
    simp only [List.flatMap_cons, List.cons_append, List.nil_append, samplesOf, ih, joined]

/-! ### The judgement -/

section
variable {s : State} {h : Fin 16} {p : List Byte} {i : Fin 4} {t : Fin 6}

/-- The head is in service at slot `t` of strand `i`, and the scan carries the strand (R67). -/
abbrev ScanServes (s : State) (h : Fin 16) (p : List Byte) (i : Fin 4) (t : Fin 6) : Prop :=
  ((s.head h).state = .online ∨ (s.head h).state = .silent) ∧ (s.head h).assignment = some (i, t) ∧ beNat (p.take 1) = i

/-- The scan carries as many samples as the head announced (R67). -/
abbrev ScanFits (s : State) (h : Fin 16) (p : List Byte) : Prop :=
  ∃ a, (s.head h).announced = some a ∧ a.width = (scanSamples p).length

theorem State.judgeScan_of_stray (stray : ∀ i t, ¬ScanServes s h p i t) : s.judgeScan h p = .stray := by
  unfold State.judgeScan
  dsimp only
  split
  · rfl
  · next i t assigned =>
    rw [if_neg]
    rintro ⟨service, strand⟩
    exact stray i t ⟨(inService_iff _).mp service, assigned, by simpa [fieldNat, field] using strand⟩

theorem State.judgeScan_of_serves (serves : ScanServes s h p i t) : s.judgeScan h p =
    if (s.head h).announced.map Announced.width = some (scanSamples p).length then s.judgeForSet i t (scanSlice p)
    else .malformed := by
  obtain ⟨service, assigned, strand⟩ := serves
  simp only [State.judgeScan, assigned]
  rw [if_pos ⟨(inService_iff _).mpr service, by simpa [fieldNat, field] using strand⟩]

theorem scanFits_iff : ScanFits s h p ↔ (s.head h).announced.map Announced.width = some (scanSamples p).length := by
  simp [ScanFits]

theorem State.judgeScan_of_malformed (serves : ScanServes s h p i t) (unfit : ¬ScanFits s h p) :
    s.judgeScan h p = .malformed := by
  rw [State.judgeScan_of_serves serves, if_neg (mt scanFits_iff.mpr unfit)]

theorem State.judgeScan_of_fits (serves : ScanServes s h p i t) (fits : ScanFits s h p) :
    s.judgeScan h p = s.judgeForSet i t (scanSlice p) := by
  rw [State.judgeScan_of_serves serves, if_pos (scanFits_iff.mp fits)]

theorem Strand.openSet_eq_none_iff (st : Strand) (k : Nat) :
    st.openSet k = none ↔ ∀ x ∈ st.sets, x.slice = k → x.ready = true := by
  simp [Strand.openSet]

theorem State.judgeForSet_of_open {k : Nat} {x : SliceSet} (hx : (s.strand i).openSet k = some x) : s.judgeForSet i t k =
    if (x.scans[t]).isSome then .duplicate else if s.buffersFree = 0 then .noBuffer else .accepted i t := by
  simp only [State.judgeForSet, hx]

end

/-- Settles O28: the payload is read back field by field, and the judgement follows the order of R67 to R69. -/
theorem scanDiscarded : Obligations.ScanDiscarded := by
  refine ⟨fun strand k3 k2 k1 k0 data samples hdata => ?_, fun s h p => ?_⟩
  · intro p
    have head : p = strand :: k3 :: k2 :: k1 :: k0 ::
        (data ++ samples.flatMap fun x => [x.extractLsb' 8 8, x.extractLsb' 0 8]) := by
      simp [p]
    have tail : p.drop 16 = samples.flatMap fun x => [x.extractLsb' 8 8, x.extractLsb' 0 8] := by
      rw [head]
      simp [← hdata]
    refine ⟨?_, ?_, ?_, ?_⟩
    · simp [head, beNat]
    · simp [head, scanSlice, fieldNat, field, beNat]
    · rw [scanSamples, tail, samplesOf_bytes]
    · simp [head, hdata, List.length_flatMap]
      omega
  · intro r serves fits discarded
    refine ⟨fun stray => ?_, fun i t served => ⟨fun unfit => ?_, fun fit => ⟨fun late => ?_, fun x hx => ⟨?_, ?_⟩⟩⟩⟩
    · simp only [discarded, State.scan, State.judgeScan_of_stray stray]
      rfl
    · simp only [discarded, State.scan, State.judgeScan_of_malformed served unfit]
      rfl
    · have judged : s.judgeForSet i t (scanSlice p) = .late := by
        simp only [State.judgeForSet, (Strand.openSet_eq_none_iff _ _).mpr late]
      simp only [discarded, State.scan, State.judgeScan_of_fits served fit, judged]
      rfl
    · intro received
      have judged : s.judgeForSet i t (scanSlice p) = .duplicate := by
        rw [State.judgeForSet_of_open hx, if_pos (Option.isSome_iff_ne_none.mpr received)]
      simp only [discarded, State.scan, State.judgeScan_of_fits served fit, judged]
      rfl
    · intro missing full
      have judged : s.judgeForSet i t (scanSlice p) = .noBuffer := by
        rw [State.judgeForSet_of_open hx, if_neg (by simp [missing]), if_pos full]
      simp only [discarded, State.scan, State.judgeScan_of_fits served fit, judged]
      rfl

end Sys2Proof.Machine
end

section
/-! Proofs: validation of a bank (R91) and the expansion of its template (R82). -/

namespace Sys2Proof.Machine

/-- The instances of a list of entries (R82). -/
def instanceCount (es : List GaugeEntry) : Nat := (es.map fun x => x.geo.repeats + 1).sum

@[simp] theorem instanceCount_nil : instanceCount [] = 0 := rfl

@[simp] theorem instanceCount_cons (e : GaugeEntry) (es : List GaugeEntry) :
    instanceCount (e :: es) = (e.geo.repeats + 1) + instanceCount es := by simp [instanceCount]

@[simp] theorem instanceCount_append (xs ys : List GaugeEntry) :
    instanceCount (xs ++ ys) = instanceCount xs + instanceCount ys := by simp [instanceCount]

theorem Bank.length_placements (b : Bank) : b.placements.length = instanceCount b.template := by
  simp [Bank.placements, instanceCount, List.length_flatMap, GaugeEntry.placements]

/-- The template is empty exactly where the entry count is 0 (R80). -/
theorem Bank.template_eq_nil_iff (b : Bank) : b.template = [] ↔ b.header.entryCount = 0 := by
  have : b.entries.toList ≠ [] := List.ne_nil_of_length_pos (by simp)
  simp [Bank.template, List.take_eq_nil_iff, this]

/-! ### The checks of one entry -/

/-- The entry fails the check of a reason, with `total` instances before it (R91). -/
def Strand.Fails (st : Strand) (b : Bank) (total : Nat) (e : GaugeEntry) (why : InvalidReason) : Prop :=
  why = .slot ∧ st.headAt e.geo.slot = none ∨
  why = .window ∧ (e.geo.last < e.geo.first ∨
    widthAt b.header e.geo.slot ≤ e.geo.last + e.geo.repeats * e.geo.stride) ∨
  why = .band ∧ (0 < e.tol.lower ∨ e.tol.upper < 0 ∨ e.tol.lower < e.geo.floor ∨ e.geo.ceiling < e.tol.upper) ∨
  why = .minValid ∧ (e.geo.last : Int) - e.geo.first + 1 < e.geo.minValid ∨
  why = .instances ∧ 256 < total + (e.geo.repeats + 1)

/-- The checks in their order (R91). -/
abbrev checkOrder : List InvalidReason := [.slot, .window, .band, .minValid, .instances]

section
variable (st : Strand) (b : Bank)

open Classical in
/-- An entry's failure is the first check in the order that it fails (R91). -/
theorem Strand.entryFailure_eq_find (e : GaugeEntry) (total : Nat) :
    st.entryFailure b e total = checkOrder.find? fun why => decide (st.Fails b total e why) := by
  have minValid (h : ¬(e.geo.last < e.geo.first ∨ widthAt b.header e.geo.slot ≤ e.geo.last + e.geo.repeats * e.geo.stride)) :
      (e.geo.last : Int) - e.geo.first + 1 < e.geo.minValid ↔ e.geo.last - e.geo.first + 1 < e.geo.minValid := by omega
  simp only [Strand.entryFailure, List.find?_cons, List.find?_nil, Strand.Fails, reduceCtorEq, false_and, true_and, or_false,
    false_or, Option.isNone_iff_eq_none]
  by_cases slot : st.headAt e.geo.slot = none
  · simp only [slot, if_true, decide_true]
  · simp only [slot, if_false, decide_false]
    by_cases window : e.geo.last < e.geo.first ∨ widthAt b.header e.geo.slot ≤ e.geo.last + e.geo.repeats * e.geo.stride
    · simp only [if_pos window, decide_eq_true window]
    · simp only [if_neg window, decide_eq_false window, minValid window]
      by_cases band : 0 < e.tol.lower ∨ e.tol.upper < 0 ∨ e.tol.lower < e.geo.floor ∨ e.geo.ceiling < e.tol.upper
      · simp only [if_pos band, decide_eq_true band]
      · simp only [if_neg band, decide_eq_false band]
        split
        · next h => simp only [decide_eq_true h]
        · next h =>
          simp only [decide_eq_false h]
          split
          · next h => simp only [decide_eq_true h]
          · next h => simp only [decide_eq_false h]

theorem Strand.entryFailure_eq_some_iff (e : GaugeEntry) (total : Nat) (why : InvalidReason) :
    st.entryFailure b e total = some why ↔ st.Fails b total e why ∧
      ∃ earlier later, checkOrder = earlier ++ why :: later ∧ ∀ q ∈ earlier, ¬st.Fails b total e q := by
  classical
  rw [st.entryFailure_eq_find, List.find?_eq_some_iff_append]
  simp

theorem Strand.entryFailure_eq_none_iff (e : GaugeEntry) (total : Nat) :
    st.entryFailure b e total = none ↔ ∀ why, ¬st.Fails b total e why := by
  classical
  rw [st.entryFailure_eq_find, List.find?_eq_none]
  constructor
  · intro h why fails
    have mem : why ∈ checkOrder := by
      rcases fails with ⟨rfl, -⟩ | ⟨rfl, -⟩ | ⟨rfl, -⟩ | ⟨rfl, -⟩ | ⟨rfl, -⟩ <;> simp
    simpa [fails] using h why mem
  · exact fun h why _ => by simpa using h why

/-- What an entry that passes every check but that of INSTANCES meets (R91). -/
abbrev Strand.EntryPasses (e : GaugeEntry) : Prop :=
  (st.headAt e.geo.slot).isSome ∧ e.geo.first ≤ e.geo.last ∧
    e.geo.last + e.geo.repeats * e.geo.stride < widthAt b.header e.geo.slot ∧ e.tol.lower ≤ 0 ∧ 0 ≤ e.tol.upper ∧
    e.geo.floor ≤ e.tol.lower ∧ e.tol.upper ≤ e.geo.ceiling ∧ e.geo.minValid ≤ e.geo.last - e.geo.first + 1

theorem Strand.entryFailure_eq_none (e : GaugeEntry) (total : Nat) :
    st.entryFailure b e total = none ↔ st.EntryPasses b e ∧ total + (e.geo.repeats + 1) ≤ 256 := by
  rw [st.entryFailure_eq_none_iff]
  constructor
  · intro h
    have slot : st.headAt e.geo.slot ≠ none := fun hn => h .slot (.inl ⟨rfl, hn⟩)
    have window : ¬(_ ∨ _) := fun hw => h .window (.inr (.inl ⟨rfl, hw⟩))
    have band : ¬(_ ∨ _ ∨ _ ∨ _) := fun hb => h .band (.inr (.inr (.inl ⟨rfl, hb⟩)))
    have minValid : ¬(_ < _) := fun hm => h .minValid (.inr (.inr (.inr (.inl ⟨rfl, hm⟩))))
    have fits : ¬(_ < _) := fun hi => h .instances (.inr (.inr (.inr (.inr ⟨rfl, hi⟩))))
    refine ⟨⟨Option.isSome_iff_ne_none.mpr slot, ?_⟩, by omega⟩
    omega
  · rintro ⟨⟨slot, rest⟩, fits⟩ why (⟨-, h⟩ | ⟨-, h⟩ | ⟨-, h⟩ | ⟨-, h⟩ | ⟨-, h⟩)
    · simp [h] at slot
    all_goals omega

/-! ### The first failing entry -/

/-- No entry fails exactly where each passes and the instances fit. -/
theorem Strand.firstFailure_eq_none_iff (es : List GaugeEntry) (n total : Nat) :
    st.firstFailure b n total es = none ↔
      (∀ e ∈ es, st.EntryPasses b e) ∧ (es ≠ [] → total + instanceCount es ≤ 256) := by
  induction es generalizing n total with
  | nil => simp [Strand.firstFailure]
  | cons e es ih =>
    unfold Strand.firstFailure
    cases hf : st.entryFailure b e total with
    | some why =>
      have failed : ¬(st.EntryPasses b e ∧ total + (e.geo.repeats + 1) ≤ 256) :=
        fun h => by simp [(st.entryFailure_eq_none b e total).mpr h] at hf
      simp only [reduceCtorEq, false_iff]
      rintro ⟨passes, fits⟩
      have := fits (by simp)
      rw [instanceCount_cons] at this
      exact failed ⟨passes e (by simp), by omega⟩
    | none =>
      obtain ⟨passes, fits⟩ := (st.entryFailure_eq_none b e total).mp hf
      simp only [ih, List.forall_mem_cons, instanceCount_cons]
      constructor
      · rintro ⟨rest, fit⟩
        refine ⟨⟨passes, rest⟩, fun _ => ?_⟩
        cases es with
        | nil => simpa using fits
        | cons x xs =>
          have := fit (by simp)
          omega
      · rintro ⟨⟨-, rest⟩, fit⟩
        have := fit (by simp)
        exact ⟨rest, fun _ => by omega⟩

/-- The failure that is reported is that of the first entry that fails a check (R91). -/
theorem Strand.firstFailure_eq_some_iff (es : List GaugeEntry) (n total m : Nat) (why : InvalidReason) :
    st.firstFailure b n total es = some (m, why) ↔ ∃ before e after, es = before ++ e :: after ∧ m = n + before.length ∧
      (∀ pre x post, before = pre ++ x :: post → st.entryFailure b x (total + instanceCount pre) = none) ∧
      st.entryFailure b e (total + instanceCount before) = some why := by
  induction es generalizing n total with
  | nil => simp [Strand.firstFailure]
  | cons e es ih =>
    unfold Strand.firstFailure
    cases hf : st.entryFailure b e total with
    | some q =>
      simp only [Option.some.injEq, Prod.mk.injEq]
      constructor
      · rintro ⟨rfl, rfl⟩
        exact ⟨[], e, es, rfl, rfl, by simp, by simpa using hf⟩
      · rintro ⟨before, x, after, hes, rfl, passes, fails⟩
        cases before with
        | nil =>
          obtain ⟨rfl, -⟩ := List.cons_eq_cons.mp hes
          simpa [hf] using fails
        | cons y before =>
          obtain ⟨rfl, -⟩ := List.cons_eq_cons.mp hes
          simpa [hf] using passes [] e before rfl
    | none =>
      simp only [ih]
      constructor
      · rintro ⟨before, x, after, rfl, rfl, passes, fails⟩
        refine ⟨e :: before, x, after, rfl, by simp; omega, fun pre y post hp => ?_, ?_⟩
        · cases pre with
          | nil =>
            obtain ⟨rfl, -⟩ := List.cons_eq_cons.mp hp
            simpa using hf
          | cons z pre =>
            obtain ⟨rfl, rfl⟩ := List.cons_eq_cons.mp hp
            rw [instanceCount_cons, ← Nat.add_assoc]
            exact passes pre y post rfl
        · rw [instanceCount_cons, ← Nat.add_assoc]
          exact fails
      · rintro ⟨before, x, after, hes, rfl, passes, fails⟩
        cases before with
        | nil =>
          obtain ⟨rfl, -⟩ := List.cons_eq_cons.mp hes
          simp [hf] at fails
        | cons y before =>
          obtain ⟨rfl, rfl⟩ := List.cons_eq_cons.mp hes
          rw [instanceCount_cons, ← Nat.add_assoc] at fails
          refine ⟨before, x, after, rfl, by simp; omega, fun pre z post hp => ?_, fails⟩
          have := passes (e :: pre) z post (by rw [hp]; rfl)
          rwa [instanceCount_cons, ← Nat.add_assoc] at this

theorem Strand.validate_of_empty (h : b.template = []) : st.validate b = some (0, .empty) :=
  if_pos (b.template_eq_nil_iff.mp h)

theorem Strand.validate_of_ne (h : b.template ≠ []) : st.validate b = st.firstFailure b 0 0 b.template :=
  if_neg (mt b.template_eq_nil_iff.mpr h)

theorem Strand.validate_eq_none_iff : st.validate b = none ↔
    b.template ≠ [] ∧ b.placements.length ≤ 256 ∧ ∀ e ∈ b.template, st.EntryPasses b e := by
  by_cases h : b.template = []
  · simp [st.validate_of_empty b h, h]
  · rw [st.validate_of_ne b h, st.firstFailure_eq_none_iff, b.length_placements, Nat.zero_add]
    exact ⟨fun ⟨passes, fits⟩ => ⟨h, fits h, passes⟩, fun ⟨_, fits, passes⟩ => ⟨passes, fun _ => fits⟩⟩

end

/-- Settles O35: the failure of one entry is a search along the order of the checks, and that of a bank a search along its
entries. -/
theorem validationPasses : Obligations.ValidationPasses := by
  intro st b
  refine ⟨st.validate_eq_none_iff b, fun valid p hp => ?_, fun k => ⟨?_, ?_⟩, rfl, rfl, st.validate_of_empty b,
    fun n why h => ?_⟩
  · obtain ⟨-, -, passes⟩ := (st.validate_eq_none_iff b).mp valid
    obtain ⟨e, he, placed⟩ := List.mem_flatMap.mp hp
    obtain ⟨j, hj, rfl⟩ := List.mem_map.mp placed
    obtain ⟨-, order, width, -⟩ := passes e he
    have below : j * e.geo.stride ≤ e.geo.repeats * e.geo.stride :=
      Nat.mul_le_mul_right _ (Nat.lt_succ_iff.mp (List.mem_range.mp hj))
    dsimp only
    omega
  · simp [Strand.headAt]
  · simp [widthAt]
  · rw [st.validate_of_ne b h, st.firstFailure_eq_some_iff]
    simp only [Nat.zero_add, st.entryFailure_eq_none_iff, st.entryFailure_eq_some_iff]
    rfl

end Sys2Proof.Machine
end

section
/-! Proofs: the marks that meet a stretch (R115), and the result of a slice (R113 to R117). -/

namespace Sys2Proof.Machine

/-! ### The worst mark that meets a stretch -/

/-- A mark of the kind meets the stretch [start, stop) (R115). -/
abbrev MarkMeets (marks : List Mark) (kind : MarkKind) (start stop : Nat) : Prop :=
  ∃ m ∈ marks, m.kind = kind ∧ m.start < stop ∧ start < m.stop

theorem Mark.meets_iff (m : Mark) (start stop : Nat) : m.meets start stop = true ↔ m.start < stop ∧ start < m.stop := by
  simp [Mark.meets]

theorem worstMark_concat (marks : List Mark) (m : Mark) (start stop : Nat) : worstMark (marks ++ [m]) start stop =
    if m.meets start stop then some (((worstMark marks start stop).map fun k => worseKind k m.kind).getD m.kind)
    else worstMark marks start stop := by
  rw [worstMark, List.foldl_append, List.foldl_cons, List.foldl_nil]
  split
  · rw [← worstMark]
    cases worstMark marks start stop <;> rfl
  · rfl

theorem markMeets_concat (marks : List Mark) (m : Mark) (kind : MarkKind) (start stop : Nat) :
    MarkMeets (marks ++ [m]) kind start stop ↔
      MarkMeets marks kind start stop ∨ m.kind = kind ∧ m.meets start stop = true := by
  simp [MarkMeets, or_and_right, exists_or, Mark.meets_iff]

/-- The worst mark is WELD_ZONE where one meets the stretch, else STOP_MARK where one does. -/
theorem worstMark_cases (marks : List Mark) (start stop : Nat) :
    (MarkMeets marks .weldZone start stop → worstMark marks start stop = some .weldZone) ∧
      (¬MarkMeets marks .weldZone start stop → MarkMeets marks .stopMark start stop →
        worstMark marks start stop = some .stopMark) ∧
      (¬MarkMeets marks .weldZone start stop → ¬MarkMeets marks .stopMark start stop →
        worstMark marks start stop = none) := by
  induction marks using List.reverseRecOn with
  | nil => simp [MarkMeets, worstMark]
  | append_singleton marks m ih =>
    obtain ⟨weld, stopMark, neither⟩ := ih
    rw [worstMark_concat, markMeets_concat, markMeets_concat]
    by_cases hw : MarkMeets marks .weldZone start stop
    · simp only [weld hw]
      cases m.kind <;> cases m.meets start stop <;> simp [hw, worseKind]
    · by_cases hs : MarkMeets marks .stopMark start stop
      · simp only [stopMark hw hs]
        cases m.kind <;> cases m.meets start stop <;> simp [hw, hs, worseKind]
      · simp only [neither hw hs]
        cases m.kind <;> cases m.meets start stop <;> simp [hw, hs]

/-! ### The worst verdict and the instance that gives it (R114, R116) -/

theorem ConditionClass.severity_injective : Function.Injective ConditionClass.severity := by
  intro a b
  cases a <;> cases b <;> simp [ConditionClass.severity]

theorem worstVerdict_concat (js : List (Option Judged)) (j : Option Judged) : worstVerdict (js ++ [j]) =
    match j with
    | some j => worse (worstVerdict js) j.verdict.cls
    | none => worstVerdict js := by
  rw [worstVerdict, List.foldl_append, List.foldl_cons, List.foldl_nil]
  cases j <;> rfl

theorem severity_le_worstVerdict (js : List (Option Judged)) :
    ∀ j, some j ∈ js → j.verdict.cls.severity ≤ (worstVerdict js).severity := by
  induction js using List.reverseRecOn with
  | nil => simp
  | append_singleton js x ih =>
    intro j hj
    rw [worstVerdict_concat]
    rcases List.mem_append.mp hj with hj | hj
    · have := ih j hj
      cases x with
      | none => exact this
      | some x =>
        simp only [severity_worse]
        omega
    · obtain rfl := List.mem_singleton.mp hj
      simp only [severity_worse]
      omega

theorem worstVerdict_eq_sound_or_mem (js : List (Option Judged)) :
    worstVerdict js = .sound ∨ ∃ j, some j ∈ js ∧ j.verdict.cls = worstVerdict js := by
  induction js using List.reverseRecOn with
  | nil => exact .inl rfl
  | append_singleton js x ih =>
    have kept : worstVerdict js = .sound ∨ ∃ j, some j ∈ js ++ [x] ∧ j.verdict.cls = worstVerdict js :=
      ih.imp_right fun ⟨j, hj, e⟩ => ⟨j, by simp [hj], e⟩
    rw [worstVerdict_concat]
    cases x with
    | none => exact kept
    | some x =>
      rcases worse_eq_or (worstVerdict js) x.verdict.cls with e | e
      · simpa only [e] using kept
      · exact .inr ⟨x, by simp, e.symm⟩

/-- The worst verdict is the class among SOUND and the verdicts that no verdict exceeds. -/
theorem worstVerdict_eq {js : List (Option Judged)} {c : ConditionClass}
    (hc : c = .sound ∨ ∃ j, some j ∈ js ∧ j.verdict.cls = c) (worst : ∀ j, some j ∈ js → j.verdict.cls.severity ≤ c.severity) :
    worstVerdict js = c := by
  refine ConditionClass.severity_injective (le_antisymm ?_ ?_)
  · rcases worstVerdict_eq_sound_or_mem js with e | ⟨j, hj, e⟩
    · rw [e]; exact Nat.zero_le _
    · exact e ▸ worst j hj
  · rcases hc with rfl | ⟨j, hj, rfl⟩
    · exact Nat.zero_le _
    · exact severity_le_worstVerdict js j hj

theorem firstGiving_eq_none {c : ConditionClass} {js : List (Option Judged)} (h : ∀ j, some j ∈ js → j.verdict.cls ≠ c)
    (n : Nat) : firstGiving c n js = none := by
  induction js generalizing n with
  | nil => rfl
  | cons x js ih =>
    have rest := ih (fun j hj => h j (by simp [hj])) (n + 1)
    cases x with
    | none => exact rest
    | some j => rw [firstGiving, if_neg (h j (by simp)), rest]

theorem firstGiving_append {c : ConditionClass} {before after : List (Option Judged)} {j : Judged}
    (h : ∀ x, some x ∈ before → x.verdict.cls ≠ c) (hj : j.verdict.cls = c) (n : Nat) :
    firstGiving c n (before ++ some j :: after) = some (n + before.length, j) := by
  induction before generalizing n with
  | nil => simp [firstGiving, hj]
  | cons x before ih =>
    have rest : firstGiving c (n + 1) (before ++ some j :: after) = some (n + (before.length + 1), j) := by
      rw [ih (fun y hy => h y (by simp [hy])) (n + 1), Nat.add_right_comm, Nat.add_assoc]
    cases x with
    | none => exact rest
    | some y => rw [List.cons_append, firstGiving, if_neg (h y (by simp)), rest, List.length_cons]

theorem worse_unseen_of_lt {c : ConditionClass} (h : c.severity < 2) : worse c .unseen = .unseen := if_pos h

theorem worse_unseen_of_le {c : ConditionClass} (h : 2 ≤ c.severity) : worse c .unseen = c := if_neg (Nat.not_lt.mpr h)

theorem GaugeVerdict.cls_ne_unseen (v : GaugeVerdict) : v.cls ≠ .unseen := by cases v <;> simp [GaugeVerdict.cls]

/-! ### Counts and areas (R113, R114) -/

theorem areaOf_eq (js : List (Option Judged)) : areaOf js = ((js.filterMap id).map Judged.excess).sum := by
  induction js with
  | nil => rfl
  | cons x js ih =>
    rw [areaOf] at ih ⊢
    cases x <;> simp [ih]

theorem verdictCount_eq (v : GaugeVerdict) (js : List (Option Judged)) :
    verdictCount v js = (js.filterMap id).countP fun j => j.verdict = v := by
  induction js with
  | nil => rfl
  | cons x js ih =>
    rw [verdictCount] at ih ⊢
    cases x <;> simp [List.countP_cons, ih, beq_iff_eq]

theorem counts_sum (js : List (Option Judged)) :
    voidCountOf js + verdictCount .sound js + verdictCount .drift js + verdictCount .surface js +
      verdictCount .dimension js = js.length := by
  induction js with
  | nil => rfl
  | cons x js ih =>
    simp only [voidCountOf, verdictCount, List.countP_cons, List.length_cons] at ih ⊢
    cases x with
    | none => simp; omega
    | some j => cases hv : j.verdict <;> simp [hv] <;> omega

theorem natAbs_areaOf_le {js : List (Option Judged)} {m : Nat} (h : ∀ j, some j ∈ js → j.excess.natAbs ≤ m) :
    (areaOf js).natAbs ≤ js.length * m := by
  induction js with
  | nil => simp [areaOf]
  | cons x js ih =>
    have rest := ih fun j hj => h j (by simp [hj])
    rw [List.length_cons, Nat.succ_mul]
    cases x with
    | none => simp only [areaOf, List.map_cons, List.sum_cons, Int.zero_add] at rest ⊢; omega
    | some j =>
      have := h j (by simp)
      simp only [areaOf, List.map_cons, List.sum_cons] at rest ⊢
      omega

/-! ### The instances judged, in order -/

section
variable (ev : Evaluation) (b : Bank)

theorem Evaluation.length_judgeAll (ps : List Placement) (fs : List (Option Int)) :
    (ev.judgeAll b ps fs).length = ps.length := by
  induction ps generalizing fs with
  | nil => rfl
  | cons p ps ih => cases fs <;> simp [Evaluation.judgeAll, ih]

theorem Evaluation.getElem?_judgeAll (ps : List Placement) (fs : List (Option Int)) {n : Nat} {x : Placement}
    (hx : ps[n]? = some x) : (ev.judgeAll b ps fs)[n]? = some (ev.judge b x (fs[n]?.getD none)) := by
  induction ps generalizing fs n with
  | nil => simp at hx
  | cons p ps ih =>
    cases n with
    | zero =>
      obtain rfl : p = x := by simpa using hx
      cases fs <;> simp [Evaluation.judgeAll]
    | succ n =>
      have hx : ps[n]? = some x := by simpa using hx
      cases fs with
      | nil => simpa [Evaluation.judgeAll] using ih [] hx
      | cons f fs => simpa [Evaluation.judgeAll] using ih fs hx

end

/-- Settles O34: the overlay, else the worst verdict and the first instance that gives it, with the counts of the instances. -/
theorem sliceResultFormed : Obligations.SliceResultFormed := by
  intro ev b js
  refine ⟨fun k => ⟨rfl, rfl, rfl⟩, fun c hc worst => ?_, fun k => ?_, fun ps fs => ⟨ev.length_judgeAll b ps fs, fun n x hx => ?_⟩,
    fun st => ?_⟩
  · have verdict := worstVerdict_eq hc worst
    refine ⟨fun raised => ?_, fun kept => ?_⟩
    · obtain ⟨voids, low⟩ := not_or.mp raised
      have cls : gaugeClass b.header.voidAllowance js = .unseen := by
        rw [gaugeClass, verdict, if_pos (Nat.not_le.mp voids), worse_unseen_of_lt (Nat.not_le.mp low)]
      have first : firstGiving .unseen 0 js = none := firstGiving_eq_none (fun j _ => j.verdict.cls_ne_unseen) 0
      simp [Evaluation.result, sliceVerdict, cls, first]
    · have cls : gaugeClass b.header.voidAllowance js = c := by
        rw [gaugeClass, verdict]
        split
        · next voids => exact worse_unseen_of_le (kept.resolve_left (Nat.not_le.mpr voids))
        · rfl
      refine ⟨?_, fun noOne => ?_, fun before j after hjs hbefore hj => ?_⟩
      · simp only [Evaluation.result, sliceVerdict, cls]
        split <;> rfl
      · simp [Evaluation.result, sliceVerdict, cls, firstGiving_eq_none noOne]
      · have first : firstGiving c 0 js = some (before.length, j) := by
          rw [hjs, firstGiving_append hbefore hj, Nat.zero_add]
        simp [Evaluation.result, sliceVerdict, cls, first, causeInstanceOf]
  · refine ⟨rfl, rfl, rfl, rfl, counts_sum js,
      ⟨areaOf_eq js, rfl, verdictCount_eq _ js, verdictCount_eq _ js, verdictCount_eq _ js, verdictCount_eq _ js⟩,
      fun inside => ?_, fun few bounded => ?_⟩
    · have bound := natAbs_areaOf_le (js := js) (m := 0) fun j hj => by simp [inside j hj]
      have zero : areaOf js = 0 := by simpa using bound
      exact zero
    · exact (natAbs_areaOf_le bounded).trans (by omega)
  · exact ⟨fun f hf => by rw [ev.getElem?_judgeAll b ps fs hx, hf]; rfl,
      fun hf => by rw [ev.getElem?_judgeAll b ps fs hx, hf]; rfl⟩
  · intro start stop meets judged
    obtain ⟨weld, stopMark, neither⟩ := worstMark_cases st.marks start stop
    have evaluated : st.evaluate ev = ev.result (st.bank ev.bank) (worstMark st.marks start stop) judged := rfl
    exact ⟨fun hw => by rw [evaluated, weld hw], fun hw hs => by rw [evaluated, stopMark hw hs],
      fun hw hs => by rw [evaluated, neither hw hs]⟩

end Sys2Proof.Machine
end

section
/-! Proofs: the mean (R108), the trend filter (R110), VOID instances (R104) and the statistics of a window (R105 to R107). -/

namespace Sys2Proof.Machine

/-! ### The mean -/

/-- The mean is the nearest integer, with halves away from zero (R108). -/
theorem meanOf_rounds (sum : Int) {n : Nat} (hn : 0 < n) :
    2 * (sum - n * meanOf sum n) ≤ n ∧ -n ≤ 2 * (sum - n * meanOf sum n) ∧
      (2 * (sum - n * meanOf sum n) = n → sum < 0) ∧ (2 * (sum - n * meanOf sum n) = -n → 0 < sum) := by
  have hdiv := Nat.div_add_mod (2 * sum.natAbs + n) (2 * n)
  have hmod := Nat.mod_lt (2 * sum.natAbs + n) (show 0 < 2 * n by omega)
  have hmean : meanOf sum n = sum.sign * (((2 * sum.natAbs + n) / (2 * n) : Nat) : Int) := rfl
  generalize (2 * sum.natAbs + n) / (2 * n) = q at hdiv hmean
  have product : 2 * n * q = 2 * (n * q) := Nat.mul_assoc ..
  rw [product] at hdiv
  have signed : (n : Int) * meanOf sum n = sum.sign * ((n * q : Nat) : Int) := by rw [hmean]; push_cast; ring
  rw [signed]
  generalize n * q = z at hdiv
  rcases lt_trichotomy sum 0 with h | rfl | h
  · rw [Int.sign_eq_neg_one_of_neg h]; omega
  · simp only [Int.sign_zero]; omega
  · rw [Int.sign_eq_one_of_pos h]; omega

theorem length_mul_le_sum {es : List Int} {lo : Int} (h : ∀ e ∈ es, lo ≤ e) : es.length * lo ≤ es.sum := by
  simpa using List.card_nsmul_le_sum es lo h

theorem sum_le_length_mul {es : List Int} {hi : Int} (h : ∀ e ∈ es, e ≤ hi) : es.sum ≤ es.length * hi := by
  simpa using List.sum_le_card_nsmul es hi h

/-- A mean lies between the least and the greatest deviation (R108). -/
theorem meanOf_between {es : List Int} {lo hi : Int} (hne : es ≠ []) (h : ∀ e ∈ es, lo ≤ e ∧ e ≤ hi) :
    lo ≤ meanOf es.sum es.length ∧ meanOf es.sum es.length ≤ hi := by
  have hn : 0 < es.length := List.length_pos_iff.mpr hne
  obtain ⟨up, low, -, -⟩ := meanOf_rounds es.sum hn
  have hlo := length_mul_le_sum fun e he => (h e he).1
  have hhi := sum_le_length_mul fun e he => (h e he).2
  have hpos : (0 : Int) < es.length := by exact_mod_cast hn
  constructor
  · by_contra hlt
    have := Int.mul_le_mul_of_nonneg_left (show meanOf es.sum es.length + 1 ≤ lo by omega) hpos.le
    rw [Int.mul_add] at this
    omega
  · by_contra hlt
    have := Int.mul_le_mul_of_nonneg_left (show hi + 1 ≤ meanOf es.sum es.length by omega) hpos.le
    rw [Int.mul_add] at this
    omega

/-! ### The trend filter -/

/-- A filter moves to its target by a step rounded down, and never past it (R110). -/
theorem trendAfter_between {k : Nat} (hk : 1 ≤ k) (t mean : Int) :
    min t (mean * 256) ≤ trendAfter (some t) k mean ∧ trendAfter (some t) k mean ≤ max t (mean * 256) ∧
      (mean * 256 - t + 2 ^ (k - 1)) / 2 ^ k * 2 ^ k ≤ mean * 256 - t + 2 ^ (k - 1) ∧
      mean * 256 - t + 2 ^ (k - 1) < ((mean * 256 - t + 2 ^ (k - 1)) / 2 ^ k + 1) * 2 ^ k := by
  have hpow : (2 : Int) ^ k = 2 * 2 ^ (k - 1) := by rw [← pow_succ', Nat.sub_add_cancel hk]
  have hpos : (1 : Int) ≤ 2 ^ (k - 1) := one_le_pow₀ (by decide)
  have lower := Int.ediv_mul_le (mean * 256 - t + 2 ^ (k - 1)) (show (2 : Int) ^ k ≠ 0 by positivity)
  have upper := Int.lt_ediv_add_one_mul_self (mean * 256 - t + 2 ^ (k - 1)) (show (0 : Int) < 2 ^ k by positivity)
  have moved : trendAfter (some t) k mean = t + (mean * 256 - t + 2 ^ (k - 1)) / 2 ^ k := rfl
  generalize (mean * 256 - t + 2 ^ (k - 1)) / 2 ^ k = m at *
  refine ⟨?_, ?_, lower, upper⟩
  all_goals
    rw [hpow] at lower upper
    rw [moved]
    generalize hd : mean * 256 - t = d at *
    have target : mean * 256 = t + d := by omega
    rw [target]
    generalize (2 : Int) ^ (k - 1) = w at *
  · by_cases hd0 : 0 ≤ d
    · have : 0 ≤ m := by by_contra hm; nlinarith
      omega
    · have : d ≤ m := by by_contra hm; nlinarith
      omega
  · by_cases hd0 : 0 ≤ d
    · have : m ≤ d := by by_contra hm; nlinarith
      omega
    · have : m ≤ 0 := by by_contra hm; nlinarith
      omega

/-- A filter stays within any range that holds the targets taken (R110). -/
theorem foldl_trendAfter_between {k : Nat} {lo hi : Int} (hk : 1 ≤ k) (means : List Int) (t : Int) (ht : lo ≤ t ∧ t ≤ hi)
    (h : ∀ m ∈ means, lo ≤ m * 256 ∧ m * 256 ≤ hi) :
    ∃ u, means.foldl (fun f m => some (trendAfter f k m)) (some t) = some u ∧ lo ≤ u ∧ u ≤ hi := by
  induction means generalizing t with
  | nil => exact ⟨t, rfl, ht⟩
  | cons m ms ih =>
    obtain ⟨low, up, -, -⟩ := trendAfter_between hk t m
    have target := h m (by simp)
    exact ih _ ⟨by omega, by omega⟩ fun x hx => h x (by simp [hx])

/-! ### VOID instances -/

section
variable {ev : Evaluation} {bank : Bank} {p : Placement} {t : Fin 6}

theorem Evaluation.usable_of_missing (h : ev.set.scans[t] = none) : ev.usable bank t = none := by
  simp only [Evaluation.usable, h]

theorem Evaluation.usable_of_unfit {b : Buffer} (h : ev.set.scans[t] = some b)
    (hw : hasSlot ev.mismatch t = true ∨ b.samples.length ≠ bank.header.widths[t]) : ev.usable bank t = none := by
  simp only [Evaluation.usable, h, if_pos hw]

theorem Evaluation.usable_of_fit {b : Buffer} (h : ev.set.scans[t] = some b) (hm : hasSlot ev.mismatch t = false)
    (hw : b.samples.length = bank.header.widths[t]) : ev.usable bank t = some b := by
  simp only [Evaluation.usable, h, hm, hw, ne_eq, not_true_eq_false, Bool.false_eq_true, or_self, if_false]

theorem Evaluation.judge_of_unusable (hslot : p.entry.geo.slot = t) (h : ev.usable bank t = none) (filter : Option Int) :
    ev.judge bank p filter = none := by
  simp only [Evaluation.judge, hslot, slotOfNat_val, h]

theorem Evaluation.judge_of_usable {b : Buffer} (hslot : p.entry.geo.slot = t) (h : ev.usable bank t = some b)
    (filter : Option Int) : ev.judge bank p filter = p.judgeOn b ev.offsets[t] filter := by
  simp only [Evaluation.judge, hslot, slotOfNat_val, h]

end

theorem getElem?_filtersAfter (js : List (Option Judged)) (fs : List (Option Int)) (n : Nat) (h : js.length ≤ fs.length) :
    (filtersAfter js fs)[n]? = match js[n]? with | some (some j) => some (some j.trend) | _ => fs[n]? := by
  induction js generalizing fs n with
  | nil => simp [filtersAfter]
  | cons j js ih =>
    cases fs with
    | nil => simp at h
    | cons f fs =>
      have rest := ih fs (h := by simpa using h)
      cases j with
      | none =>
        cases n with
        | zero => rfl
        | succ n => simpa [filtersAfter] using rest n
      | some j =>
        cases n with
        | zero => rfl
        | succ n => simpa [filtersAfter] using rest n

/-! ### The statistics of a window -/

section
variable (tol : Tolerance) (dev : Int → Int)

/-- The statistics of a list of samples in normalised order (R107). -/
def statsOf (raw : List Int) : WindowStats := raw.foldl (fun w r => w.take tol dev r) {}

/-- The sample is out of band (R105, R107): not VOID, and CLIPPED or with a deviation outside the tolerances. -/
def sampleOut (r : Int) : Bool := !isVoid r && isOutOfBand tol r (dev r)

theorem statsOf_concat (raw : List Int) (r : Int) : statsOf tol dev (raw ++ [r]) = (statsOf tol dev raw).take tol dev r := by
  simp [statsOf]

theorem WindowStats.take_of_void (w : WindowStats) {r : Int} (h : isVoid r = true) : w.take tol dev r = { w with run := 0 } :=
  if_pos h

theorem WindowStats.take_of_valid (w : WindowStats) {r : Int} (h : isVoid r = false) :
    w.take tol dev r =
      { n := w.n + 1, sum := w.sum + dev r, outOfBand := w.outOfBand + (sampleOut tol dev r).toNat,
        run := if sampleOut tol dev r then w.run + 1 else 0,
        longest := max w.longest (if sampleOut tol dev r then w.run + 1 else 0), peak := peakWith w.peak (dev r),
        clipped := w.clipped + (isClipped r).toNat } := by
  simp [WindowStats.take, sampleOut, h]

theorem isClipped_of_void {r : Int} (h : isVoid r = true) : isClipped r = false := by
  obtain rfl : r = -32768 := by simpa [isVoid] using h
  decide

/-- The counts and the sum of a window are over its valid samples; a VOID sample is neither out of band nor CLIPPED. -/
theorem statsOf_counts (raw : List Int) :
    (statsOf tol dev raw).n = (raw.filter fun r => !isVoid r).length ∧
      (statsOf tol dev raw).sum = ((raw.filter fun r => !isVoid r).map dev).sum ∧
      (statsOf tol dev raw).outOfBand = raw.countP (sampleOut tol dev) ∧
      (statsOf tol dev raw).clipped = raw.countP isClipped := by
  induction raw using List.reverseRecOn with
  | nil => exact ⟨rfl, rfl, rfl, rfl⟩
  | append_singleton raw r ih =>
    obtain ⟨n, sum, out, clipped⟩ := ih
    rw [statsOf_concat]
    cases hv : isVoid r with
    | true => simp [WindowStats.take_of_void tol dev _ hv, n, sum, out, clipped, hv, sampleOut, isClipped_of_void hv]
    | false =>
      rw [WindowStats.take_of_valid tol dev _ hv]
      simp only [n, sum, out, clipped, List.filter_append, List.countP_append, List.countP_singleton]
      refine ⟨by simp [hv], by simp [hv], ?_, ?_⟩
      · cases sampleOut tol dev r <;> simp
      · cases isClipped r <;> simp

/-- The run that is still going on is the longest suffix of samples that are out of band. -/
theorem statsOf_run (raw : List Int) :
    (∀ l m, raw = l ++ m → (∀ r ∈ m, sampleOut tol dev r = true) → m.length ≤ (statsOf tol dev raw).run) ∧
      ∃ l m, raw = l ++ m ∧ (∀ r ∈ m, sampleOut tol dev r = true) ∧ m.length = (statsOf tol dev raw).run := by
  induction raw using List.reverseRecOn with
  | nil =>
    refine ⟨fun l m h _ => ?_, [], [], rfl, by simp, rfl⟩
    obtain ⟨-, rfl⟩ := List.append_eq_nil_iff.mp h.symm
    exact Nat.zero_le _
  | append_singleton raw r ih =>
    obtain ⟨longest, l, m, hlm, hm, hrun⟩ := ih
    have run : (statsOf tol dev (raw ++ [r])).run =
        if sampleOut tol dev r then (statsOf tol dev raw).run + 1 else 0 := by
      rw [statsOf_concat]
      cases hv : isVoid r with
      | true => simp [WindowStats.take_of_void tol dev _ hv, sampleOut, hv]
      | false => rw [WindowStats.take_of_valid tol dev _ hv]
    rw [run]
    refine ⟨fun l' m' h' hm' => ?_, ?_⟩
    · rcases List.eq_nil_or_concat m' with rfl | ⟨m'', x, rfl⟩
      · exact Nat.zero_le _
      · obtain ⟨hraw, hx⟩ := List.append_inj' (by simpa using h' : raw ++ [r] = (l' ++ m'') ++ [x]) rfl
        obtain rfl : r = x := by simpa using hx
        have := longest l' m'' hraw fun y hy => hm' y (by simp [hy])
        rw [if_pos (hm' r (by simp))]
        simpa using this
    · cases hout : sampleOut tol dev r with
      | true => exact ⟨l, m ++ [r], by simp [hlm], by simpa [or_imp, forall_and, hout] using hm, by simp [hrun]⟩
      | false => exact ⟨raw ++ [r], [], by simp, by simp, by simp⟩

/-- The longest run is the greatest length of consecutive samples that are out of band. -/
theorem statsOf_longest (raw : List Int) :
    (∀ l m n, raw = l ++ m ++ n → (∀ r ∈ m, sampleOut tol dev r = true) → m.length ≤ (statsOf tol dev raw).longest) ∧
      ∃ l m n, raw = l ++ m ++ n ∧ (∀ r ∈ m, sampleOut tol dev r = true) ∧ m.length = (statsOf tol dev raw).longest := by
  induction raw using List.reverseRecOn with
  | nil =>
    refine ⟨fun l m n h _ => ?_, [], [], [], rfl, by simp, rfl⟩
    obtain ⟨hlm, -⟩ := List.append_eq_nil_iff.mp h.symm
    obtain ⟨-, rfl⟩ := List.append_eq_nil_iff.mp hlm
    exact Nat.zero_le _
  | append_singleton raw r ih =>
    obtain ⟨most, l, m, n, hraw, hm, hlongest⟩ := ih
    obtain ⟨suffixes, l', m', hraw', hm', hrun⟩ := statsOf_run tol dev (raw ++ [r])
    have longest : (statsOf tol dev (raw ++ [r])).longest =
        max (statsOf tol dev raw).longest (statsOf tol dev (raw ++ [r])).run := by
      rw [statsOf_concat]
      cases hv : isVoid r with
      | true => simp [WindowStats.take_of_void tol dev _ hv]
      | false => rw [WindowStats.take_of_valid tol dev _ hv]
    rw [longest]
    refine ⟨fun a b c h hb => ?_, ?_⟩
    · rcases List.eq_nil_or_concat c with rfl | ⟨c', x, rfl⟩
      · exact (suffixes a b (by simpa using h) hb).trans (le_max_right ..)
      · obtain ⟨e, -⟩ := List.append_inj' (by simpa using h : raw ++ [r] = (a ++ b ++ c') ++ [x]) rfl
        exact (most a b c' e hb).trans (le_max_left ..)
    · rcases le_total (statsOf tol dev (raw ++ [r])).run (statsOf tol dev raw).longest with hle | hle
      · exact ⟨l, m, n ++ [r], by simp [hraw], hm, by rw [max_eq_left hle, hlongest]⟩
      · exact ⟨l', m', [], by simp [hraw'], hm', by rw [max_eq_right hle, hrun]⟩

/-- The peak is the deviation of greatest magnitude, the earliest on a tie (R107). -/
theorem statsOf_peak (raw : List Int) : let valid := raw.filter fun r => !isVoid r
    (valid = [] → (statsOf tol dev raw).peak = none) ∧
      (valid ≠ [] → ∃ l r n, valid = l ++ r :: n ∧ (statsOf tol dev raw).peak = some (dev r) ∧
        (∀ x ∈ l, (dev x).natAbs < (dev r).natAbs) ∧ ∀ x ∈ n, (dev x).natAbs ≤ (dev r).natAbs) := by
  dsimp only
  induction raw using List.reverseRecOn with
  | nil => exact ⟨fun _ => rfl, fun h => absurd rfl h⟩
  | append_singleton raw r ih =>
    obtain ⟨empty, found⟩ := ih
    rw [statsOf_concat]
    cases hv : isVoid r with
    | true =>
      have valid : ((raw ++ [r]).filter fun r => !isVoid r) = raw.filter fun r => !isVoid r := by simp [hv]
      rw [WindowStats.take_of_void tol dev _ hv, valid]
      exact ⟨empty, found⟩
    | false =>
      rw [WindowStats.take_of_valid tol dev _ hv]
      have valid : ((raw ++ [r]).filter fun r => !isVoid r) = (raw.filter fun r => !isVoid r) ++ [r] := by simp [hv]
      rw [valid]
      refine ⟨fun h => by simp at h, fun _ => ?_⟩
      by_cases hempty : (raw.filter fun r => !isVoid r) = []
      · exact ⟨[], r, [], by simp [hempty], by simp [empty hempty, peakWith], by simp, by simp⟩
      · obtain ⟨l, x, n, hvalid, hpeak, hl, hn⟩ := found hempty
        simp only [hpeak, peakWith]
        split
        · next above =>
          refine ⟨l ++ x :: n, r, [], by simp [hvalid], rfl, fun y hy => ?_, by simp⟩
          rcases List.mem_append.mp hy with hy | hy
          · exact (hl y hy).trans above
          · rcases List.mem_cons.mp hy with rfl | hy
            · exact above
            · exact (hn y hy).trans_lt above
        · next below =>
          refine ⟨l, x, n ++ [r], by simp [hvalid], rfl, hl, fun y hy => ?_⟩
          rcases List.mem_append.mp hy with hy | hy
          · exact hn y hy
          · obtain rfl := List.mem_singleton.mp hy
            exact Nat.not_lt.mp below

end

theorem scaleOf_eq {code : Nat} {q : Int} (h : [1, 2, 4, 5, 8, 10, 16, 20][code]? = some q) : scaleOf code = q := by
  match code, h with
  | 0, h | 1, h | 2, h | 3, h | 4, h | 5, h | 6, h | 7, h => exact Option.some.inj h
  | n + 8, h => simp at h

theorem Buffer.normalised_eq (b : Buffer) :
    b.normalised = if b.order = .forward then b.samples.map BitVec.toInt else (b.samples.map BitVec.toInt).reverse := by
  cases h : b.order <;> simp [Buffer.normalised, h]

theorem Buffer.height_eq (b : Buffer) {q : Int} (h : scaleOf b.scaleCode = q) (offset r : Int) :
    b.height offset r = (if b.sign = .up then r else -r) * q + offset := by
  cases hs : b.sign <;> simp [Buffer.height, HeightSign.factor, hs, h]

/-- Settles O32: rounding by division with remainder, the filter by the sign of its way, and the window's statistics by
induction on its samples. -/
theorem meanAndTrendInRange : Obligations.MeanAndTrendInRange := by
  refine ⟨fun es lo hi hne h => ?_, fun k lo hi hk means hne h => ?_, fun k t mean hk => ⟨rfl, ?_⟩,
    fun ev bank p t filter hslot => ⟨?_, fun b hb hm hw => ?_⟩, fun js fs n h => getElem?_filtersAfter js fs n h,
    fun p b offset q hq hwindow hlast => ?_⟩
  · obtain ⟨up, low, upHalf, lowHalf⟩ := meanOf_rounds es.sum (List.length_pos_iff.mpr hne)
    exact ⟨up, low, upHalf, lowHalf, meanOf_between hne h⟩
  · cases means with
    | nil => exact absurd rfl hne
    | cons m ms => exact foldl_trendAfter_between hk ms (m * 256) (h m (by simp)) fun x hx => h x (by simp [hx])
  · obtain ⟨low, up, lower, upper⟩ := trendAfter_between hk t mean
    exact ⟨low, up, rfl, lower, upper⟩
  · intro void
    refine Evaluation.judge_of_unusable hslot ?_ filter
    cases hb : ev.set.scans[t] with
    | none => exact Evaluation.usable_of_missing hb
    | some b =>
      refine Evaluation.usable_of_unfit hb ?_
      rcases void with missing | mismatch | ⟨b', hb', hw⟩
      · simp [missing] at hb
      · exact .inl mismatch
      · obtain rfl : b = b' := Option.some.inj (hb.symm.trans hb')
        exact .inr hw
  · intro w mean trend
    rw [Evaluation.judge_of_usable hslot (Evaluation.usable_of_fit hb hm hw)]
    exact ⟨fun few => if_pos few, fun enough => if_neg (Nat.not_lt.mpr enough)⟩
  · intro sent raw valid dev clipped out w
    have hraw : windowOf b.normalised p.first p.last = raw := by
      simp only [windowOf, Buffer.normalised_eq, raw, sent]
    have hdev : (fun x => b.height offset x - p.entry.geo.nominal) = dev :=
      funext fun x => by rw [b.height_eq (scaleOf_eq hq)]
    have hw : w = statsOf p.entry.tol dev raw := by
      simp only [w, Placement.stats, hraw, hdev]
      rfl
    have hout : sampleOut p.entry.tol dev = out := by
      funext r
      simp [sampleOut, isOutOfBand, isVoid, isClipped, out, clipped, bne]
    have hvalid : (raw.filter fun r => !isVoid r) = valid := rfl
    have hlength : raw.length = p.last + 1 - p.first := by
      simp only [raw, sent, List.length_take, List.length_drop, apply_ite List.length, List.length_reverse, List.length_map,
        ite_self]
      omega
    obtain ⟨n, sum, outs, clips⟩ := statsOf_counts p.entry.tol dev raw
    obtain ⟨empty, found⟩ := statsOf_peak p.entry.tol dev raw
    obtain ⟨most, longest⟩ := statsOf_longest p.entry.tol dev raw
    rw [hout] at outs most longest
    rw [hw]
    exact ⟨hlength, n, sum, outs, clips, most, longest, empty, found⟩

end Sys2Proof.Machine
end

section
/-! Proofs: what the transmitters select next, and the arbiter over a freed own-origin entry (R16, R17). -/

namespace Sys2Proof.Machine

/-! ### The turn of the strands -/

/-- The first strand in turn with a record of its own kind is the first of the cyclic order that has one (R16). -/
theorem findSome_turnOrder {β : Type} (g : Fin 4 → Option β) (first : Fin 4) :
    (∀ i b, (turnOrder first).findSome? (fun i => (g i).map fun b => (i, b)) = some (i, b) ↔
      g i = some b ∧ ∃ d : Fin 4, i = first + d ∧ ∀ c, c < d → g (first + c) = none) ∧
    ((turnOrder first).findSome? (fun i => (g i).map fun b => (i, b)) = none ↔ ∀ i, g i = none) := by
  have order : turnOrder first = (List.finRange 4).map (first + ·) := by simp [turnOrder, List.finRange_succ]
  have turn : (turnOrder first).findSome? (fun i => (g i).map fun b => (i, b)) =
      Fin.findSome? fun d : Fin 4 => (g (first + d)).map fun b => (first + d, b) := by
    rw [order, List.findSome?_map, Fin.findSome?_eq_findSome?_finRange]
    rfl
  refine ⟨fun i b => ?_, ?_⟩
  · rw [turn, Fin.findSome?_eq_some_iff]
    constructor
    · rintro ⟨d, hd, before⟩
      obtain ⟨b', hb, e⟩ := Option.map_eq_some_iff.mp hd
      obtain ⟨rfl, rfl⟩ := Prod.mk.inj e
      exact ⟨hb, d, rfl, fun c hc => by simpa using before c hc⟩
    · rintro ⟨hb, d, rfl, before⟩
      exact ⟨d, by simp [hb], fun c hc => by simp [before c hc]⟩
  · rw [turn, Fin.findSome?_eq_none_iff]
    constructor
    · intro h i
      simpa using h (i - first)
    · exact fun h d => by simp [h]

/-! ### The arbiter -/

section
variable {s : State}

theorem State.enqueueRecord_of_sending (h : s.linePort.tx ≠ none) (r : Record) :
    s.enqueueRecord r = { s with linePort := { s.linePort with own := s.linePort.own ++ [r] } } :=
  State.kickLine_of_sending (s := { s with linePort := { s.linePort with own := s.linePort.own ++ [r] } }) (.inl h)

theorem State.arbitrate_of_reply {y : Reply} (h : s.handler.waiting = some y) : s.arbitrate = s.giveToReply y := by
  simp only [State.arbitrate, h]

theorem State.arbitrate_of_advice (h : s.handler.waiting = none) {i : Fin 4} {a : Advice}
    (ha : s.adviceStrand = some (i, a)) : s.arbitrate = s.giveToAdvice i a := by
  simp only [State.arbitrate, h, ha]

theorem State.arbitrate_of_piece (h : s.handler.waiting = none) (ha : s.adviceStrand = none) {i : Fin 4} {p : Piece}
    (hp : s.pieceStrand = some (i, p)) : s.arbitrate = s.giveToPiece i p := by
  simp only [State.arbitrate, h, ha, hp]

theorem State.arbitrate_of_none (h : s.handler.waiting = none) (ha : s.adviceStrand = none) (hp : s.pieceStrand = none) :
    s.arbitrate = s := by
  simp only [State.arbitrate, h, ha, hp]

variable (s)

/-- What the arbiter leaves as it is. -/
theorem State.arbitrate_kept : s.arbitrate.linePort.counters = s.linePort.counters ∧ SameRest s s.arbitrate ∧
    SameHandling s s.arbitrate ∧ s.arbitrate.headPort = s.headPort ∧ s.arbitrate.heads = s.heads ∧
    s.arbitrate.travel = s.travel ∧ s.arbitrate.routes = s.routes ∧ s.arbitrate.linePort.parser = s.linePort.parser := by
  unfold State.arbitrate
  repeat' split
  · simp [State.giveToReply, SameRest, SameHandling]
  · simp [State.giveToAdvice, SameRest, SameHandling]
  · simp [State.giveToPiece, SameRest, SameHandling]
  · simp [SameRest, SameHandling]

variable {s}

theorem State.giveToAdvice_of_sending (h : s.linePort.tx ≠ none) (i : Fin 4) (a : Advice) : s.giveToAdvice i a =
    State.modStrand { s with linePort := { s.linePort with own := s.linePort.own ++ [.advice a], adviceTurn := i + 1 } } i
      fun st => { st with held := st.held.tail } := by
  let taken := s.modStrand i fun st => { st with held := st.held.drop 1 }
  rw [State.giveToAdvice, State.enqueueRecord_of_sending
    (s := { taken with linePort := { taken.linePort with adviceTurn := i + 1 } }) h]
  simp only [taken, List.drop_one]
  rfl

theorem State.giveToPiece_of_sending (h : s.linePort.tx ≠ none) (i : Fin 4) (p : Piece) : s.giveToPiece i p =
    (State.modStrand { s with linePort := { s.linePort with own := s.linePort.own ++ [.piece p], pieceTurn := i + 1 } } i
      fun st => { st with closed := st.closed.tail }).closeCheck i := by
  let taken := s.modStrand i fun st => { st with closed := st.closed.drop 1 }
  rw [State.giveToPiece, State.enqueueRecord_of_sending
    (s := { taken with linePort := { taken.linePort with pieceTurn := i + 1 } }) h]
  simp only [taken, List.drop_one]
  rfl

theorem State.giveToReply_of_sending (h : s.linePort.tx ≠ none) (y : Reply) : s.giveToReply y =
    { s with
      handler := { s.handler with waiting := none, requests := s.handler.requests.tail },
      linePort := { s.linePort with own := s.linePort.own ++ [.reply y] } } := by
  rw [State.giveToReply, State.enqueueRecord_of_sending
    (s := { s with handler := { s.handler with waiting := none, requests := s.handler.requests.drop 1 } }) h]
  simp only [List.drop_one]

/-- Where an own-origin record is being sent, the records that join stand behind those that wait. -/
theorem LineGrows.own_of_sending {p q : LinePort} (h : LineGrows p q) (hp : p.tx ≠ none) :
    q.tx = p.tx ∧ p.own <+: q.own ∧ q.forward = p.forward ∧ q.prefer = p.prefer := by
  obtain ⟨new, ⟨tx, own, forward, prefer⟩ | ⟨idle, -⟩ | ⟨idle, -⟩⟩ := h
  · exact ⟨tx, ⟨new, own.symm⟩, forward, prefer⟩
  · exact absurd idle hp
  · exact absurd idle hp

/-- A piece that takes a freed entry stands first of what its strand's close check adds. -/
theorem State.giveToPiece_line (h : s.linePort.tx ≠ none) (i : Fin 4) (p : Piece) :
    (s.giveToPiece i p).linePort.tx = s.linePort.tx ∧
      (s.linePort.own ++ [.piece p]) <+: (s.giveToPiece i p).linePort.own ∧
      (s.giveToPiece i p).linePort.forward = s.linePort.forward ∧
      (s.giveToPiece i p).linePort.prefer = s.linePort.prefer := by
  rw [State.giveToPiece_of_sending h]
  exact (State.closeCheck_lineGrows _ i).own_of_sending (by simpa using h)

/-- The arbiter leaves a transmitter that sends, the forward queue and the preference. -/
theorem State.arbitrate_of_sending (h : s.linePort.tx ≠ none) : s.arbitrate.linePort.tx = s.linePort.tx ∧
    s.arbitrate.linePort.prefer = s.linePort.prefer ∧ s.arbitrate.linePort.forward = s.linePort.forward := by
  unfold State.arbitrate
  split
  · rw [State.giveToReply_of_sending h]
    exact ⟨rfl, rfl, rfl⟩
  · split
    · rw [State.giveToAdvice_of_sending h]
      exact ⟨rfl, rfl, rfl⟩
    · split
      · next i p _ =>
        obtain ⟨tx, -, forward, prefer⟩ := State.giveToPiece_line h i p
        exact ⟨tx, prefer, forward⟩
      · exact ⟨rfl, rfl, rfl⟩

end

/-! ### The selection after a transmission -/

section
variable {s : State} {x : LineSending}

theorem State.lineSent_of_empty (hr : s.isRestartReply x = false) (ho : s.linePort.own = []) (hf : s.linePort.forward = []) :
    s.lineSent x = { s with linePort := s.linePort.sent } := by
  have still : s.linePort.sent.select = s.linePort.sent := by simp [LinePort.select, LinePort.sent, ho, hf]
  simp only [State.lineSent, hr, State.selectLine, still, lt_self_iff_false, Bool.false_eq_true, if_false]

theorem State.lineSent_of_forward (hr : s.isRestartReply x = false) {f : Frame} {rest : List Frame}
    (hf : s.linePort.forward = f :: rest) (hp : s.linePort.own = [] ∨ s.linePort.prefer = .forward) :
    s.lineSent x =
      { s with linePort := { s.linePort.sent with tx := some (.forwarded f), forward := rest, prefer := .own } } := by
  have selected := LinePort.select_of_forward (p := s.linePort.sent) hf hp
  simp only [State.lineSent, hr, State.selectLine, selected, lt_self_iff_false, Bool.false_eq_true, if_false]

/-- The Line Port after it has selected an own-origin record. -/
def State.sending (s : State) (r : Record) (rest : List Record) : State :=
  { s with linePort := { s.linePort.sent with tx := some (.own r), own := rest, prefer := .forward } }

theorem State.lineSent_of_own (hr : s.isRestartReply x = false) {r : Record} {rest : List Record}
    (ho : s.linePort.own = r :: rest) (hp : s.linePort.forward = [] ∨ s.linePort.prefer = .own) :
    s.lineSent x = (s.sending r rest).arbitrate := by
  have selected := LinePort.select_of_own (p := s.linePort.sent) ho hp
  have freed : rest.length < s.linePort.sent.own.length := by simp [LinePort.sent, ho]
  simp only [State.lineSent, hr, State.selectLine, selected, freed, Bool.false_eq_true, if_false, if_true]
  rfl

end

/-- Settles O19: the selection by what waits, and then the arbiter by the first kind of record that waits. -/
theorem transmittersSelect : Obligations.TransmittersSelect := by
  refine ⟨fun s => ?_, fun s x hx => ?_, fun s x hx hr => ?_⟩
  · obtain ⟨advice, noAdvice⟩ := findSome_turnOrder (fun i => (s.strand i).held.head?) s.linePort.adviceTurn
    obtain ⟨piece, noPiece⟩ := findSome_turnOrder (fun i => (s.strand i).closed.head?) s.linePort.pieceTurn
    simp only [List.head?_eq_none_iff] at advice noAdvice piece noPiece
    exact ⟨advice, noAdvice, piece, noPiece⟩
  · intro sent
    have ends : exec (.frameTransmitted .head) s = .next { s with headPort := s.headPort.sent } := by
      have : s.transmitted .head = { s with headPort := s.headPort.sent } := if_pos (by rw [hx]; rfl)
      rw [← this]; rfl
    refine ⟨fun f rest ho => ?_, fun f rest ho hf => ?_, fun ho hf => ?_⟩
    · rw [ends]
      simp [HeadPort.sent, HeadPort.select, ho, sent]
    · rw [ends]
      simp [HeadPort.sent, HeadPort.select, ho, hf, sent]
    · rw [ends]
      simp [HeadPort.sent, HeadPort.select, ho, hf, sent]
  · have ends : exec (.frameTransmitted .line) s = .next (s.lineSent x) := by
      have : s.transmitted .line = s.lineSent x := by simp only [State.transmitted, hx]
      rw [← this]; rfl
    refine ⟨s.lineSent x, ends, ?_⟩
    cases ho : s.linePort.own with
    | nil =>
      cases hf : s.linePort.forward with
      | nil =>
        rw [State.lineSent_of_empty hr ho hf]
        exact ⟨rfl, by simp [LinePort.sent, SameRest, SameHandling], fun _ _ => rfl,
          fun _ _ h => absurd h.symm (List.cons_ne_nil _ _), fun _ _ h => absurd h.symm (List.cons_ne_nil _ _)⟩
      | cons f fs =>
        rw [State.lineSent_of_forward hr hf (.inl ho)]
        refine ⟨rfl, by simp [LinePort.sent, SameRest, SameHandling], fun _ h => absurd h (List.cons_ne_nil _ _),
          fun g gs hg _ => ?_, fun _ _ h => absurd h.symm (List.cons_ne_nil _ _)⟩
        obtain ⟨rfl, rfl⟩ := List.cons_eq_cons.mp hg
        rfl
    | cons r rest =>
      by_cases hp : s.linePort.forward = [] ∨ s.linePort.prefer = .own
      · obtain ⟨counters, hrest, handling, headPort, heads, travel, routes, parser⟩ := (s.sending r rest).arbitrate_kept
        have busy : (s.sending r rest).linePort.tx ≠ none := Option.some_ne_none _
        obtain ⟨tx, prefer, forward⟩ := State.arbitrate_of_sending busy
        rw [State.lineSent_of_own hr ho hp]
        refine ⟨counters, ⟨hrest, handling, headPort, heads, travel, routes, parser⟩,
          fun h => absurd h (List.cons_ne_nil _ _), fun f fs hf hpref => ?_,
          fun r' rest' ho' _ => ?_⟩
        · simp [hf, hpref.resolve_left (List.cons_ne_nil _ _)] at hp
        · obtain ⟨rfl, rfl⟩ := List.cons_eq_cons.mp ho'
          refine ⟨tx, prefer, forward, fun y hy => ?_, fun hw i a ha => ?_, fun hw ha i p hpiece => ?_, fun hw ha hpiece => ?_⟩
          · rw [State.arbitrate_of_reply (s := s.sending r rest) hy, State.giveToReply_of_sending busy]
            exact ⟨rfl, rfl, rfl, rfl⟩
          · rw [State.arbitrate_of_advice (s := s.sending r rest) hw ha, State.giveToAdvice_of_sending busy]
            exact ⟨rfl, rfl, State.strand_modStrand_same .., rfl, fun j hj => State.strand_modStrand_other _ _ hj, rfl⟩
          · rw [State.arbitrate_of_piece (s := s.sending r rest) hw ha hpiece]
            obtain ⟨-, own, -, -⟩ := State.giveToPiece_line busy i p
            have head : (s.strand i).closed.head? = some p :=
              (((findSome_turnOrder (fun i => (s.strand i).closed.head?) s.linePort.pieceTurn).1 i p).mp hpiece).1
            rw [State.giveToPiece_of_sending busy] at own ⊢
            refine ⟨own, by simp, by simp [State.sending, LinePort.sent], fun j hj => ?_, ?_, rfl, head⟩
            · rw [State.closeCheck_other _ hj]
              exact State.strand_modStrand_other _ _ hj
            · simp [SameHandler, SameHandling, State.sending]
          · rw [State.arbitrate_of_none (s := s.sending r rest) hw ha hpiece]
            exact ⟨rfl, rfl, rfl⟩
      · obtain ⟨waits, prefer⟩ := not_or.mp hp
        have prefer : s.linePort.prefer = .forward := by
          cases h : s.linePort.prefer with
          | own => exact absurd h prefer
          | forward => rfl
        obtain ⟨f, fs, hf⟩ := List.exists_cons_of_ne_nil waits
        rw [State.lineSent_of_forward hr hf (.inr prefer)]
        refine ⟨rfl, by simp [LinePort.sent, SameRest, SameHandling], fun h => absurd h (List.cons_ne_nil _ _),
          fun g gs hg _ => ?_, fun _ _ _ h => absurd h hp⟩
        obtain ⟨rfl, rfl⟩ := List.cons_eq_cons.mp (hf.symm.trans hg)
        rfl

end Sys2Proof.Machine
end

section
/-! Proofs: misses (R34, R73) and the deadline of a set (R72). -/

namespace Sys2Proof.Machine

/-! ### One miss -/

section
variable (s : State) (h : Fin 16)

theorem State.missLimitReached_iff (r : HeadRecord) (n : Nat) :
    s.missLimitReached r n = true ↔ ∃ i k, r.assignment = some (i, k) ∧ (s.strand i).params.missLimit ≤ n := by
  unfold State.missLimitReached
  split
  · next i k e => simp [e]
  · next e => simp [e]

/-- What a miss makes of a head's record (R34). -/
def State.missed (s : State) (r : HeadRecord) : HeadRecord :=
  let count := min (r.misses + 1) 255
  let counters := { r.counters with misses := inc r.counters.misses }
  if r.state = .online ∧ s.missLimitReached r count then
    { r with state := .silent, misses := count, counters := { counters with silences := inc r.counters.silences } }
  else if r.state = .online ∨ r.state = .silent then { r with misses := count, counters := counters }
  else { r with counters := counters }

theorem State.replaceHead_modHead (f : HeadRecord → HeadRecord) (r : HeadRecord)
    (same : (f (s.head h)).state = (s.head h).state) : (s.modHead h f).replaceHead h r = s.replaceHead h r := by
  have state : ((s.modHead h f).head h).state = (s.head h).state := by rw [State.head_modHead_same, same]
  by_cases e : (s.head h).state = r.state
  · rw [State.replaceHead_of_state_eq _ e, State.replaceHead_of_state_eq _ (state.trans e), State.modHead, State.setHead_setHead]
  · rw [State.replaceHead_of_state_ne _ e, State.replaceHead_of_state_ne _ (state ▸ e), state, State.modHead,
      State.setHead_setHead]

/-- A miss replaces the record of its head, with a notice where the head is now SILENT (R34, R37). -/
theorem State.reportMiss_eq : s.reportMiss h = s.replaceHead h (s.missed (s.head h)) := by
  let t := s.modHead h fun r => { r with counters.misses := inc r.counters.misses }
  have record : t.head h = { s.head h with counters.misses := inc (s.head h).counters.misses } := s.head_modHead_same h _
  have limit : t.missLimitReached (t.head h) (min ((t.head h).misses + 1) 255) =
      s.missLimitReached (s.head h) (min ((s.head h).misses + 1) 255) := by rw [record]; rfl
  have set (r : HeadRecord) (e : (s.head h).state = r.state) : t.setHead h r = s.replaceHead h r := by
    rw [State.replaceHead_of_state_eq _ e]
    exact State.setHead_setHead ..
  have counted : t = s.setHead h { s.head h with counters.misses := inc (s.head h).counters.misses } := rfl
  have unfolded : s.reportMiss h = match (t.head h).state with
      | .online =>
        if t.missLimitReached (t.head h) (min ((t.head h).misses + 1) 255) then
          t.replaceHead h { t.head h with
            misses := min ((t.head h).misses + 1) 255, state := .silent,
            counters.silences := inc (t.head h).counters.silences }
        else t.setHead h { t.head h with misses := min ((t.head h).misses + 1) 255 }
      | .silent => t.setHead h { t.head h with misses := min ((t.head h).misses + 1) 255 }
      | .offline => t
      | .held => t
      | .releasing => t
      | .awaiting => t
      | .faulted => t := by
    rfl
  rw [unfolded, limit, record]
  dsimp only
  cases hs : (s.head h).state with
  | online =>
    dsimp only
    cases hl : s.missLimitReached (s.head h) (min ((s.head h).misses + 1) 255) with
    | true =>
      rw [if_pos rfl, State.replaceHead_modHead s h _ _ rfl]
      simp only [State.missed, hs, hl, and_self, if_true]
    | false =>
      rw [if_neg (by decide), set _ hs]
      simp [State.missed, hs, hl]
  | silent =>
    rw [set _ hs]
    simp [State.missed, hs]
  | offline | held | releasing | awaiting | faulted =>
    rw [counted, ← State.replaceHead_of_state_eq]
    · simp [State.missed, hs]
    · rfl

@[simp] theorem State.reportMiss_head_same : (s.reportMiss h).head h = s.missed (s.head h) := by
  rw [State.reportMiss_eq, State.replaceHead_head_same]

variable {s}

/-- What a miss makes of a record depends on the miss limits of the strands only. -/
theorem State.missed_congr {t : State} (params : ∀ i, (t.strand i).params = (s.strand i).params) : t.missed = s.missed := by
  funext r
  have limit (n : Nat) : t.missLimitReached r n = s.missLimitReached r n := by
    unfold State.missLimitReached
    split
    · rw [params]
    · rfl
  simp only [State.missed, limit]

theorem State.missed_counters (r : HeadRecord) : (s.missed r).counters.misses = inc r.counters.misses := by
  unfold State.missed
  dsimp only
  split
  · rfl
  · split <;> rfl

theorem inc_satAdd (c n : Nat) : inc (satAdd c n) = satAdd c (n + 1) := by
  simp only [inc, satAdd]
  omega

theorem State.missed_iterate_counters (r : HeadRecord) (n : Nat) :
    (s.missed^[n] r).counters.misses = if n = 0 then r.counters.misses else satAdd r.counters.misses n := by
  induction n with
  | zero => rfl
  | succ n ih =>
    rw [Function.iterate_succ_apply', State.missed_counters, ih, if_neg (Nat.succ_ne_zero n)]
    split
    · next zero => rw [zero]; rfl
    · exact inc_satAdd ..

/-- What the misses of a set make of a head's record is what the law of misses says (R34). -/
theorem State.missed_iterate_reported (n : Nat) (b : Bool) :
    MissesReported s h n { s.missed^[n] (s.head h) with mismatch := b } := by
  refine ⟨State.missed_iterate_counters _ n, ?_, ?_⟩
  · rintro rfl
    exact ⟨rfl, rfl, rfl⟩
  · rintro rfl
    have limit := s.missLimitReached_iff (s.head h) (min ((s.head h).misses + 1) 255)
    simp only [Function.iterate_one, State.missed, ← limit]
    split
    · next silenced => exact ⟨fun _ => ⟨rfl, rfl⟩, fun other => absurd silenced other, by simp [silenced.1]⟩
    · next other =>
      split
      · next service => exact ⟨fun silenced => absurd silenced other, fun _ => ⟨rfl, rfl⟩, rfl⟩
      · next out => exact ⟨fun silenced => absurd silenced other, fun _ => ⟨rfl, rfl⟩, rfl⟩

end

/-! ### The misses of a set -/

section
variable (s : State) (i : Fin 4) (x : SliceSet)

/-- The slot was expected and not received, and its head is `h` (R73). -/
def Strand.slotMisses (st : Strand) (x : SliceSet) (h : Fin 16) (k : Fin 6) : Bool :=
  hasSlot x.expected k && (x.scans[k]).isNone && st.slots[k] == some h

theorem State.reportSlotMiss_head (k : Fin 6) (h : Fin 16) : (State.reportSlotMiss i x s k).head h =
    if (s.strand i).slotMisses x h k then s.missed (s.head h) else s.head h := by
  unfold State.reportSlotMiss Strand.slotMisses
  cases hm : hasSlot x.expected k && (x.scans[k]).isNone with
  | false => simp
  | true =>
    cases hk : (s.strand i).slots[k] with
    | none => simp
    | some q =>
      by_cases e : h = q
      · subst e; simp
      · simp [e, Ne.symm e]

theorem State.foldl_reportSlotMiss_head (l : List (Fin 6)) (h : Fin 16) :
    (l.foldl (State.reportSlotMiss i x) s).head h = s.missed^[l.countP ((s.strand i).slotMisses x h)] (s.head h) := by
  induction l generalizing s with
  | nil => rfl
  | cons k l ih =>
    have missed : (State.reportSlotMiss i x s k).missed = s.missed := State.missed_congr fun j => by simp
    rw [List.foldl_cons, ih, missed, State.reportSlotMiss_strand, State.reportSlotMiss_head, List.countP_cons]
    split
    · rw [Function.iterate_succ_apply]
    · rfl

theorem State.reportMisses_head (h : Fin 16) :
    (s.reportMisses i x).head h = s.missed^[missesOf (s.strand i) x h] (s.head h) :=
  State.foldl_reportSlotMiss_head s i x allSlots h

/-- The misses of a set are reported of the heads that its strand's slots name, in slot order (entry 11). -/
theorem State.reportMisses_eq {slots : Vector (Option (Fin 16)) 6} (hs : (s.strand i).slots = slots) :
    s.reportMisses i x = [(0 : Fin 6), 1, 2, 3, 4, 5].foldl
      (fun v k =>
        match slots[k] with
        | some h => if x.expected.getLsbD k.val = true ∧ x.scans[k] = none then v.reportMiss h else v
        | none => v) s := by
  have turn (v : State) (hv : (v.strand i).slots = slots) (k : Fin 6) : State.reportSlotMiss i x v k =
      match slots[k] with
      | some h => if x.expected.getLsbD k.val = true ∧ x.scans[k] = none then v.reportMiss h else v
      | none => v := by
    unfold State.reportSlotMiss
    rw [hv]
    simp only [hasSlot, Bool.and_eq_true, Option.isNone_iff_eq_none]
    split
    · rfl
    · split <;> rfl
  have fold : ∀ (l : List (Fin 6)) (v : State), (v.strand i).slots = slots →
      l.foldl (State.reportSlotMiss i x) v = l.foldl
        (fun v k =>
          match slots[k] with
          | some h => if x.expected.getLsbD k.val = true ∧ x.scans[k] = none then v.reportMiss h else v
          | none => v) v := by
    intro l
    induction l with
    | nil => exact fun _ _ => rfl
    | cons k l ih =>
      intro v hv
      rw [List.foldl_cons, List.foldl_cons, ih _ (by rw [State.reportSlotMiss_strand, hv]), turn v hv]
  exact fold allSlots s hs

/-- The release rule changes of the heads their mismatch flags only (R96). -/
theorem State.releaseRule_head (h : Fin 16) : ∃ b, (s.releaseRule i).head h = { s.head h with mismatch := b } := by
  rcases s.releaseRule_cases i with e | ⟨x, rest, -, -, -, e⟩
  · exact ⟨(s.head h).mismatch, by rw [e]⟩
  · rw [e, State.startEvaluation_head]
    unfold State.decideSwitch
    split
    · split
      · split
        · rw [State.takeSwitch, State.raise_head, State.switchBanks_head]
          exact ⟨_, rfl⟩
        · exact ⟨(s.head h).mismatch, rfl⟩
      · exact ⟨(s.head h).mismatch, rfl⟩
    · exact ⟨(s.head h).mismatch, rfl⟩

end

/-! ### The sets of one index -/

/-- Where only one set of the list has an index, changing the sets of the index changes that set. -/
theorem Strand.modSet_sets {st : Strand} {x : SliceSet} (unique : ∀ y ∈ st.sets, y.slice = x.slice → y = x)
    (f : SliceSet → SliceSet) : (st.modSet x.slice f).sets = st.sets.map fun y => if y = x then f x else y := by
  refine List.map_congr_left fun y hy => ?_
  by_cases e : y = x
  · rw [if_pos e, if_pos (by rw [e]), e]
  · rw [if_neg e, if_neg (mt (unique y hy) e)]

/-- Where only one set of the list has an index, the strand with that set replaced. -/
theorem Strand.modSet_eq {st : Strand} {x : SliceSet} (unique : ∀ y ∈ st.sets, y.slice = x.slice → y = x)
    (f : SliceSet → SliceSet) : st.modSet x.slice f = { st with sets := st.sets.map fun y => if y = x then f x else y } := by
  rw [← Strand.modSet_sets unique]
  rfl

/-! ### What a release keeps -/

/-- A projection of a strand that a release leaves as it is. -/
structure BesideRelease {α : Type} (proj : Strand → α) : Prop where
  release : ∀ st x n, proj { st with sets := x, asmCounters.slicesReleased := n } = proj st
  eval : ∀ st x, proj { st with eval := x } = proj st
  exchange : ∀ st : Strand, proj st.exchangeBanks = proj st

theorem BesideRelease.releaseRule {α : Type} {proj : Strand → α} (h : BesideRelease proj) (s : State) (i : Fin 4) :
    proj ((s.releaseRule i).strand i) = proj (s.strand i) := by
  rcases s.releaseRule_cases i with e | ⟨x, rest, -, -, -, e⟩
  · rw [e]
  · rw [e, State.startEvaluation, State.strand_modStrand_same, h.eval, State.decideSwitch_keeps h.exchange,
      State.strand_modStrand_same]
    exact h.release (s.strand i) ..

theorem State.releaseRule_sameWorld (s : State) (i : Fin 4) : SameWorld s (s.releaseRule i) := by
  simp [SameWorld, SameHandler, SameHandling, SameLine, s.releaseRule_lineGrows i]

/-- What the release rule does to the list and the engine, by the list that it finds (R74). -/
theorem State.releaseRule_lists {s : State} {i : Fin 4} {sets : List SliceSet} {eval : Option Evaluation}
    (hs : (s.strand i).sets = sets) (he : (s.strand i).eval = eval) :
    (eval ≠ none → ((s.releaseRule i).strand i).sets = sets ∧ ((s.releaseRule i).strand i).eval = eval) ∧
      ∀ y rest, eval = none → sets = y :: rest →
        (y.ready = true → ((s.releaseRule i).strand i).sets = rest ∧
          ∃ ev, ((s.releaseRule i).strand i).eval = some ev ∧ ev.set = y) ∧
        (y.ready = false → ((s.releaseRule i).strand i).sets = sets ∧ ((s.releaseRule i).strand i).eval = none) := by
  subst hs he
  refine ⟨fun busy => by rw [State.releaseRule_of_busy busy]; exact ⟨rfl, rfl⟩, fun y rest free list => ⟨fun ready => ?_, fun open_ => ?_⟩⟩
  · exact State.releaseRule_of_ready_same list ready free
  · rw [State.releaseRule_of_open list open_]
    exact ⟨rfl, free⟩

/-! ### The deadline of a set -/

theorem Strand.oldestOpen_mem {st : Strand} {x : SliceSet} (h : st.oldestOpen = some x) : x ∈ st.sets ∧ x.ready = false :=
  ⟨List.mem_of_find?_eq_some h, by simpa using List.find?_some h⟩

theorem State.timeOutSet_sameWorld (s : State) (i : Fin 4) (x : SliceSet) : SameWorld s (s.timeOutSet i x) := by
  simp [SameWorld, SameHandler, SameHandling, SameLine, s.timeOutSet_lineGrows i x]

/-- Settles O30: one miss by the state of its head, and the deadline as the release after the misses of the set. -/
theorem scanWaitExpires : Obligations.ScanWaitExpires := by
  refine ⟨fun s h => ?_, fun s i x hx unique => ?_⟩
  · intro r count counters reached t
    have limit := s.missLimitReached_iff r count
    have miss : t = s.replaceHead h (s.missed r) := s.reportMiss_eq h
    refine ⟨fun online hit => ?_, fun counted => ?_, fun off sil => ?_⟩
    · have missed : s.missed r = { r with
          state := .silent, misses := count, counters := { counters with silences := inc r.counters.silences } } :=
        if_pos ⟨online, limit.mpr hit⟩
      rw [miss, missed, State.replaceHead_of_state_ne _ (by simp [show (s.head h).state = .online from online])]
      rw [show (s.head h).state = .online from online]
      rfl
    · have missed : s.missed r = { r with misses := count, counters := counters } := by
        have kept : ¬(r.state = .online ∧ s.missLimitReached r count = true) := by
          rintro ⟨online, hit⟩
          rcases counted with ⟨-, miss⟩ | silent
          · exact miss (limit.mp hit)
          · simp [online] at silent
        exact (if_neg kept).trans (if_pos (counted.imp_left And.left))
      rw [miss, missed]
      exact State.replaceHead_of_state_eq _ rfl
    · have missed : s.missed r = { r with counters := counters } :=
        (if_neg fun h => off h.1).trans (if_neg (not_or.mpr ⟨off, sil⟩))
      rw [miss, missed]
      exact State.replaceHead_of_state_eq _ rfl
  · obtain ⟨-, waiting⟩ := Strand.oldestOpen_mem hx
    let reached : State := { s with now := max s.now x.deadline }
    let ready : State := reached.modStrand i fun a =>
      { a with
        sets := a.sets.map fun y => if y = x then { x with ready := true } else y,
        asmCounters := { a.asmCounters with setsTimedOut := inc a.asmCounters.setsTimedOut } }
    have marked : (reached.modStrand i fun st =>
        { st.modSet x.slice SliceSet.makeReady with
          asmCounters.setsTimedOut := inc st.asmCounters.setsTimedOut }) = ready := by
      simp only [ready, State.modStrand, Strand.modSet_eq (st := reached.strand i) unique]
      rfl
    have timedOut : reached.timeOutSet i x = (ready.reportMisses i x).releaseRule i := by
      rw [State.timeOutSet, marked]
    have expires : exec (.scanWaitExpiry i) s = .next (reached.timeOutSet i x) := by
      have : s.scanWaitExpires i = reached.timeOutSet i x := by
        simp only [State.scanWaitExpires, hx]
        rfl
      rw [← this]; rfl
    have strand : (ready.reportMisses i x).strand i = ready.strand i := State.reportMisses_strand ..
    have same : ready.strand i = { s.strand i with
        sets := (s.strand i).sets.map fun y => if y = x then { x with ready := true } else y,
        asmCounters := { (s.strand i).asmCounters with setsTimedOut := inc (s.strand i).asmCounters.setsTimedOut } } :=
      State.strand_modStrand_same ..
    have params (j : Fin 4) : (ready.strand j).params = (s.strand j).params := by
      by_cases hj : j = i
      · subst hj; rw [same]
      · rw [State.strand_modStrand_other _ _ hj]; rfl
    refine ⟨reached.timeOutSet i x, expires, by simp [reached], ?_, fun j hj => State.timeOutSet_other _ x hj, by simp [reached],
      by simp [reached], reached.timeOutSet_sameWorld i x, ?_, fun h => ?_, ?_⟩
    · rw [timedOut, BesideRelease.releaseRule (proj := fun st => st.asmCounters.setsTimedOut)
        ⟨fun _ _ _ => rfl, fun _ _ => rfl, fun _ => rfl⟩, strand, same]
    · intro sets
      rw [timedOut]
      exact State.releaseRule_lists (by rw [strand, same]) (by rw [strand, same])
    · obtain ⟨b, hb⟩ := (ready.reportMisses i x).releaseRule_head i h
      have missed : ready.missed = s.missed := State.missed_congr params
      have misses : missesOf (ready.strand i) x h = missesOf (s.strand i) x h := by rw [same]; rfl
      rw [timedOut, hb, State.reportMisses_head, missed, misses]
      exact State.missed_iterate_reported (s := s) h _ b
    · rw [timedOut]
      exact congrArg (State.releaseRule · i) (State.reportMisses_eq ready i x (by rw [same]))

end Sys2Proof.Machine
end

section
/-! Proofs: an accepted scan (R64, R69 to R71, R33). -/

namespace Sys2Proof.Machine

section
variable {s : State} {h : Fin 16} {p : List Byte} {i : Fin 4} {t : Fin 6}

theorem State.scan_of_accepted (hj : s.judgeScan h p = .accepted i t) : s.scan h p = s.acceptScan h i t p := by
  simp only [State.scan, hj]

theorem State.judgeScan_of_accepted {x : SliceSet} (serves : ScanServes s h p i t) (fits : ScanFits s h p)
    (hx : (s.strand i).openSet (scanSlice p) = some x) (missing : x.scans[t] = none) (room : s.buffersFree ≠ 0) :
    s.judgeScan h p = .accepted i t := by
  rw [State.judgeScan_of_fits serves fits, State.judgeForSet_of_open hx, if_neg (by simp [missing]), if_neg room]

theorem Strand.openSet_mem {st : Strand} {k : Nat} {x : SliceSet} (hx : st.openSet k = some x) :
    x ∈ st.sets ∧ x.slice = k ∧ x.ready = false := by
  have found := List.find?_some hx
  simp only [Bool.and_eq_true, decide_eq_true_eq, Bool.not_eq_true'] at found
  exact ⟨List.mem_of_find?_eq_some hx, found⟩

/-- A change of the sets of one index that keeps their index and state keeps which of them is OPEN. -/
theorem Strand.openSet_modSet (st : Strand) (k : Nat) (f : SliceSet → SliceSet)
    (same : ∀ y, (f y).slice = y.slice ∧ (f y).ready = y.ready) : (st.modSet k f).openSet k = (st.openSet k).map f := by
  have beside : ((fun x : SliceSet => decide (x.slice = k) && !x.ready) ∘ fun y => if y.slice = k then f y else y) =
      fun x => decide (x.slice = k) && !x.ready := by
    funext y
    by_cases e : y.slice = k <;> simp [e, same]
  simp only [Strand.openSet, Strand.modSet, List.find?_map, beside]
  cases hx : st.sets.find? fun x => decide (x.slice = k) && !x.ready with
  | none => rfl
  | some x =>
    obtain ⟨-, slice, -⟩ := Strand.openSet_mem (st := st) hx
    rw [Option.map_some, Option.map_some, if_pos slice]

/-- What an accepted scan makes of the record of its head (R33, R70). -/
def HeadRecord.accepted (r : HeadRecord) : HeadRecord :=
  { r with
    state := if r.state = .silent then .online else r.state, checkErrors := 0, misses := 0,
    counters := { r.counters with scansAccepted := inc r.counters.scansAccepted } }

theorem State.reportAccepted_eq (s : State) (h : Fin 16) : s.reportAccepted h = s.replaceHead h (s.head h).accepted := rfl

theorem State.completeSet_of_incomplete {k : Nat} {x : SliceSet} (hx : (s.strand i).openSet k = some x)
    (h : x.expected = 0 ∨ x.allReceived = false) : s.completeSet i k = s := by
  simp only [State.completeSet, hx]
  rw [if_neg]
  rintro ⟨expected, received⟩
  rcases h with h | h
  · exact expected h
  · simp [received] at h

theorem State.completeSet_of_complete {k : Nat} {x : SliceSet} (hx : (s.strand i).openSet k = some x)
    (expected : x.expected ≠ 0) (received : x.allReceived = true) : s.completeSet i k =
      (s.modStrand i fun st =>
        { st.modSet k SliceSet.makeReady with asmCounters.setsCompleted := inc st.asmCounters.setsCompleted }).releaseRule
        i := by
  simp only [State.completeSet, hx]
  exact if_pos ⟨expected, received⟩

/-- Two changes of the sets of one index, the first of which keeps the index. -/
theorem Strand.modSet_modSet (st : Strand) (k : Nat) (f g : SliceSet → SliceSet) (same : ∀ y, (f y).slice = y.slice) :
    (st.modSet k f).modSet k g = st.modSet k fun y => g (f y) := by
  have sets : (st.sets.map fun y => if y.slice = k then f y else y).map (fun y => if y.slice = k then g y else y) =
      st.sets.map fun y => if y.slice = k then g (f y) else y := by
    rw [List.map_map]
    refine List.map_congr_left fun y _ => ?_
    by_cases e : y.slice = k <;> simp [e, same]
  simp only [Strand.modSet, sets]

theorem State.setStrand_setStrand (s : State) (i : Fin 4) (a b : Strand) :
    (s.setStrand i a).setStrand i b = s.setStrand i b := by
  simp [State.setStrand]

theorem State.replaceHead_modStrand (s : State) (i : Fin 4) (f : Strand → Strand) (h : Fin 16) (r : HeadRecord) :
    (s.modStrand i f).replaceHead h r = (s.replaceHead h r).modStrand i f := by
  rw [State.modStrand, State.replaceHead_setStrand, State.modStrand, State.replaceHead_strand]

theorem State.acceptScan_sameWorld (s : State) (h : Fin 16) (i : Fin 4) (t : Fin 6) (p : List Byte) :
    SameWorld s (s.acceptScan h i t p) := by
  simp [SameWorld, SameHandler, SameHandling, SameLine, s.acceptScan_lineGrows h i t p]

end

/-- Settles O29: the scan is filled in, the head is told, and a complete set is READY and released. -/
theorem scanAccepted : Obligations.ScanAccepted := by
  intro s h p i t a x service assigned strand announced width hx missing room unique b filled u
  obtain ⟨hmem, slice, waiting⟩ := Strand.openSet_mem hx
  have judged : s.judgeScan h p = .accepted i t :=
    State.judgeScan_of_accepted ⟨service, assigned, strand⟩ ⟨a, announced, width⟩ hx missing room
  have hu : u = s.acceptScan h i t p := State.scan_of_accepted judged
  have unique : ∀ y ∈ (s.strand i).sets, y.slice = x.slice → y = x := fun y hy e => unique y hy (e.trans slice)
  -- the strand with the scan filled in, and with the set READY
  let fill (y : SliceSet) : SliceSet := { y with scans := y.scans.set t (some b) }
  let sets (z : SliceSet) : List SliceSet := (s.strand i).sets.map fun y => if y = x then z else y
  let stored : Strand := { s.strand i with sets := sets filled }
  let completed : Strand :=
    { s.strand i with
      sets := sets { filled with ready := true },
      asmCounters := { (s.strand i).asmCounters with setsCompleted := inc (s.strand i).asmCounters.setsCompleted } }
  have buffer : s.fillBuffer h t p = some b := by simp [State.fillBuffer, announced, b]
  have hstored : (s.strand i).modSet (scanSlice p) fill = stored := by
    rw [← slice]; exact Strand.modSet_eq unique fill
  have hcompleted : { stored.modSet (scanSlice p) SliceSet.makeReady with
      asmCounters.setsCompleted := inc stored.asmCounters.setsCompleted } = completed := by
    rw [← hstored, Strand.modSet_modSet _ _ fill _ fun _ => rfl, ← slice, Strand.modSet_eq unique]
    rfl
  have hopen : stored.openSet (scanSlice p) = some filled := by
    rw [← hstored, Strand.openSet_modSet _ _ fill fun _ => ⟨rfl, rfl⟩, hx]
    rfl
  -- the head is told
  let toldHead (v : State) : State := v.replaceHead h (s.head h).accepted
  have whole : u = (toldHead (s.setStrand i stored)).completeSet i (scanSlice p) := by
    rw [hu, State.acceptScan, State.reportAccepted_eq]
    simp only [State.modStrand, buffer]
    rw [show (s.strand i).modSet (scanSlice p) (fun x => { x with scans := x.scans.set t (some b) }) = stored from hstored]
    rfl
  have toldStrand (st : Strand) : (toldHead (s.setStrand i st)).strand i = st := by
    simp only [toldHead, State.replaceHead_strand, State.strand_setStrand_same]
  have incomplete (h' : x.expected = 0 ∨ filled.allReceived = false) : u = toldHead (s.setStrand i stored) := by
    rw [whole, State.completeSet_of_incomplete (x := filled) (by rw [toldStrand]; exact hopen) h']
  have complete (he : x.expected ≠ 0) (hr : filled.allReceived = true) :
      u = (toldHead (s.setStrand i completed)).releaseRule i := by
    rw [whole, State.completeSet_of_complete (x := filled) (by rw [toldStrand]; exact hopen) he hr]
    simp only [toldHead]
    rw [← State.replaceHead_modStrand, State.modStrand, State.strand_setStrand_same, hcompleted, State.setStrand_setStrand]
  have head : ∃ m, u.head h = { (s.head h).accepted with mismatch := m } := by
    by_cases he : x.expected = 0 ∨ filled.allReceived = false
    · exact ⟨(s.head h).mismatch, by rw [incomplete he, State.replaceHead_head_same]; rfl⟩
    · obtain ⟨he, hr⟩ := not_or.mp he
      rw [complete he (by simpa using hr)]
      obtain ⟨m, hm⟩ := (toldHead (s.setStrand i completed)).releaseRule_head i h
      exact ⟨m, by rw [hm, State.replaceHead_head_same]⟩
  have online : (s.head h).accepted.state = .online := by
    rcases service with e | e <;> simp [HeadRecord.accepted, e]
  obtain ⟨m, hm⟩ := head
  have accepted : (s.head h).accepted = { s.head h with
      state := .online, checkErrors := 0, misses := 0,
      counters := { (s.head h).counters with scansAccepted := inc (s.head h).counters.scansAccepted } } := by
    rw [← online]; rfl
  refine ⟨by rw [hm]; exact online, by rw [hm]; rfl, by rw [hm]; rfl, by rw [hm]; rfl,
    by rw [hu]; exact s.acceptScan_sameWorld h i t p, by rw [hu]; simp, by rw [hu]; simp, by rw [hu]; simp,
    fun j hj => by rw [hu]; exact s.acceptScan_other h t p hj, fun h' => ⟨?_, fun q hq => ?_⟩, fun he hr => ?_, ?_⟩
  · rw [incomplete h', toldStrand]
  · rw [incomplete h', State.replaceHead_otherHead _ _ hq]
    rfl
  · rw [complete he hr, BesideRelease.releaseRule (proj := fun st => st.asmCounters.setsCompleted)
      ⟨fun _ _ _ => rfl, fun _ _ => rfl, fun _ => rfl⟩, toldStrand]
  · intro put told noticed
    have notice (st : Strand) : toldHead (s.setStrand i st) = noticed (s.setStrand i st) := by
      have before : ((s.setStrand i st).head h).state = (s.head h).state := rfl
      rcases service with same | silent
      · have kept : toldHead (s.setStrand i st) = told (s.setStrand i st) := by
          simp only [toldHead, told]
          rw [State.replaceHead_of_state_eq _ (before.trans (same.trans online.symm)), accepted]
        rw [kept]
        exact (if_neg (by simp [same])).symm
      · have raised : toldHead (s.setStrand i st) = (told (s.setStrand i st)).raise (.headState h .silent .online none) := by
          simp only [toldHead, told]
          rw [State.replaceHead_of_state_ne _ (by rw [before, silent, online]; decide), before, silent, online, accepted]
          rfl
        rw [raised]
        exact (if_pos silent).symm
    refine ⟨fun h' => ⟨?_, fun same => ?_⟩, fun he hr => ?_⟩
    · rw [incomplete h', notice]
      rfl
    · rw [incomplete h']
      simp only [toldHead]
      rw [State.replaceHead_of_state_eq (s.setStrand i stored) (h := h) (r := (s.head h).accepted)
        (same.trans online.symm)]
      exact ⟨rfl, rfl, rfl⟩
    · rw [complete he hr]
      refine ⟨by rw [notice]; rfl, ?_⟩
      exact State.releaseRule_lists (by rw [toldStrand]) (by rw [toldStrand])

end Sys2Proof.Machine
end

section
/-! Proofs: the crossing rule (R58, R59), the entry of a TRIGGER (R14), and the opening of a set (R65, R66). -/

namespace Sys2Proof.Machine

/-! ### Slot sets and head masks -/

theorem getLsbD_slotSet (q : Fin 6 → Bool) (k : Fin 6) : (slotSet q).getLsbD k.val = q k := by
  have fold (l : List (Fin 6)) (acc : BitVec 6) :
      (l.foldl (fun acc t => if q t then acc ||| oneSlot t else acc) acc).getLsbD k.val =
        (acc.getLsbD k.val || l.any fun t => q t && decide (k = t)) := by
    induction l generalizing acc with
    | nil => simp
    | cons t l ih =>
      rw [List.foldl_cons, ih, List.any_cons, ← Bool.or_assoc]
      congr 1
      cases q t with
      | false => simp only [Bool.false_eq_true, if_false, Bool.false_and, Bool.or_false]
      | true => simp only [if_true, BitVec.getLsbD_or, getLsbD_oneSlot, Bool.true_and, Fin.ext_iff]
  rw [slotSet, fold]
  have mem : k ∈ allSlots := mem_allSlots k
  rw [BitVec.getLsbD_zero, Bool.false_or, Bool.eq_iff_iff, List.any_eq_true]
  simp [mem]

theorem getLsbD_oneHead (h : Fin 16) (k : Fin 16) : (1#16 <<< h.val).getLsbD k.val = decide (k = h) := by
  revert h k; decide

section
variable (s : State) (i : Fin 4)

theorem State.onlineSlots_iff (k : Fin 6) : (s.onlineSlots i).getLsbD k.val = true ↔
    ∃ h : Fin 16, (s.strand i).slots[k] = some h ∧ (s.head h).state = .online := by
  rw [State.onlineSlots, getLsbD_slotSet]
  cases (s.strand i).slots[k] <;> simp

theorem State.headMask_iff (h : Fin 16) : (s.headMask i).getLsbD h.val = true ↔
    (s.head h).state = .online ∧ ∃ k : Fin 6, (s.strand i).slots[k] = some h := by
  have fold (l : List (Fin 6)) (acc : BitVec 16) :
      ((l.foldl (fun acc t =>
        match (s.strand i).slots[t] with
        | some h => if (s.head h).state = .online then acc ||| (1#16 <<< h.val) else acc
        | none => acc) acc).getLsbD h.val = true) ↔
        acc.getLsbD h.val = true ∨ (s.head h).state = .online ∧ ∃ k ∈ l, (s.strand i).slots[k] = some h := by
    induction l generalizing acc with
    | nil => simp
    | cons t l ih =>
      rw [List.foldl_cons, ih]
      cases ht : (s.strand i).slots[t] with
      | none => simp only [List.exists_mem_cons_iff, ht, reduceCtorEq, false_or]
      | some q =>
        by_cases online : (s.head q).state = .online
        · simp only [online, if_true, BitVec.getLsbD_or, Bool.or_eq_true, getLsbD_oneHead, decide_eq_true_eq,
            List.exists_mem_cons_iff, ht, Option.some.injEq]
          by_cases e : h = q
          · subst e; simp only [online, true_and, true_or, or_true]
          · simp only [e, Ne.symm e, or_false, false_or]
        · simp only [online, if_false, List.exists_mem_cons_iff, ht, Option.some.injEq]
          by_cases e : q = h
          · subst e; simp only [online, false_and]
          · simp only [e, false_or]
  have mask : (s.headMask i).getLsbD h.val = true ↔
      (0#16).getLsbD h.val = true ∨ (s.head h).state = .online ∧ ∃ k ∈ allSlots, (s.strand i).slots[k] = some h :=
    fold allSlots 0#16
  rw [mask]
  simp [mem_allSlots]

/-! ### The crossing rule -/

/-- A strand that takes increases applies the crossing rule in RUNNING (R53). -/
theorem State.informStrand_of_live (live : (s.strand i).state.live = true) : s.informStrand i =
    State.crossing (if (s.strand i).state = .running then s else s.changeStrand i .running) i := by
  rw [State.informStrand_eq]
  by_cases running : (s.strand i).state = .running
  · simp [running]
  · have resting : (s.strand i).state = .armed ∨ (s.strand i).state = .stalled := by
      cases hs : (s.strand i).state <;> simp_all [StrandState.live]
    rw [if_pos resting, if_neg running]

variable {s i}

theorem State.crossing_of_old {l k : Nat} (hl : (s.strand i).lastTriggered = some l) (old : k ≤ l)
    (hk : k = s.ell i / (s.strand i).params.pitch) : s.crossing i = s.modStrand i fun st => { st with sliceIndex := k } := by
  have no : (s.strand i).isNewCrossing k = false := by simp [Strand.isNewCrossing, hl, old]
  simp only [State.crossing, ← hk, no, Bool.false_eq_true, if_false]

theorem Strand.isNewCrossing_of {st : Strand} {k : Nat} (h : ∀ l, st.lastTriggered = some l → l < k) :
    st.isNewCrossing k = true := by
  unfold Strand.isNewCrossing
  split
  · rfl
  · next l hl => exact decide_eq_true (h l hl)

theorem Strand.guardPassed_iff (st : Strand) (now : Nat) :
    st.guardPassed now = true ↔ ∀ m, st.lastTriggerTime = some m → m + st.params.triggerGuard ≤ now := by
  unfold Strand.guardPassed
  split
  · next h => simp [h]
  · next t h => simp [h]

theorem State.crossing_of_new {k : Nat} (new : ∀ l, (s.strand i).lastTriggered = some l → l < k)
    (hk : k = s.ell i / (s.strand i).params.pitch) : s.crossing i =
      if (s.strand i).guardPassed s.now then (s.modStrand i fun st => { st with sliceIndex := k }).issueTrigger i k
      else (s.modStrand i fun st => { st with sliceIndex := k }).modStrand i fun st => st.withhold k := by
  simp only [State.crossing, ← hk, Strand.isNewCrossing_of new, if_true]

/-! ### Opening a set -/

/-- What a release does to the counters of the Slice Assembler (R77). -/
theorem State.releaseRule_of_ready_counters {x : SliceSet} {rest : List SliceSet} (hs : (s.strand i).sets = x :: rest)
    (hr : x.ready = true) (he : (s.strand i).eval = none) : ((s.releaseRule i).strand i).asmCounters =
      { (s.strand i).asmCounters with slicesReleased := inc (s.strand i).asmCounters.slicesReleased } := by
  rw [State.releaseRule_of_ready hs hr he, State.startEvaluation, State.strand_modStrand_same]
  have kept := State.decideSwitch_keeps (proj := Strand.asmCounters) (fun _ => rfl)
    (s.modStrand i fun st =>
      { st with sets := rest, asmCounters.slicesReleased := inc st.asmCounters.slicesReleased }) i x.slice
  rw [State.strand_modStrand_same] at kept
  exact kept

theorem State.openSet_of_room (room : (s.strand i).sets.length < setCapacity) (k : Nat) (expected : BitVec 6) :
    s.openSet i k expected = s.modStrand i fun st => st.addSet k s.now expected := by
  simp only [State.openSet, room, if_true]

theorem State.openSet_of_full (full : ¬(s.strand i).sets.length < setCapacity) (k : Nat) (expected : BitVec 6) :
    s.openSet i k expected =
      let t := (s.forceOldest i).releaseRule i
      if (t.strand i).sets.length < setCapacity then t.modStrand i fun st => st.addSet k t.now expected
      else t.modStrand i fun st => { st with asmCounters.setRefused := inc st.asmCounters.setRefused } := by
  simp only [State.openSet, full, if_false]

/-- The oldest set of a full list is forced READY, with its misses, if it is OPEN (R66). -/
theorem State.forceOldest_eq {x : SliceSet} {rest : List SliceSet} (hs : (s.strand i).sets = x :: rest)
    (unique : ∀ y ∈ rest, y.slice ≠ x.slice) : s.forceOldest i =
      if x.ready then s
      else
        (s.modStrand i fun a =>
          { a with
            sets := { x with ready := true } :: rest,
            asmCounters.forcedClose := inc a.asmCounters.forcedClose }).reportMisses i x := by
  have sets : (s.strand i).modSet x.slice SliceSet.makeReady =
      { s.strand i with sets := { x with ready := true } :: rest } := by
    have kept : rest.map (fun y => if y.slice = x.slice then y.makeReady else y) = rest := by
      rw [List.map_congr_left (g := fun y => y) fun y hy => if_neg (unique y hy)]
      exact List.map_id rest
    simp only [Strand.modSet, hs, List.map_cons, kept, if_true]
    rfl
  simp only [State.forceOldest, hs]
  split
  · rfl
  · simp only [State.modStrand, sets]

end

theorem State.openSet_sameWorld (s : State) (i : Fin 4) (k : Nat) (e : BitVec 6) : SameWorld s (s.openSet i k e) := by
  simp [SameWorld, SameHandler, SameHandling, SameLine, s.openSet_lineGrows i k e]

/-- Settles O26: the masks bit by bit, the crossing by its index and its guard, and a full list by the oldest set and the
engine. -/
theorem crossingRule : Obligations.CrossingRule := by
  refine ⟨fun s i => ⟨s.headMask_iff i, s.onlineSlots_iff i⟩, fun s i live => ?_, fun p f => ⟨fun room => ?_, fun full => ?_⟩,
    fun s i k expected => ?_⟩
  · intro u k v
    have informed : s.informStrand i = u.crossing i := s.informStrand_of_live i live
    have strand : u.strand i = { s.strand i with state := .running } := by
      simp only [u]
      split
      · next running => rw [← running]
      · exact State.changeStrand_same ..
    have heads : u.heads = s.heads := by
      simp only [u]
      split
      · rfl
      · simp
    have now : u.now = s.now := by
      simp only [u]
      split
      · rfl
      · simp
    have travel : u.travel = s.travel := by
      simp only [u]
      split
      · rfl
      · simp
    have hk : k = u.ell i / (u.strand i).params.pitch := by
      simp only [k, State.ell, strand, travel]
    have mask : (v.headMask i) = s.headMask i := by
      have head (h : Fin 16) : v.head h = s.head h := State.head_of_heads (by simp [v, heads]) h
      have slots : (v.strand i).slots = (s.strand i).slots := by simp [v, strand]
      simp only [State.headMask, head, slots]
    have online : (v.onlineSlots i) = s.onlineSlots i := by
      have head (h : Fin 16) : v.head h = s.head h := State.head_of_heads (by simp [v, heads]) h
      have slots : (v.strand i).slots = (s.strand i).slots := by simp [v, strand]
      simp only [State.onlineSlots, head, slots]
    refine ⟨fun l hl old => ?_, fun new => ⟨fun m hm early => ?_, fun passed => ?_⟩⟩
    · rw [informed]
      exact State.crossing_of_old (by rw [strand]; exact hl) old hk
    · have early : (u.strand i).guardPassed u.now = false := by
        rw [Bool.eq_false_iff, ne_eq, Strand.guardPassed_iff, strand, now]
        exact fun h => absurd (h m hm) (Nat.not_le.mpr early)
      rw [informed, State.crossing_of_new (by rw [strand]; exact new) hk, early, if_neg (by decide)]
      rfl
    · have passed : (u.strand i).guardPassed u.now = true := by
        rw [Strand.guardPassed_iff, strand, now]
        exact passed
      rw [informed, State.crossing_of_new (by rw [strand]; exact new) hk, passed, if_pos rfl]
      rw [show (u.modStrand i fun st => { st with sliceIndex := k }) = v from rfl, State.issueTrigger, mask, online]
      rw [show v.now = s.now from (State.modStrand_now ..).trans now]
  · rw [HeadPort.enqueueTrigger, if_pos (show p.own.length < headOwnCapacity from room)]
    exact p.join_joined f
  · exact if_neg (Nat.not_lt.mpr full)
  · intro st fresh t
    refine ⟨fun room => State.openSet_of_room room k expected, fun x rest hs full unique => ?_⟩
    intro count forced
    let ready : SliceSet := { x with ready := true }
    let w : State := s.forceOldest i
    have hw : w = if x.ready then s else (s.modStrand i fun a =>
        { a with sets := ready :: rest, asmCounters.forcedClose := inc a.asmCounters.forcedClose }).reportMisses i x :=
      State.forceOldest_eq hs unique
    have strand : w.strand i = { st with
        sets := ready :: rest, asmCounters := { count with forcedClose := forced } } := by
      rw [hw]
      cases hr : x.ready with
      | true =>
        have same : ready = x := by simp only [ready, ← hr]
        simp only [if_true, same, ← hs, forced, hr]
        rfl
      | false =>
        simp only [Bool.false_eq_true, if_false, State.reportMisses_strand, State.strand_modStrand_same, forced, hr]
        rfl
    have now : w.now = s.now := by
      rw [hw]
      split <;> simp
    have sets : (w.strand i).sets = ready :: rest := by rw [strand]
    have eval : (w.strand i).eval = st.eval := by rw [strand]
    have length : rest.length + 1 = 8 := by rw [← full, hs]; rfl
    have whole : t = let r := w.releaseRule i
        if (r.strand i).sets.length < setCapacity then r.modStrand i fun a => a.addSet k r.now expected
        else r.modStrand i fun a => { a with asmCounters.setRefused := inc a.asmCounters.setRefused } :=
      State.openSet_of_full (by rw [full]; decide) k expected
    have missed (h : Fin 16) : w.head h = s.missed^[if x.ready then 0 else missesOf st x h] (s.head h) := by
      rw [hw]
      cases hr : x.ready with
      | true => rfl
      | false =>
        let v : State := s.modStrand i fun a =>
          { a with sets := ready :: rest, asmCounters.forcedClose := inc a.asmCounters.forcedClose }
        have same : v.strand i = { st with
            sets := ready :: rest, asmCounters.forcedClose := inc st.asmCounters.forcedClose } :=
          State.strand_modStrand_same ..
        have misses : missesOf (v.strand i) x h = missesOf st x h := by rw [same]; rfl
        have params : v.missed = s.missed := State.missed_congr fun j => by
          by_cases hj : j = i
          · subst hj; rw [same]
          · rw [State.strand_modStrand_other _ _ hj]
        have heads := State.reportMisses_head v i x h
        rw [misses, params] at heads
        exact heads
    have released (busy : st.eval ≠ none) : w.releaseRule i = w :=
      State.releaseRule_of_busy (by rw [eval]; exact busy)
    have refused (busy : st.eval ≠ none) : t = w.modStrand i fun a =>
        { a with asmCounters.setRefused := inc a.asmCounters.setRefused } := by
      rw [whole, released busy]
      exact if_neg (by rw [sets, List.length_cons, length]; decide)
    have opened (free : st.eval = none) : t = (w.releaseRule i).modStrand i fun a =>
        { a with sets := a.sets ++ [fresh], asmCounters.setsOpened := inc a.asmCounters.setsOpened } := by
      have left := (State.releaseRule_of_ready_same sets rfl (eval.trans free)).1
      have params := BesideSets.releaseRule (proj := Strand.params) ⟨fun _ _ _ => rfl, fun _ _ => rfl, fun _ => rfl⟩ w i
      have later : (w.releaseRule i).now = s.now := by simp [now]
      rw [whole]
      refine (if_pos (show _ < 8 by rw [left]; omega)).trans ?_
      simp only [State.modStrand, Strand.addSet, later, params, strand]
      rfl
    refine ⟨s.openSet_sameWorld i k expected, by simp [t], fun j hj => State.openSet_other _ k expected hj, by simp [t],
      by simp [t], fun h => ?_, fun busy => ?_, fun free => ?_, ?_⟩
    · obtain ⟨b, hb⟩ := w.releaseRule_head i h
      have head : t.head h = (w.releaseRule i).head h := by
        rw [whole]
        dsimp only
        split <;> simp
      rw [head, hb, missed]
      exact State.missed_iterate_reported (s := s) h _ b
    · rw [refused busy, State.strand_modStrand_same, strand]
      exact ⟨rfl, rfl, rfl⟩
    · obtain ⟨left, ev, hev, hset⟩ := State.releaseRule_of_ready_same sets rfl (eval.trans free)
      have counters := State.releaseRule_of_ready_counters sets rfl (eval.trans free)
      rw [opened free, State.strand_modStrand_same]
      refine ⟨by rw [left], ⟨ev, hev, hset⟩, ?_⟩
      dsimp only
      rw [counters, strand]
    · intro missedAt releasedState
      have forcedMisses : releasedState = w.releaseRule i := by
        simp only [releasedState]
        rw [hw]
        cases hr : x.ready with
        | true => rfl
        | false =>
          simp only [Bool.false_eq_true, if_false]
          exact congrArg (State.releaseRule · i)
            (State.reportMisses_eq _ i x (by rw [State.strand_modStrand_same])).symm
      by_cases free : st.eval = none
      · simp only [free, if_true]
        rw [forcedMisses]
        exact opened free
      · simp only [free, if_false]
        rw [forcedMisses, released free]
        exact refused free

end Sys2Proof.Machine
end

section
/-! Proofs: how slices enter the map (R121, R122, R124), how its open run closes (R123), and that the cover grows with them. -/

namespace Sys2Proof.Machine

theorem State.modStrand_congr {s : State} {i : Fin 4} {f g : Strand → Strand} (h : f (s.strand i) = g (s.strand i)) :
    s.modStrand i f = s.modStrand i g := by
  rw [State.modStrand, State.modStrand, h]

/-! ### Advice (R148, R149) -/

/-- A projection of a strand that advice leaves as it is. -/
def BesideAdvice {α : Type} (proj : Strand → α) : Prop :=
  ∀ st held n, proj { st with held := held, pieceCounters := n } = proj st

section
variable {α : Type} {proj : Strand → α}

theorem BesideAdvice.issueAdvice (h : BesideAdvice proj) (s : State) (i : Fin 4) (kind : AdviceKind) (cls : ConditionClass)
    (start stop : Nat) : proj ((s.issueAdvice i kind cls start stop).strand i) = proj (s.strand i) := by
  have counted : proj ((s.modStrand i fun st =>
      { st with pieceCounters.adviceIssued := inc st.pieceCounters.adviceIssued }).strand i) = proj (s.strand i) := by
    rw [State.strand_modStrand_same]
    exact h (s.strand i) (s.strand i).held _
  unfold State.issueAdvice
  dsimp only
  split
  · rw [State.enqueueRecord_strand, counted]
  · rw [State.strand_modStrand_same, ← counted]
    unfold Strand.holdAdvice
    split
    · exact h _ _ (State.strand _ i).pieceCounters
    · exact h _ _ _

theorem BesideAdvice.adviseRun (h : BesideAdvice proj) (s : State) (i : Fin 4) (r : Run) :
    proj ((s.adviseRun i r).strand i) = proj (s.strand i) := by
  unfold State.adviseRun
  split
  · exact h.issueAdvice ..
  · rfl

/-- A projection of a strand that slices and marks on their way into the map leave as it is: it reads neither the runs, nor the
settle counter, nor the counters of the map, nor what advice changes. -/
structure BesideMap {α : Type} (proj : Strand → α) : Prop where
  map : ∀ st runs settle n, proj { st with runs := runs, settle := settle, mapCounters := n } = proj st
  advice : BesideAdvice proj

theorem BesideMap.closeOpenRun (h : BesideMap proj) (s : State) (i : Fin 4) (stop : Nat) :
    proj ((s.closeOpenRun i stop).strand i) = proj (s.strand i) := by
  unfold State.closeOpenRun
  split
  · rfl
  · rw [h.advice.adviseRun, State.strand_modStrand_same]
    exact h.map (s.strand i) _ (s.strand i).settle _

theorem BesideMap.enterSlice (h : BesideMap proj) (s : State) (i : Fin 4) (e : Entry) :
    proj ((s.enterSlice i e).strand i) = proj (s.strand i) := by
  have opens (t : State) : proj ((t.modStrand i fun st => st.openWith e).strand i) = proj (t.strand i) := by
    rw [State.strand_modStrand_same]
    exact h.map (t.strand i) ..
  have turns (r : Run) : proj ((s.turnOrMerge i r e).strand i) = proj (s.strand i) := by
    unfold State.turnOrMerge
    split
    · have merges : proj ((s.modStrand i fun st => { st.replaceLast (r.mergeSlice e) with
          settle := 0, mapCounters.mapMerged := inc st.mapCounters.mapMerged }).strand i) = proj (s.strand i) := by
        rw [State.strand_modStrand_same]
        exact h.map (s.strand i) ..
      unfold State.mergeSlice
      dsimp only
      split
      · exact merges
      · rw [State.raise_strand]; exact merges
    · rw [State.turnRun, opens, h.closeOpenRun]
  unfold State.enterSlice
  dsimp only
  split
  · exact opens s
  · split
    · rw [State.strand_modStrand_same]
      exact h.map (s.strand i) _ _ (s.strand i).mapCounters
    · split
      · exact turns _
      · split
        · rw [State.strand_modStrand_same]
          exact h.map (s.strand i) ..
        · exact turns _

theorem BesideMap.enterSkipped (h : BesideMap proj) (i : Fin 4) (n : Nat) : ∀ (s : State) (k : Nat),
    proj ((s.enterSkipped i k n).strand i) = proj (s.strand i) := by
  induction n with
  | zero => exact fun _ _ => rfl
  | succ n ih =>
    intro s k
    rw [State.enterSkipped, ih, h.enterSlice]

theorem BesideMap.handOver (h : BesideMap proj) (counters : ∀ st n, proj { st with asmCounters := n } = proj st) (s : State)
    (i : Fin 4) (e : Entry) : proj ((s.handOver i e).strand i) = proj (s.strand i) := by
  unfold State.handOver
  dsimp only
  rw [h.enterSlice, h.enterSkipped, State.strand_modStrand_same]
  exact counters ..

theorem BesideMap.closeAtEnd (h : BesideMap proj) (s : State) (i : Fin 4) :
    proj ((s.closeAtEnd i).strand i) = proj (s.strand i) := by
  unfold State.closeAtEnd
  split
  · rfl
  · rw [State.strand_modStrand_same, ← h.closeOpenRun s i (s.strand i).front]
    exact h.map _ (State.strand _ i).runs _ (State.strand _ i).mapCounters

end

/-! ### The open run -/

section
variable {st : Strand} {before : List Run} {r : Run} {acc folds : Int}

theorem Strand.openRun_of_last (hruns : st.runs = before ++ [r]) (hopen : r.isOpen = true) : st.openRun = some r := by
  simp [Strand.openRun, hruns, hopen]

theorem Strand.openRun_of_closed (h : ∀ r, st.runs.getLast? = some r → r.isOpen = false) : st.openRun = none := by
  unfold Strand.openRun
  split
  · next r hr => rw [h r hr]; rfl
  · rfl

theorem Strand.openRun_eq_some {r : Run} (h : st.openRun = some r) :
    ∃ before, st.runs = before ++ [r] ∧ r.isOpen = true := by
  unfold Strand.openRun at h
  split at h
  · next x hx =>
    split at h
    · next hopen =>
      obtain rfl := Option.some.inj h
      obtain ⟨before, hb⟩ := List.getLast?_eq_some_iff.mp hx
      exact ⟨before, hb, hopen⟩
    · cases h
  · cases h

theorem Run.isOpen_of_running (h : r.body = .running acc folds) : r.isOpen = true := by simp [Run.isOpen, Run.stop?, h]

theorem Run.exists_running (h : r.isOpen = true) : ∃ acc folds, r.body = .running acc folds := by
  cases hb : r.body with
  | running acc folds => exact ⟨acc, folds, rfl⟩
  | closed stop area saturated => simp [Run.isOpen, Run.stop?, hb] at h

theorem Strand.replaceLast_of_last (hruns : st.runs = before ++ [r]) (x : Run) :
    st.replaceLast x = { st with runs := before ++ [x] } := by
  simp [Strand.replaceLast, hruns]

theorem Run.takeSlice_of_running (h : r.body = .running acc folds) (area : Int) : r.takeSlice area =
    { r with sliceCount := inc r.sliceCount, body := .running (addArea acc folds area).1 (addArea acc folds area).2 } := by
  simp [Run.takeSlice, h]

end

/-! ### The closure of the open run (R123, R133) -/

section
variable {s : State} {i : Fin 4} {before : List Run} {r : Run} {acc folds : Int}

theorem State.adviseRun_of_closed {r : Run} {stop : Nat} {area : Int} {saturated : Bool}
    (h : r.body = .closed stop area saturated) (s : State) (i : Fin 4) : s.adviseRun i r =
      if 3 ≤ r.cls.severity then s.issueAdvice i .run r.cls r.start stop else s := by
  have ends : r.stopAt r.start = stop := by simp [Run.stopAt, Run.stop?, h]
  rw [State.adviseRun, ends]
  simp only [ConditionClass.advised, decide_eq_true_eq]

theorem State.closeOpenRun_of_none (h : (s.strand i).openRun = none) (stop : Nat) : s.closeOpenRun i stop = s := by
  simp only [State.closeOpenRun, h]

/-- The open run closes at a point with the area that it reports, and with advice (R123, R126, R133). -/
theorem State.closeOpenRun_of_open (hruns : (s.strand i).runs = before ++ [r]) (hbody : r.body = .running acc folds)
    (stop : Nat) : s.closeOpenRun i stop =
      let u := s.modStrand i fun a =>
        { a with
          runs := before ++ [{ r with body := .closed stop (reportArea acc folds).1 (reportArea acc folds).2 }],
          mapCounters.runsClosed := inc a.mapCounters.runsClosed }
      if 3 ≤ r.cls.severity then u.issueAdvice i .run r.cls r.start stop else u := by
  have body : r.body.closedAt stop = .closed stop (reportArea acc folds).1 (reportArea acc folds).2 := by
    rw [hbody]; rfl
  simp only [State.closeOpenRun, Strand.openRun_of_last hruns (Run.isOpen_of_running hbody), body]
  rw [State.adviseRun_of_closed rfl]
  rw [State.modStrand_congr (i := i) (g := fun a =>
    { a with
      runs := before ++ [{ r with body := .closed stop (reportArea acc folds).1 (reportArea acc folds).2 }],
      mapCounters.runsClosed := inc a.mapCounters.runsClosed }) (by rw [Strand.replaceLast_of_last hruns])]

theorem besideAdvice_runs : BesideAdvice Strand.runs := fun _ _ _ => rfl

/-- What the closure of the open run leaves of the map. -/
theorem State.closeOpenRun_runs (hruns : (s.strand i).runs = before ++ [r]) (hbody : r.body = .running acc folds)
    (stop : Nat) : ((s.closeOpenRun i stop).strand i).runs =
      before ++ [{ r with body := .closed stop (reportArea acc folds).1 (reportArea acc folds).2 }] := by
  rw [State.closeOpenRun_of_open hruns hbody]
  dsimp only
  split
  · rw [besideAdvice_runs.issueAdvice, State.strand_modStrand_same]
  · rw [State.strand_modStrand_same]

/-! ### The placing of a slice (R122, R124) -/

theorem State.enterSlice_of_none (h : (s.strand i).openRun = none) (e : Entry) : s.enterSlice i e =
    s.modStrand i fun st => st.openWith e := by
  simp only [State.enterSlice, h]

theorem State.enterSlice_of_same (hopen : (s.strand i).openRun = some r) {e : Entry} (same : e.cls = r.cls) :
    s.enterSlice i e = s.modStrand i fun st => { st.replaceLast (r.takeSlice e.area) with settle := 0 } := by
  simp only [State.enterSlice, hopen]
  exact if_pos same

theorem State.enterSlice_of_absorbed (hopen : (s.strand i).openRun = some r) {e : Entry}
    (lower : e.cls.severity < r.cls.severity)
    (settles : (s.strand i).settle + 1 < (s.strand i).activeBank.header.settleCount) :
    s.enterSlice i e = s.modStrand i fun st =>
      { st.replaceLast (r.takeSlice e.area) with
        settle := st.settle + 1, mapCounters.slicesAbsorbed := inc st.mapCounters.slicesAbsorbed } := by
  simp only [State.enterSlice, hopen]
  rw [if_neg (fun same => by rw [same] at lower; exact lt_irrefl _ lower), if_neg (by omega), if_pos settles]

/-- The slice is of a worse class, or of a lower one for as long as the settle count asks (R122). -/
abbrev TurnsRun (st : Strand) (r : Run) (e : Entry) : Prop :=
  r.cls.severity < e.cls.severity ∨
    e.cls.severity < r.cls.severity ∧ st.activeBank.header.settleCount ≤ st.settle + 1

theorem State.enterSlice_of_turns (hopen : (s.strand i).openRun = some r) {e : Entry} (turns : TurnsRun (s.strand i) r e) :
    s.enterSlice i e = s.turnOrMerge i r e := by
  simp only [State.enterSlice, hopen]
  rcases turns with worse | ⟨lower, settled⟩
  · rw [if_neg (fun same => by rw [same] at worse; exact lt_irrefl _ worse), if_pos worse]
  · rw [if_neg (fun same => by rw [same] at lower; exact lt_irrefl _ lower), if_neg (by omega), if_neg (by omega)]

theorem State.turnOrMerge_of_room (room : (s.strand i).runs.length < 96) (r : Run) (e : Entry) :
    s.turnOrMerge i r e = s.turnRun i e := if_neg (Nat.not_le.mpr room)

theorem State.turnOrMerge_of_full (full : 96 ≤ (s.strand i).runs.length) (r : Run) (e : Entry) :
    s.turnOrMerge i r e = s.mergeSlice i r e := if_pos full

/-- The run that a slice opens (R122). -/
def Entry.opened (e : Entry) (pitch : Nat) : Run :=
  { start := e.slice * pitch, body := .running (addArea 0 0 e.area).1 (addArea 0 0 e.area).2, cls := e.cls, cause := e.cause,
    sliceCount := 1 }

theorem Strand.openWith_eq (st : Strand) (e : Entry) : st.openWith e =
    { st with
      runs := st.runs ++ [e.opened st.params.pitch], settle := 0,
      mapCounters.runsOpened := inc st.mapCounters.runsOpened } := rfl

/-- An open run with a slice taken (R121, R125). -/
def Run.taken (r : Run) (acc folds area : Int) : Run :=
  { r with sliceCount := inc r.sliceCount, body := .running (addArea acc folds area).1 (addArea acc folds area).2 }

theorem Run.takeSlice_eq (h : r.body = .running acc folds) (area : Int) : r.takeSlice area = r.taken acc folds area :=
  Run.takeSlice_of_running h area

theorem Run.mergeSlice_eq (h : r.body = .running acc folds) (e : Entry) : r.mergeSlice e =
    { r.taken acc folds e.area with
      cls := if r.cls.severity < e.cls.severity then e.cls else r.cls,
      cause := if r.cls.severity < e.cls.severity then e.cause else r.cause, merged := true } := by
  rw [Run.mergeSlice, Run.takeSlice_eq h]
  rfl

end

/-! ### The cover (R120) -/

section
variable {before : List Run} {r x y : Run} {start front stop : Nat}

/-- An open last run may be replaced by one with the same beginning, and the front may move on. -/
theorem Tiles.replace_open (h : Tiles (before ++ [r]) start front) (hx : x.start = r.start) (hopen : x.isOpen = true)
    (hle : front ≤ stop) : Tiles (before ++ [x]) start stop := by
  obtain ⟨mid, covered, hstart, hlt, -⟩ := (tiles_append [r] start front h.closed_before_last).mp h
  refine (tiles_append [x] start stop h.closed_before_last).mpr ⟨mid, covered, hx.trans hstart, ?_, ?_⟩
  · rw [Run.stopAt_of_open hopen]
    rw [h.last_stop] at hlt
    exact hlt.trans_le hle
  · rw [Run.stopAt_of_open hopen]
    exact rfl

/-- A closed last run may end at the front, and a run that is open begin there. -/
theorem Tiles.turn (h : Tiles (before ++ [r]) start front) (hx : x.start = r.start) (hclosed : x.isOpen = false)
    (hstop : x.stopAt front = front) (hy : y.start = front) (hopen : y.isOpen = true) (hlt : front < stop) :
    Tiles (before ++ [x, y]) start stop := by
  obtain ⟨mid, covered, hstart, hmid, -⟩ := (tiles_append [r] start front h.closed_before_last).mp h
  rw [h.last_stop] at hmid
  have ends : x.stopAt stop = front := (Run.stopAt_of_closed hclosed stop front).trans hstop
  refine (tiles_append [x, y] start stop h.closed_before_last).mpr ⟨mid, covered, hx.trans hstart, ?_, ?_, ?_, ?_⟩
  · rw [ends]; exact hmid
  · rw [ends]; exact hy
  · rw [ends, Run.stopAt_of_open hopen]; exact hlt
  · rw [Run.stopAt_of_open hopen]; exact rfl

end

section
variable {s : State} {i : Fin 4}

theorem Entry.opened_isOpen (e : Entry) (pitch : Nat) : (e.opened pitch).isOpen = true := rfl

theorem Run.taken_isOpen (r : Run) (acc folds area : Int) : (r.taken acc folds area).isOpen = true := rfl

theorem State.turnRun_runs {before : List Run} {r : Run} {acc folds : Int} (hruns : (s.strand i).runs = before ++ [r])
    (hbody : r.body = .running acc folds) (e : Entry) : ((s.turnRun i e).strand i).runs =
      before ++ [{ r with
        body := .closed (e.slice * (s.strand i).params.pitch) (reportArea acc folds).1 (reportArea acc folds).2 },
        e.opened (s.strand i).params.pitch] := by
  have params := BesideMap.closeOpenRun (proj := Strand.params) ⟨fun _ _ _ _ => rfl, fun _ _ _ => rfl⟩ s i
    (e.slice * (s.strand i).params.pitch)
  rw [State.turnRun, State.strand_modStrand_same, Strand.openWith_eq]
  dsimp only
  rw [State.closeOpenRun_runs hruns hbody, params, List.append_assoc]
  rfl

theorem State.mergeSlice_runs {before : List Run} {r : Run} (hruns : (s.strand i).runs = before ++ [r]) (e : Entry) :
    ((s.mergeSlice i r e).strand i).runs = before ++ [r.mergeSlice e] := by
  have merged : ((s.modStrand i fun st => { st.replaceLast (r.mergeSlice e) with
      settle := 0, mapCounters.mapMerged := inc st.mapCounters.mapMerged }).strand i).runs = before ++ [r.mergeSlice e] := by
    rw [State.strand_modStrand_same, Strand.replaceLast_of_last hruns]
  unfold State.mergeSlice
  dsimp only
  split
  · exact merged
  · rw [State.raise_strand]; exact merged

/-- The runs that a slice leaves: one that opens, the open run with the slice taken or merged, or the open run closed and one that
opens (R122, R124). -/
theorem State.enterSlice_runs (e : Entry) :
    ((s.strand i).openRun = none ∧
        ((s.enterSlice i e).strand i).runs = (s.strand i).runs ++ [e.opened (s.strand i).params.pitch]) ∨
      ∃ before r, (s.strand i).runs = before ++ [r] ∧ r.isOpen = true ∧
        ((∃ x : Run, x.start = r.start ∧ x.isOpen = true ∧ e.cls.severity ≤ x.cls.severity ∧
            ((s.enterSlice i e).strand i).runs = before ++ [x]) ∨
          ∃ area saturated, (s.strand i).runs.length < 96 ∧ ((s.enterSlice i e).strand i).runs =
            before ++ [{ r with body := .closed (e.slice * (s.strand i).params.pitch) area saturated },
              e.opened (s.strand i).params.pitch]) := by
  cases hr : (s.strand i).openRun with
  | none =>
    refine .inl ⟨rfl, ?_⟩
    rw [State.enterSlice_of_none hr, State.strand_modStrand_same, Strand.openWith_eq]
  | some r =>
    obtain ⟨before, hruns, hopen⟩ := Strand.openRun_eq_some hr
    obtain ⟨acc, folds, hbody⟩ := Run.exists_running hopen
    refine .inr ⟨before, r, hruns, hopen, ?_⟩
    have turned (turns : TurnsRun (s.strand i) r e) : (∃ x : Run, x.start = r.start ∧ x.isOpen = true ∧
        e.cls.severity ≤ x.cls.severity ∧ ((s.enterSlice i e).strand i).runs = before ++ [x]) ∨
          ∃ area saturated, (s.strand i).runs.length < 96 ∧ ((s.enterSlice i e).strand i).runs =
            before ++ [{ r with body := .closed (e.slice * (s.strand i).params.pitch) area saturated },
              e.opened (s.strand i).params.pitch] := by
      rw [State.enterSlice_of_turns hr turns]
      by_cases room : (s.strand i).runs.length < 96
      · rw [State.turnOrMerge_of_room room, State.turnRun_runs hruns hbody]
        exact .inr ⟨_, _, room, rfl⟩
      · rw [State.turnOrMerge_of_full (Nat.not_lt.mp room), State.mergeSlice_runs hruns]
        refine .inl ⟨_, ?_, ?_, ?_, rfl⟩
        · rw [Run.mergeSlice_eq hbody]; rfl
        · rw [Run.mergeSlice_eq hbody]; rfl
        · have := severity_worse r.cls e.cls
          show e.cls.severity ≤ (worse r.cls e.cls).severity
          omega
    rcases lt_trichotomy e.cls.severity r.cls.severity with lower | same | worse
    · by_cases settles : (s.strand i).settle + 1 < (s.strand i).activeBank.header.settleCount
      · refine .inl ⟨r.taken acc folds e.area, rfl, rfl, lower.le, ?_⟩
        rw [State.enterSlice_of_absorbed hr lower settles, State.strand_modStrand_same, Run.takeSlice_eq hbody,
          Strand.replaceLast_of_last hruns]
      · exact turned (.inr ⟨lower, Nat.not_lt.mp settles⟩)
    · refine .inl ⟨r.taken acc folds e.area, rfl, rfl, same.le, ?_⟩
      rw [State.enterSlice_of_same hr (ConditionClass.severity_injective same), State.strand_modStrand_same,
        Run.takeSlice_eq hbody, Strand.replaceLast_of_last hruns]
    · exact turned (.inl worse)

/-- A slice that begins at the front extends the cover to its end, and the map then ends in an open run of at least its class. -/
theorem State.enterSlice_cover (e : Entry) (hmap : (s.strand i).runs.length ≤ 96)
    (hopen : (s.strand i).runs = [] ∨ (s.strand i).openRun.isSome) (hpitch : 1 ≤ (s.strand i).params.pitch)
    (hcover : Tiles (s.strand i).runs (s.strand i).retired (e.slice * (s.strand i).params.pitch)) :
    Tiles ((s.enterSlice i e).strand i).runs (s.strand i).retired ((e.slice + 1) * (s.strand i).params.pitch) ∧
      (∃ r, ((s.enterSlice i e).strand i).openRun = some r ∧ e.cls.severity ≤ r.cls.severity) ∧
      ((s.enterSlice i e).strand i).runs.length ≤ 96 := by
  have further : e.slice * (s.strand i).params.pitch < (e.slice + 1) * (s.strand i).params.pitch :=
    Nat.mul_lt_mul_of_pos_right (Nat.lt_succ_self _) hpitch
  rcases State.enterSlice_runs (s := s) (i := i) e with ⟨none, runs⟩ |
    ⟨before, r, hruns, ropen, ⟨x, hx, xopen, hcls, runs⟩ | ⟨area, saturated, room, runs⟩⟩
  · have empty : (s.strand i).runs = [] := hopen.resolve_right (by simp [none])
    rw [empty, List.nil_append] at runs
    rw [empty, tiles_nil] at hcover
    refine ⟨?_, ⟨_, Strand.openRun_of_last (before := []) runs (e.opened_isOpen _), le_rfl⟩, by simp [runs]⟩
    rw [runs, hcover]
    exact ⟨rfl, further, rfl⟩
  · rw [hruns] at hcover hmap
    refine ⟨?_, ⟨x, Strand.openRun_of_last runs xopen, hcls⟩, by simpa [runs] using hmap⟩
    rw [runs]
    exact hcover.replace_open hx xopen further.le
  · rw [hruns] at hcover room
    refine ⟨?_, ⟨_, Strand.openRun_of_last (before := before ++ [_]) (by simpa using runs) (e.opened_isOpen _), le_rfl⟩, ?_⟩
    · rw [runs]
      exact hcover.turn rfl rfl rfl rfl (e.opened_isOpen _) further
    · rw [runs]
      simp only [List.length_append, List.length_cons, List.length_nil] at room ⊢
      omega

end

end Sys2Proof.Machine
end

section
/-! Proofs: the batch of a released slice (R75, R121), and the placing of slices as it is stated. -/

namespace Sys2Proof.Machine

/-! ### Skipped slices -/

/-- A stretch that was never evaluated has the worst mark that meets it (R121). -/
theorem unseenUnder_eq (marks : List Mark) (start stop : Nat) : unseenUnder marks start stop =
    match worstMark marks start stop with
    | some k => (k.cls, some (.mark k))
    | none => (.unseen, none) := by
  obtain ⟨weld, stopMark, neither⟩ := worstMark_cases marks start stop
  have hw : (marks.any fun m => m.kind = .weldZone && m.start < stop && start < m.stop) = true ↔
      MarkMeets marks .weldZone start stop := by simp [MarkMeets, and_assoc]
  have hs : (marks.any fun m => m.start < stop && start < m.stop) = true ↔
      MarkMeets marks .weldZone start stop ∨ MarkMeets marks .stopMark start stop := by
    simp only [List.any_eq_true, Bool.and_eq_true, decide_eq_true_eq, MarkMeets]
    constructor
    · rintro ⟨m, hm, meets⟩
      cases hk : m.kind with
      | weldZone => exact .inl ⟨m, hm, hk, meets⟩
      | stopMark => exact .inr ⟨m, hm, hk, meets⟩
    · rintro (⟨m, hm, -, meets⟩ | ⟨m, hm, -, meets⟩) <;> exact ⟨m, hm, meets⟩
  unfold unseenUnder
  by_cases isWeld : MarkMeets marks .weldZone start stop
  · rw [if_pos (hw.mpr isWeld), weld isWeld]
    rfl
  · rw [if_neg (mt hw.mp isWeld)]
    by_cases isStop : MarkMeets marks .stopMark start stop
    · rw [if_pos (hs.mpr (.inr isStop)), stopMark isWeld isStop]
      rfl
    · rw [if_neg (mt hs.mp (not_or.mpr ⟨isWeld, isStop⟩)), neither isWeld isStop]

/-- The slice that a skipped index enters (R121). -/
def skippedSlice (marks : List Mark) (pitch k : Nat) : Entry :=
  let u := unseenUnder marks (k * pitch) ((k + 1) * pitch)
  { slice := k, cls := u.1, cause := u.2, area := 0 }

theorem Strand.skippedEntry_eq (st : Strand) (k : Nat) : st.skippedEntry k = skippedSlice st.marks st.params.pitch k := by
  unfold Strand.skippedEntry skippedSlice
  rw [unseenUnder_eq]
  cases worstMark st.marks (k * st.params.pitch) ((k + 1) * st.params.pitch) <;> rfl

theorem besideMap_marks : BesideMap Strand.marks := ⟨fun _ _ _ _ => rfl, fun _ _ _ => rfl⟩
theorem besideMap_params : BesideMap Strand.params := ⟨fun _ _ _ _ => rfl, fun _ _ _ => rfl⟩
theorem besideMap_retired : BesideMap Strand.retired := ⟨fun _ _ _ _ => rfl, fun _ _ _ => rfl⟩

section
variable (i : Fin 4)

/-- Skipped slices enter in index order (R121). -/
theorem State.enterSkipped_eq {marks : List Mark} {params : StrandParams} (n : Nat) : ∀ (s : State) (k : Nat),
    (s.strand i).marks = marks → (s.strand i).params = params → s.enterSkipped i k n =
      ((List.range' k n).map (skippedSlice marks params.pitch)).foldl (fun u x => u.enterSlice i x) s := by
  induction n with
  | zero => exact fun _ _ _ _ => rfl
  | succ n ih =>
    intro s k hm hp
    rw [State.enterSkipped, ih _ _ (by rw [besideMap_marks.enterSlice, hm]) (by rw [besideMap_params.enterSlice, hp]),
      Strand.skippedEntry_eq, hm, hp, List.range'_succ, List.map_cons, List.foldl_cons]

/-- The runs of a strand whose map takes slices: at most 96, and the last one is open (R119, R120). -/
abbrev MapOpen (st : Strand) : Prop := st.runs.length ≤ 96 ∧ (st.runs = [] ∨ st.openRun.isSome)

/-- A batch that begins at the front extends the cover to its end. -/
theorem State.enterSkipped_cover (n : Nat) : ∀ (s : State) (k : Nat), MapOpen (s.strand i) → 1 ≤ (s.strand i).params.pitch →
    Tiles (s.strand i).runs (s.strand i).retired (k * (s.strand i).params.pitch) →
      MapOpen ((s.enterSkipped i k n).strand i) ∧
        Tiles ((s.enterSkipped i k n).strand i).runs (s.strand i).retired ((k + n) * (s.strand i).params.pitch) := by
  induction n with
  | zero => exact fun _ _ hmap _ hcover => ⟨hmap, hcover⟩
  | succ n ih =>
    intro s k ⟨hlength, hopen⟩ hpitch hcover
    obtain ⟨cover, ⟨r, hr, -⟩, length⟩ := State.enterSlice_cover ((s.strand i).skippedEntry k) hlength hopen hpitch
      (by rw [Strand.skippedEntry_eq]; exact hcover)
    have rest := ih (s.enterSlice i ((s.strand i).skippedEntry k)) (k + 1) ⟨length, .inr (by rw [hr]; rfl)⟩
    rw [besideMap_params.enterSlice, besideMap_retired.enterSlice] at rest
    rw [Nat.add_right_comm] at rest
    rw [State.enterSkipped]
    have slice : ((s.strand i).skippedEntry k).slice = k := congrArg Entry.slice (Strand.skippedEntry_eq _ k)
    rw [slice] at cover
    exact rest hpitch cover

/-- A released slice and the skipped ones before it extend the cover from the front to the slice's end (R75, R121). -/
theorem State.handOver_cover (s : State) (e : Entry) (hmap : MapOpen (s.strand i)) (hpitch : 1 ≤ (s.strand i).params.pitch)
    (hle : (s.strand i).nextIndex ≤ e.slice)
    (hcover : Tiles (s.strand i).runs (s.strand i).retired ((s.strand i).nextIndex * (s.strand i).params.pitch)) :
    Tiles ((s.handOver i e).strand i).runs (s.strand i).retired ((e.slice + 1) * (s.strand i).params.pitch) ∧
      (∃ r, ((s.handOver i e).strand i).openRun = some r) ∧ ((s.handOver i e).strand i).runs.length ≤ 96 := by
  let first := (s.strand i).nextIndex
  let counted := s.modStrand i fun st =>
    { st with asmCounters.slicesSkipped := satAdd st.asmCounters.slicesSkipped (e.slice - first) }
  have same : counted.strand i = { s.strand i with
      asmCounters.slicesSkipped := satAdd (s.strand i).asmCounters.slicesSkipped (e.slice - first) } :=
    State.strand_modStrand_same ..
  have batch := State.enterSkipped_cover i (e.slice - first) counted first
  rw [same, Nat.add_sub_cancel' hle] at batch
  obtain ⟨⟨length, hopen⟩, cover⟩ := batch hmap hpitch hcover
  have params : ((counted.enterSkipped i first (e.slice - first)).strand i).params = (s.strand i).params := by
    rw [besideMap_params.enterSkipped, same]
  have retired : ((counted.enterSkipped i first (e.slice - first)).strand i).retired = (s.strand i).retired := by
    rw [besideMap_retired.enterSkipped, same]
  have last := State.enterSlice_cover (s := counted.enterSkipped i first (e.slice - first)) (i := i) e length hopen
  rw [params, retired] at last
  obtain ⟨cover, ⟨r, hr, -⟩, length⟩ := last hpitch cover
  exact ⟨cover, ⟨r, hr⟩, length⟩

theorem State.handOver_eq (s : State) (e : Entry) : s.handOver i e =
    (((List.range' (s.strand i).nextIndex (e.slice - (s.strand i).nextIndex)).map
      (skippedSlice (s.strand i).marks (s.strand i).params.pitch)) ++ [e]).foldl (fun u x => u.enterSlice i x)
      (s.modStrand i fun a =>
        { a with asmCounters.slicesSkipped :=
            satAdd a.asmCounters.slicesSkipped (e.slice - (s.strand i).nextIndex) }) := by
  rw [List.foldl_append, List.foldl_cons, List.foldl_nil, State.handOver]
  dsimp only
  rw [State.enterSkipped_eq i (marks := (s.strand i).marks) (params := (s.strand i).params) _ _ _
    (by rw [State.strand_modStrand_same]) (by rw [State.strand_modStrand_same])]

end

/-! ### The end of draining (R55, R123) -/

section
variable {s : State} {i : Fin 4}

theorem State.closeAtEnd_of_none (h : (s.strand i).openRun = none) : s.closeAtEnd i = s := by
  simp only [State.closeAtEnd, h]

theorem State.closeAtEnd_of_open {r : Run} (h : (s.strand i).openRun = some r) : s.closeAtEnd i =
    (s.closeOpenRun i (s.strand i).front).modStrand i fun st => { st with settle := 0 } := by
  simp only [State.closeAtEnd, h]

end

/-- Settles O36: the cover by the placing of each slice, and the placing case by case. -/
theorem sliceExtendsCover : Obligations.SliceExtendsCover := by
  refine ⟨fun s i e => ?_, fun s i e => ?_, fun s i e => ?_, fun s i => ?_⟩
  · intro st front stop hmap hstate hpitch hcover
    obtain ⟨cover, hopen, -⟩ := State.enterSlice_cover e hmap.1 (hmap.2 hstate) hpitch hcover
    exact ⟨cover, hopen⟩
  · intro st first pitch skipped t
    refine ⟨?_, fun hmap hstate hpitch hle hcover => ?_⟩
    · have batch := State.handOver_eq i s e
      simp only [skipped, List.length_range']
      exact batch
    · exact (State.handOver_cover i s e ⟨hmap.1, hmap.2 hstate⟩ hpitch hle hcover).1
  · intro st start opened t
    refine ⟨fun closed => State.enterSlice_of_none (Strand.openRun_of_closed closed) e, ?_⟩
    intro before r acc folds hruns hbody sum taken count turns
    have hopen : st.openRun = some r := Strand.openRun_of_last hruns (Run.isOpen_of_running hbody)
    have htaken : r.takeSlice e.area = taken := Run.takeSlice_of_running hbody e.area
    have last (x : Run) : st.replaceLast x = { st with runs := before ++ [x] } := Strand.replaceLast_of_last hruns x
    refine ⟨fun same => ?_, fun lower settles => ?_, fun hturns room => ?_, fun hturns full => ?_⟩
    · have entered := State.enterSlice_of_same hopen same
      rw [htaken] at entered
      exact entered.trans (State.modStrand_congr (by rw [last]))
    · have entered := State.enterSlice_of_absorbed hopen lower settles
      rw [htaken] at entered
      exact entered.trans (State.modStrand_congr (by rw [last]))
    · intro closed u
      have entered : t = s.turnRun i e :=
        (State.enterSlice_of_turns hopen hturns).trans (State.turnOrMerge_of_room room r e)
      have turned : s.closeOpenRun i start = if 3 ≤ r.cls.severity then u.issueAdvice i .run r.cls r.start start else u :=
        State.closeOpenRun_of_open hruns hbody start
      have runs : ((s.closeOpenRun i start).strand i).runs = before ++ [closed] := State.closeOpenRun_runs hruns hbody start
      have params : ((s.closeOpenRun i start).strand i).params = st.params := besideMap_params.closeOpenRun s i start
      rw [entered, State.turnRun, ← turned]
      refine State.modStrand_congr ?_
      rw [Strand.openWith_eq, runs, params, List.append_assoc]
      rfl
    · intro raised merged u
      have entered : t = s.mergeSlice i r e :=
        (State.enterSlice_of_turns hopen hturns).trans (State.turnOrMerge_of_full full r e)
      have hmerged : r.mergeSlice e = merged := Run.mergeSlice_eq hbody e
      have hu : (s.modStrand i fun st =>
          { st.replaceLast merged with settle := 0, mapCounters.mapMerged := inc st.mapCounters.mapMerged }) = u :=
        State.modStrand_congr (by rw [last])
      rw [entered, State.mergeSlice]
      simp only [hmerged, hu]
      rfl
  · intro st t
    refine ⟨fun closed => State.closeAtEnd_of_none (Strand.openRun_of_closed closed), ?_⟩
    intro before r acc folds hruns hbody u
    have closed : t = (s.closeOpenRun i st.front).modStrand i fun a => { a with settle := 0 } :=
      State.closeAtEnd_of_open (Strand.openRun_of_last hruns (Run.isOpen_of_running hbody))
    rw [closed, State.closeOpenRun_of_open hruns hbody]

end Sys2Proof.Machine
end

section
/-! Proofs: what a cut takes from the map (R141), and how long the taken runs are (R144). -/

namespace Sys2Proof.Machine

/-! ### The body of a run -/

theorem Run.closedAt_stopAt {r : Run} (h : r.isOpen = false) (front : Nat) : r.body.closedAt (r.stopAt front) = r.body := by
  cases hb : r.body with
  | running acc folds => simp [Run.isOpen, Run.stop?, hb] at h
  | closed stop area saturated => simp [RunBody.closedAt, Run.stopAt, Run.stop?, hb]

theorem RunBody.fresh_eq (r : Run) (front : Nat) :
    r.body.fresh = if r.isOpen then .running 0 0 else .closed (r.stopAt front) 0 false := by
  cases hb : r.body <;> simp [RunBody.fresh, Run.isOpen, Run.stopAt, Run.stop?, hb]

/-- A run whose body ended at a point ends there. -/
theorem Run.stopAt_closedAt {r : Run} {b : RunBody} {stop : Nat} (h : r.body = b.closedAt stop) (front : Nat) :
    r.stopAt front = stop := by
  cases b <;> simp_all [RunBody.closedAt, Run.stopAt, Run.stop?]

theorem Run.isOpen_closedAt {r : Run} {b : RunBody} {stop : Nat} (h : r.body = b.closedAt stop) : r.isOpen = false := by
  cases b <;> simp_all [RunBody.closedAt, Run.isOpen, Run.stop?]

theorem Run.stopAt_remainder (r : Run) (x front pitch : Nat) : (r.remainder x front pitch).stopAt front = r.stopAt front := by
  cases hb : r.body <;> simp [Run.remainder, RunBody.fresh, Run.stopAt, Run.stop?, hb]

/-! ### Which runs a cut takes -/

section
variable {x front pitch : Nat} {r : Run} {rs : List Run}

theorem takeRuns_of_whole (h : r.stopAt front ≤ x) : takeRuns x front pitch (r :: rs) =
    (r.takenAt (r.stopAt front) :: (takeRuns x front pitch rs).1, (takeRuns x front pitch rs).2) := by
  simp [takeRuns, h]

theorem takeRuns_of_across (hstart : r.start < x) (h : x < r.stopAt front) : takeRuns x front pitch (r :: rs) =
    ([r.partBefore x front pitch], r.remainder x front pitch :: rs) := by
  simp [takeRuns, hstart, Nat.not_le.mpr h]

theorem takeRuns_of_beyond (hstart : x ≤ r.start) (h : x < r.stopAt front) : takeRuns x front pitch (r :: rs) =
    ([], r :: rs) := by
  simp [takeRuns, Nat.not_lt.mpr hstart, Nat.not_le.mpr h]

end

/-- The runs taken are as long as the stretch that the cut takes, and the ones that stay cover the rest. -/
theorem Tiles.takeRuns {x front : Nat} (pitch : Nat) (hle : x ≤ front) : ∀ {runs : List Run} {start : Nat},
    Tiles runs start front → start ≤ x →
      ((takeRuns x front pitch runs).1.map Run.length).sum = x - start ∧ Tiles (takeRuns x front pitch runs).2 x front := by
  intro runs
  induction runs with
  | nil =>
    intro start htiles hx
    rw [tiles_nil] at htiles
    obtain rfl : x = start := by omega
    simp [Machine.takeRuns, htiles]
  | cons r rs ih =>
    intro start htiles hx
    obtain ⟨rfl, hlt, hrest⟩ := (tiles_cons ..).mp htiles
    by_cases hwhole : r.stopAt front ≤ x
    · obtain ⟨sum, cover⟩ := ih hrest hwhole
      have length : (r.takenAt (r.stopAt front)).length = r.stopAt front - r.start := by
        rw [Run.length, Run.stopAt_closedAt rfl]; rfl
      rw [takeRuns_of_whole hwhole]
      refine ⟨?_, cover⟩
      rw [List.map_cons, List.sum_cons, sum, length]
      omega
    · obtain hstart | rfl := Nat.lt_or_eq_of_le hx
      · have length : (r.partBefore x front pitch).length = x - r.start := by
          rw [Run.length, Run.stopAt_closedAt rfl]; rfl
        rw [takeRuns_of_across hstart (Nat.not_le.mp hwhole)]
        refine ⟨by simp [length], (tiles_cons ..).mpr ⟨rfl, ?_, ?_⟩⟩
        · rw [Run.stopAt_remainder]; exact Nat.not_le.mp hwhole
        · rw [Run.stopAt_remainder]; exact hrest
      · rw [takeRuns_of_beyond (Nat.le_refl _) hlt]
        exact ⟨by simp, htiles⟩

/-- Each run counts in the length of its own class. -/
theorem sum_classLengths (taken : List Run) : (classLengths taken).toList.sum = (taken.map Run.length).sum := by
  induction taken with
  | nil => rfl
  | cons r rs ih =>
    have own (c : ConditionClass) :
        classLength c (r :: rs) = (if r.cls = c then r.length else 0) + classLength c rs := by
      by_cases hc : r.cls = c <;> simp [classLength, hc]
    have total (l : List Run) : (classLengths l).toList.sum = classLength .sound l + (classLength .drift l +
        (classLength .unseen l + (classLength .surface l + (classLength .dimension l + (classLength .stopMark l +
          (classLength .weldZone l + 0)))))) := rfl
    rw [List.map_cons, List.sum_cons, ← ih, total, total]
    simp only [own]
    cases r.cls <;> simp <;> omega

/-- The slices that begin in a stretch are those whose index is counted there. -/
theorem slicesBetween_eq {pitch : Nat} (start stop : Nat) (h : 1 ≤ pitch) : slicesBetween pitch start stop =
    ((List.range stop).filter fun j => start ≤ j * pitch ∧ j * pitch < stop).length := by
  have least (y j : Nat) : (y + pitch - 1) / pitch ≤ j ↔ y ≤ j * pitch := by
    rw [← Nat.lt_succ_iff, Nat.div_lt_iff_lt_mul h, Nat.succ_mul]
    omega
  have interval : (Finset.range stop).filter (fun j => start ≤ j * pitch ∧ j * pitch < stop) =
      Finset.Ico ((start + pitch - 1) / pitch) ((stop + pitch - 1) / pitch) := by
    ext j
    have below : j ≤ j * pitch := Nat.le_mul_of_pos_right j h
    rw [Finset.mem_filter, Finset.mem_range, Finset.mem_Ico, least, 
      ← Nat.not_le (b := j) (a := (stop + pitch - 1) / pitch), least]
    omega
  rw [slicesBetween, ← Nat.card_Ico, ← interval]
  exact rfl

end Sys2Proof.Machine
end

section
/-! Proofs: how a mark splits a run (R130), and that the parts cover what the run covered. -/

namespace Sys2Proof.Machine

theorem Run.raisedBy_iff (r : Run) (kind : MarkKind) (a b front : Nat) :
    r.raisedBy kind (a, b) front = true ↔ r.Under kind a b front := by
  simp [Run.raisedBy, and_assoc]

/-- A later part [start, stop) of a split run, of the class and cause of `x`; the last part of an open run stays open. -/
def Run.laterPart (r x : Run) (pitch start stop : Nat) (last : Bool) : Run :=
  { x with
    start := start, split := true, sliceCount := (stop - start) / pitch,
    body := if r.isOpen && last then .running 0 0 else .closed stop 0 false }

/-- The run with a mark's class and cause. -/
def Run.marked (r : Run) (kind : MarkKind) : Run := { r with cls := kind.cls, cause := some (.mark kind) }

/-- The first part of a split run: it ends at a point, and keeps the area and the slices that the later parts leave. -/
def Run.firstPart (x : Run) (stop later : Nat) : Run :=
  { x with body := x.body.closedAt stop, sliceCount := x.sliceCount - later }

theorem Run.stopAt_laterPart {r : Run} (x : Run) (pitch start : Nat) {stop front : Nat} {last : Bool}
    (h : r.isOpen = true → last = true → stop = front) : (r.laterPart x pitch start stop last).stopAt front = stop := by
  by_cases hopen : r.isOpen = true ∧ last = true
  · simp [Run.laterPart, Run.stopAt, Run.stop?, hopen, h hopen.1 hopen.2]
  · simp [Run.laterPart, Run.stopAt, Run.stop?, hopen]

@[simp] theorem Run.laterPart_start (r x : Run) (pitch start stop : Nat) (last : Bool) :
    (r.laterPart x pitch start stop last).start = start := rfl
@[simp] theorem Run.laterPart_cls (r x : Run) (pitch start stop : Nat) (last : Bool) :
    (r.laterPart x pitch start stop last).cls = x.cls := rfl
@[simp] theorem Run.firstPart_start (x : Run) (stop later : Nat) : (x.firstPart stop later).start = x.start := rfl
@[simp] theorem Run.firstPart_cls (x : Run) (stop later : Nat) : (x.firstPart stop later).cls = x.cls := rfl
@[simp] theorem Run.marked_start (r : Run) (kind : MarkKind) : (r.marked kind).start = r.start := rfl
@[simp] theorem Run.marked_cls (r : Run) (kind : MarkKind) : (r.marked kind).cls = kind.cls := rfl
@[simp] theorem Run.marked_stopAt (r : Run) (kind : MarkKind) (front : Nat) :
    (r.marked kind).stopAt front = r.stopAt front := rfl

@[simp] theorem Run.stopAt_firstPart (x : Run) (stop later front : Nat) : (x.firstPart stop later).stopAt front = stop :=
  Run.stopAt_closedAt rfl front

/-! ### The parts of a run -/

/-- A stretch that meets a region has at most three parts. -/
theorem partsOf_eq {start stop a b : Nat} (hab : a < b) (hstart : start < b) (hstop : a < stop) (h : start < stop) :
    partsOf start stop (a, b) = (if start < a then [{ start := start, stop := a, inside := false }] else []) ++
      ({ start := max start a, stop := min stop b, inside := true } :: 
        if b < stop then [{ start := b, stop := stop, inside := false }] else []) := by
  have first : start < min stop a ↔ start < a := by omega
  have middle : max start a < min stop b := by omega
  have last : max start b < stop ↔ b < stop := by omega
  have ends : min stop a = a := by omega
  have begins : max start b = b := by omega
  simp only [partsOf, List.filter_cons, decide_eq_true_eq, middle, if_true, List.filter_nil, ends, begins]
  split <;> simp

section
variable {r : Run} {kind : MarkKind} {a b front : Nat} (pitch : Nat)

theorem Run.splitBy_of_not_under (h : ¬r.Under kind a b front) : r.splitBy kind (a, b) front pitch = [r] := by
  rw [Run.splitBy, if_neg (by rw [Run.raisedBy_iff]; exact h)]

variable (hab : a < b) (hlt : r.start < r.stopAt front) (h : r.Under kind a b front)
include hab hlt h

theorem Run.splitBy_of_under : r.splitBy kind (a, b) front pitch = r.splitInto kind pitch
    ((if r.start < a then [{ start := r.start, stop := a, inside := false }] else []) ++
      ({ start := max r.start a, stop := min (r.stopAt front) b, inside := true } :: 
        if b < r.stopAt front then [{ start := b, stop := r.stopAt front, inside := false }] else [])) := by
  rw [Run.splitBy, if_pos ((Run.raisedBy_iff ..).mpr h), partsOf_eq hab h.1 h.2.1 hlt]

/-- The region lies inside the run. -/
theorem Run.splitBy_within (hstart : r.start < a) (hstop : b < r.stopAt front) : r.splitBy kind (a, b) front pitch =
    [r.firstPart a ((b - a) / pitch + (r.stopAt front - b) / pitch), r.laterPart (r.marked kind) pitch a b false,
      r.laterPart r pitch b (r.stopAt front) true] := by
  have begins : max r.start a = a := by omega
  have ends : min (r.stopAt front) b = b := by omega
  rw [Run.splitBy_of_under pitch hab hlt h, if_pos hstart, if_pos hstop, begins, ends]
  simp [Run.splitInto, Run.laterParts, Run.asPart, Run.laterPart, Run.firstPart, Run.marked]

/-- The region holds the end of the run, not its start. -/
theorem Run.splitBy_end (hstart : r.start < a) (hstop : r.stopAt front ≤ b) : r.splitBy kind (a, b) front pitch =
    [r.firstPart a ((r.stopAt front - a) / pitch), r.laterPart (r.marked kind) pitch a (r.stopAt front) true] := by
  have begins : max r.start a = a := by omega
  have ends : min (r.stopAt front) b = r.stopAt front := by omega
  rw [Run.splitBy_of_under pitch hab hlt h, if_pos hstart, if_neg (Nat.not_lt.mpr hstop), begins, ends]
  simp [Run.splitInto, Run.laterParts, Run.asPart, Run.laterPart, Run.firstPart, Run.marked]

/-- The region holds the start of the run, not its end. -/
theorem Run.splitBy_start (hstart : a ≤ r.start) (hstop : b < r.stopAt front) : r.splitBy kind (a, b) front pitch =
    [(r.marked kind).firstPart b ((r.stopAt front - b) / pitch), r.laterPart r pitch b (r.stopAt front) true] := by
  have begins : max r.start a = r.start := by omega
  have ends : min (r.stopAt front) b = b := by omega
  rw [Run.splitBy_of_under pitch hab hlt h, if_neg (Nat.not_lt.mpr hstart), if_pos hstop, begins, ends]
  simp [Run.splitInto, Run.laterParts, Run.asPart, Run.laterPart, Run.firstPart, Run.marked]

/-- The region holds the whole run. -/
theorem Run.splitBy_whole (hstart : a ≤ r.start) (hstop : r.stopAt front ≤ b) : r.splitBy kind (a, b) front pitch =
    [r.marked kind] := by
  have begins : max r.start a = r.start := by omega
  have ends : min (r.stopAt front) b = r.stopAt front := by omega
  have body : (if r.isOpen = true then r.body else r.body.closedAt (r.stopAt front)) = r.body := by
    split
    · rfl
    · next hopen => exact Run.closedAt_stopAt (by simpa using hopen) front
  rw [Run.splitBy_of_under pitch hab hlt h, if_neg (Nat.not_lt.mpr hstart), if_neg (Nat.not_lt.mpr hstop), begins, ends]
  simp [Run.splitInto, Run.laterParts, Run.asPart, Run.marked, body]

end

/-! ### The cover and the classes of the parts -/

/-- What a mark makes of the class of a point (R130). -/
def raisedClass (kind : MarkKind) (a b y : Nat) (c : ConditionClass) : ConditionClass :=
  if a ≤ y ∧ y < b ∧ c.severity < kind.cls.severity then kind.cls else c

theorem classAt_cons (r : Run) (rs : List Run) (front y : Nat) :
    classAt (r :: rs) front y = if r.start ≤ y ∧ y < r.stopAt front then some r.cls else classAt rs front y := by
  by_cases h : r.start ≤ y ∧ y < r.stopAt front <;> simp [classAt, h]

theorem classAt_append (xs ys : List Run) (front y : Nat) :
    classAt (xs ++ ys) front y = (classAt xs front y).or (classAt ys front y) := by
  rw [classAt, List.find?_append, Option.map_or]
  rfl

section
variable {r : Run} (kind : MarkKind) {a b front : Nat} (pitch : Nat) (hab : a < b) (hlt : r.start < r.stopAt front)
  (hopen : r.isOpen → r.stopAt front = front)
include hab hlt hopen

/-- The parts of a run cover its stretch. -/
theorem Run.splitBy_tiles (rest : List Run) (hrest : Tiles rest (r.stopAt front) front) :
    Tiles (r.splitBy kind (a, b) front pitch ++ rest) r.start front := by
  have last (x : Run) (start : Nat) : (r.laterPart x pitch start (r.stopAt front) true).stopAt front = r.stopAt front :=
    Run.stopAt_laterPart x pitch start fun ho _ => hopen ho
  have middle (x : Run) : (r.laterPart x pitch a b false).stopAt front = b := Run.stopAt_laterPart x pitch a (by simp)
  by_cases h : r.Under kind a b front
  case neg => rw [Run.splitBy_of_not_under pitch h]; exact (tiles_cons ..).mpr ⟨rfl, hlt, hrest⟩
  case pos =>
    obtain hstart | hstart := Nat.lt_or_ge r.start a <;> obtain hstop | hstop := Nat.lt_or_ge b (r.stopAt front)
    · rw [Run.splitBy_within pitch hab hlt h hstart hstop]; simp [tiles_cons, *]
    · rw [Run.splitBy_end pitch hab hlt h hstart hstop]; simp [tiles_cons, h.2.1, *]
    · rw [Run.splitBy_start pitch hab hlt h hstart hstop]; simp [tiles_cons, h.1, *]
    · rw [Run.splitBy_whole pitch hab hlt h hstart hstop]; simp [tiles_cons, hlt, hrest]

/-- Each point of a run's stretch has the worse of the run's class and the mark's where it lies in the region (R130). -/
theorem Run.splitBy_classAt (y : Nat) :
    classAt (r.splitBy kind (a, b) front pitch) front y = (classAt [r] front y).map (raisedClass kind a b y) := by
  have last (x : Run) (start : Nat) : (r.laterPart x pitch start (r.stopAt front) true).stopAt front = r.stopAt front :=
    Run.stopAt_laterPart x pitch start fun ho _ => hopen ho
  have middle (x : Run) : (r.laterPart x pitch a b false).stopAt front = b := Run.stopAt_laterPart x pitch a (by simp)
  have none_at : classAt [] front y = none := rfl
  by_cases h : r.Under kind a b front
  case neg =>
    rw [Run.splitBy_of_not_under pitch h, classAt_cons]
    split
    · next hy =>
      have same : ¬(a ≤ y ∧ y < b ∧ r.cls.severity < kind.cls.severity) := fun hr => h ⟨by omega, by omega, hr.2.2⟩
      rw [Option.map_some, raisedClass, if_neg same]
    · rfl
  case pos =>
    have sev := h.2.2
    obtain hstart | hstart := Nat.lt_or_ge r.start a <;> obtain hstop | hstop := Nat.lt_or_ge b (r.stopAt front)
    · rw [Run.splitBy_within pitch hab hlt h hstart hstop]
      simp only [classAt_cons, none_at, last, middle, Run.stopAt_firstPart, Run.laterPart_start, Run.laterPart_cls,
        Run.firstPart_start, Run.firstPart_cls, Run.marked_cls]
      split_ifs <;> simp [raisedClass, sev] <;> omega
    · rw [Run.splitBy_end pitch hab hlt h hstart hstop]
      simp only [classAt_cons, none_at, last, Run.stopAt_firstPart, Run.laterPart_start, Run.laterPart_cls,
        Run.firstPart_start, Run.firstPart_cls, Run.marked_cls]
      split_ifs <;> simp [raisedClass, sev] <;> omega
    · rw [Run.splitBy_start pitch hab hlt h hstart hstop]
      simp only [classAt_cons, none_at, last, Run.stopAt_firstPart, Run.laterPart_start, Run.laterPart_cls,
        Run.firstPart_start, Run.firstPart_cls, Run.marked_start, Run.marked_cls]
      split_ifs <;> simp [raisedClass, sev] <;> omega
    · rw [Run.splitBy_whole pitch hab hlt h hstart hstop]
      simp only [classAt_cons, none_at, Run.marked_stopAt, Run.marked_start, Run.marked_cls]
      split_ifs <;> simp [raisedClass, sev] <;> omega

end

/-- The parts of all runs cover what the runs cover, each point with the worse of its class and the mark's in the region. -/
theorem Tiles.splitBy (kind : MarkKind) {a b front : Nat} (pitch : Nat) (hab : a < b) : ∀ {runs : List Run} {start : Nat},
    Tiles runs start front →
      Tiles (runs.flatMap fun r => r.splitBy kind (a, b) front pitch) start front ∧
        ∀ y, classAt (runs.flatMap fun r => r.splitBy kind (a, b) front pitch) front y =
          (classAt runs front y).map (raisedClass kind a b y) := by
  intro runs
  induction runs with
  | nil => exact fun h => ⟨h, fun _ => rfl⟩
  | cons r rs ih =>
    intro start h
    obtain ⟨rfl, hlt, hrest⟩ := (tiles_cons ..).mp h
    obtain ⟨cover, classes⟩ := ih hrest
    have hopen : r.isOpen = true → r.stopAt front = front := fun ho => Run.stopAt_of_open ho front
    rw [List.flatMap_cons]
    refine ⟨r.splitBy_tiles kind pitch hab hlt hopen _ cover, fun y => ?_⟩
    rw [classAt_append, r.splitBy_classAt kind pitch hab hlt hopen, classes, ← Option.map_or, ← classAt_append,
      List.singleton_append]

end Sys2Proof.Machine
end

section
/-! Proofs: what a mark behind the front does to the map of its strand (R130, R131). -/

namespace Sys2Proof.Machine

section
variable {s : State} (i : Fin 4)

/-! ### Advice raises no notice -/

theorem State.issueAdvice_noticeDrop (kind : AdviceKind) (cls : ConditionClass) (start stop : Nat) :
    (s.issueAdvice i kind cls start stop).linePort.noticeDrop = s.linePort.noticeDrop := by
  unfold State.issueAdvice
  dsimp only
  split <;> simp

theorem State.adviseRun_noticeDrop (r : Run) : (s.adviseRun i r).linePort.noticeDrop = s.linePort.noticeDrop := by
  unfold State.adviseRun
  split
  · exact State.issueAdvice_noticeDrop ..
  · rfl

theorem foldl_adviseRun_noticeDrop (l : List Run) :
    (l.foldl (fun t r => t.adviseRun i r) s).linePort.noticeDrop = s.linePort.noticeDrop := by
  induction l generalizing s with
  | nil => rfl
  | cons r l ih => rw [List.foldl_cons, ih, State.adviseRun_noticeDrop]

theorem BesideAdvice.foldl_adviseRun {α : Type} {proj : Strand → α} (h : BesideAdvice proj) (l : List Run) :
    proj ((l.foldl (fun t r => t.adviseRun i r) s).strand i) = proj (s.strand i) := by
  induction l generalizing s with
  | nil => rfl
  | cons r l ih => rw [List.foldl_cons, ih, h.adviseRun]

/-! ### A mark behind the front, by the runs that it would leave -/

/-- The runs that a mark leaves, where the list has room for the parts (R130). -/
def Strand.markedRuns (st : Strand) (m : Mark) : List Run :=
  st.runs.flatMap fun r => r.splitBy m.kind (st.markRegion m) st.front st.params.pitch

/-- The runs that take a mark whole (R131). -/
def Strand.raisedRuns (st : Strand) (m : Mark) : List Run :=
  st.runs.map fun r => if r.raisedBy m.kind (st.markRegion m) st.front then r.raiseWhole m.kind else r

/-- The counter MARK_BEHIND after a mark. -/
def Strand.markBehindAfter (st : Strand) (m : Mark) : Nat :=
  if m.start < st.retired then inc st.mapCounters.markBehind else st.mapCounters.markBehind

/-- The strand once a mark behind the front is judged: the counter alone. -/
def Strand.countBehind (m : Mark) (st : Strand) : Strand :=
  { st with mapCounters.markBehind := st.markBehindAfter m }

/-- The strand whose runs are split by a mark, before their advice is issued. -/
def Strand.splitByMark (m : Mark) (st : Strand) : Strand :=
  { st with
    runs := st.markedRuns m, settle := st.settleAfterMark m.kind (st.markRegion m),
    mapCounters := { st.mapCounters with
      markBehind := st.markBehindAfter m, marksAppliedBack := inc st.mapCounters.marksAppliedBack,
      runsClosed := satAdd st.mapCounters.runsClosed (st.closedBySplit m.kind (st.markRegion m)).length } }

/-- The strand whose runs take a mark whole. -/
def Strand.raiseByMark (m : Mark) (st : Strand) : Strand :=
  { st with
    runs := st.raisedRuns m, settle := st.settleAfterMark m.kind (st.markRegion m),
    mapCounters := { st.mapCounters with
      markBehind := st.markBehindAfter m, mapMerged := inc st.mapCounters.mapMerged } }

theorem State.modStrand_countBehind (s : State) (m : Mark) :
    (if m.start < (s.strand i).retired then
      s.modStrand i fun st => { st with mapCounters.markBehind := inc st.mapCounters.markBehind } else s) =
      s.modStrand i (Strand.countBehind m) := by
  split
  · next h => exact State.modStrand_congr (by rw [Strand.countBehind, Strand.markBehindAfter, if_pos h])
  · next h =>
    refine s.modStrand_id i |>.symm.trans (State.modStrand_congr ?_)
    rw [Strand.countBehind, Strand.markBehindAfter, if_neg h]

variable {i} {m : Mark}

theorem State.applyBack_eq (s : State) (i : Fin 4) (m : Mark) :
    let region := (s.strand i).markRegion m
    let counted := s.modStrand i (Strand.countBehind m)
    s.applyBack i m = if region.2 ≤ region.1 then counted
      else if 96 < ((s.strand i).markedRuns m).length then counted.raiseRuns i m region
      else counted.splitRuns i m region := by
  intro region counted
  have hcounted : counted = _ := (s.modStrand_countBehind i m).symm
  rw [hcounted]
  rfl

/-- An empty region: the mark is only counted. -/
theorem State.applyBack_of_empty (h : ((s.strand i).markRegion m).2 ≤ ((s.strand i).markRegion m).1) :
    s.applyBack i m = s.modStrand i (Strand.countBehind m) := by
  rw [State.applyBack_eq, if_pos h]

/-- Room for the parts: the runs in the region are split, and advice follows for those that closed by it. -/
theorem State.applyBack_of_room (h : ((s.strand i).markRegion m).1 < ((s.strand i).markRegion m).2)
    (room : ((s.strand i).markedRuns m).length ≤ 96) :
    s.applyBack i m = ((s.strand i).closedBySplit m.kind ((s.strand i).markRegion m)).foldl (fun t r => t.adviseRun i r)
      (s.modStrand i (Strand.splitByMark m)) := by
  rw [State.applyBack_eq, if_neg (Nat.not_le.mpr h), if_neg (Nat.not_lt.mpr room), State.splitRuns]
  dsimp only
  rw [State.strand_modStrand_same, State.modStrand_modStrand]
  rfl

/-- No room: the runs in the region take the kind whole, and a notice names the first of them. -/
theorem State.applyBack_of_full (h : ((s.strand i).markRegion m).1 < ((s.strand i).markRegion m).2)
    (full : 96 < ((s.strand i).markedRuns m).length) {before after : List Run} {r : Run}
    (runs : (s.strand i).runs = before ++ r :: after)
    (spared : ∀ x ∈ before, x.raisedBy m.kind ((s.strand i).markRegion m) (s.strand i).front = false)
    (raised : r.raisedBy m.kind ((s.strand i).markRegion m) (s.strand i).front = true) :
    s.applyBack i m = (s.raise (.mapMerged i r.start m.kind.cls)).modStrand i (Strand.raiseByMark m) := by
  have first : (s.strand i).runs.find? (fun r => r.raisedBy m.kind ((s.strand i).markRegion m) (s.strand i).front) = some r :=
    List.find?_eq_some_iff_append.mpr ⟨raised, before, after, runs, fun x hx => by simp [spared x hx]⟩
  rw [State.applyBack_eq, if_neg (Nat.not_le.mpr h), if_pos full, State.raiseRuns]
  dsimp only
  rw [State.strand_modStrand_same, State.modStrand_modStrand]
  have find : (Strand.countBehind m (s.strand i)).runs.find?
      (fun r => r.raisedBy m.kind ((s.strand i).markRegion m) (Strand.countBehind m (s.strand i)).front) = some r := first
  rw [find]
  exact State.raise_modStrand s i (Strand.raiseByMark m) _

/-- Where the parts do not fit into a list that holds the runs, the mark raises a run. -/
theorem Strand.exists_raised {st : Strand} (full : 96 < (st.markedRuns m).length) (fits : st.runs.length ≤ 96) :
    ∃ before r after, st.runs = before ++ r :: after ∧
      (∀ x ∈ before, x.raisedBy m.kind (st.markRegion m) st.front = false) ∧
      r.raisedBy m.kind (st.markRegion m) st.front = true := by
  cases hfind : st.runs.find? fun r => r.raisedBy m.kind (st.markRegion m) st.front with
  | some r =>
    obtain ⟨raised, before, after, runs, spared⟩ := List.find?_eq_some_iff_append.mp hfind
    exact ⟨before, r, after, runs, by simpa using spared, raised⟩
  | none =>
    have single : st.markedRuns m = st.runs.flatMap fun r => [r] :=
      List.flatMap_congr fun r hr => by simp [Run.splitBy, List.find?_eq_none.mp hfind r hr]
    rw [single, List.flatMap_singleton'] at full
    omega

end

end Sys2Proof.Machine
end

section
/-! Proofs: a cut takes its length, and a mark behind the front raises the runs that it meets (O37). -/

namespace Sys2Proof.Machine

/-- What a run becomes under a mark, by where the region begins and ends in it. -/
theorem Run.splitBy_cases {r : Run} {kind : MarkKind} {a b front : Nat} (pitch : Nat) (hab : a < b)
    (hlt : r.start < r.stopAt front) (h : r.Under kind a b front) : r.splitBy kind (a, b) front pitch =
      if r.start < a then
        if b < r.stopAt front then
          [r.firstPart a ((b - a) / pitch + (r.stopAt front - b) / pitch), r.laterPart (r.marked kind) pitch a b false,
            r.laterPart r pitch b (r.stopAt front) true]
        else
          [r.firstPart a ((r.stopAt front - a) / pitch), r.laterPart (r.marked kind) pitch a (r.stopAt front) true]
      else if b < r.stopAt front then
        [(r.marked kind).firstPart b ((r.stopAt front - b) / pitch), r.laterPart r pitch b (r.stopAt front) true]
      else [r.marked kind] := by
  split
  · next hstart =>
    split
    · next hstop => exact Run.splitBy_within pitch hab hlt h hstart hstop
    · next hstop => exact Run.splitBy_end pitch hab hlt h hstart (Nat.not_lt.mp hstop)
  · next hstart =>
    split
    · next hstop => exact Run.splitBy_start pitch hab hlt h (Nat.not_lt.mp hstart) hstop
    · next hstop => exact Run.splitBy_whole pitch hab hlt h (Nat.not_lt.mp hstart) (Nat.not_lt.mp hstop)

theorem Strand.settleAfterMark_of_raised {st : Strand} {m : Mark}
    (h : ∃ r ∈ st.runs, r.isOpen = true ∧ r.raisedBy m.kind (st.markRegion m) st.front = true) :
    st.settleAfterMark m.kind (st.markRegion m) = 0 := by
  rw [Strand.settleAfterMark, if_pos (by simpa using h)]

theorem Strand.settleAfterMark_of_spared {st : Strand} {m : Mark}
    (h : ∀ r ∈ st.runs, r.isOpen = true → ¬r.raisedBy m.kind (st.markRegion m) st.front = true) :
    st.settleAfterMark m.kind (st.markRegion m) = st.settle := by
  rw [Strand.settleAfterMark, if_neg (by simpa using h)]

/-- The closed parts of a run are advised as closed runs. -/
theorem foldl_adviseRun_eq (i : Fin 4) (l : List Run) (s : State) : l.foldl (fun t r => t.adviseRun i r) s =
    l.foldl (fun v x => if 3 ≤ x.cls.severity then v.issueAdvice i .run x.cls x.start (x.stopAt x.start) else v) s := by
  congr 1
  funext v x
  simp only [State.adviseRun, ConditionClass.advised, decide_eq_true_eq]

section
variable {s : State} {i : Fin 4} {m : Mark}

/-- The strand that a mark leaves, where its runs are split: but for what advice changes, as it was before the advice. -/
theorem BesideAdvice.applyBack_of_room {α : Type} {proj : Strand → α} (h : BesideAdvice proj)
    (hab : ((s.strand i).markRegion m).1 < ((s.strand i).markRegion m).2) (room : ((s.strand i).markedRuns m).length ≤ 96) :
    proj ((s.applyBack i m).strand i) = proj (Strand.splitByMark m (s.strand i)) := by
  rw [State.applyBack_of_room hab room, h.foldl_adviseRun, State.strand_modStrand_same]

theorem State.applyBack_sameWorld (s : State) (i : Fin 4) (m : Mark) : SameWorld s (s.applyBack i m) := by
  simp [SameWorld, SameHandler, SameHandling, SameLine, s.applyBack_lineGrows i m]

/-- With room for the parts a mark raises no notice. -/
theorem State.applyBack_noNotice (hab : ((s.strand i).markRegion m).1 < ((s.strand i).markRegion m).2)
    (room : ((s.strand i).markedRuns m).length ≤ 96) : NoNotice s (s.applyBack i m) := by
  rw [State.applyBack_of_room hab room]
  have handler := (foldl_adviseRun_frame (s := s.modStrand i (Strand.splitByMark m)) i
    ((s.strand i).closedBySplit m.kind ((s.strand i).markRegion m))).2.2.2.2.2.2.2.2.2.2.1
  exact ⟨by rw [handler]; rfl, by rw [handler]; rfl, by rw [foldl_adviseRun_noticeDrop]; rfl⟩

/-- A region that is not empty, in a full list: the strand whose runs take the mark whole. -/
theorem State.applyBack_full_raised (hab : ((s.strand i).markRegion m).1 < ((s.strand i).markRegion m).2)
    (full : 96 < ((s.strand i).markedRuns m).length) : (s.applyBack i m).strand i = Strand.raiseByMark m (s.strand i) := by
  rw [State.applyBack_eq, if_neg (Nat.not_le.mpr hab), if_pos full]
  unfold State.raiseRuns
  dsimp only
  split
  · rw [State.raise_strand, State.strand_modStrand_same, State.strand_modStrand_same]; rfl
  · rw [State.strand_modStrand_same, State.strand_modStrand_same]; rfl

/-- A full list: but for the runs, the settle counter and two counters the strand is as it was. -/
theorem State.applyBack_full_strand (full : 96 < ((s.strand i).markedRuns m).length) :
    (s.applyBack i m).strand i = { s.strand i with
      runs := ((s.applyBack i m).strand i).runs, settle := ((s.applyBack i m).strand i).settle,
      mapCounters := { (s.strand i).mapCounters with
        markBehind := (s.strand i).markBehindAfter m,
        mapMerged := ((s.applyBack i m).strand i).mapCounters.mapMerged } } := by
  obtain hempty | hab := Nat.lt_or_ge ((s.strand i).markRegion m).1 ((s.strand i).markRegion m).2
  · rw [State.applyBack_full_raised hempty full]; rfl
  · rw [State.applyBack_of_empty hab, State.strand_modStrand_same]; rfl

theorem besideAdvice_settle : BesideAdvice Strand.settle := fun _ _ _ => rfl
theorem besideAdvice_mapCounters : BesideAdvice Strand.mapCounters := fun _ _ _ => rfl

theorem State.applyBack_markBehind (s : State) (i : Fin 4) (m : Mark) :
    ((s.applyBack i m).strand i).mapCounters.markBehind = (s.strand i).markBehindAfter m := by
  obtain full | room := Nat.lt_or_ge 96 ((s.strand i).markedRuns m).length
  · rw [State.applyBack_full_strand full]
  · obtain hab | hempty := Nat.lt_or_ge ((s.strand i).markRegion m).1 ((s.strand i).markRegion m).2
    · rw [besideAdvice_mapCounters.applyBack_of_room hab room]; rfl
    · rw [State.applyBack_of_empty hempty, State.strand_modStrand_same]; rfl

theorem State.applyBack_settle (hab : ((s.strand i).markRegion m).1 < ((s.strand i).markRegion m).2) :
    ((s.applyBack i m).strand i).settle = (s.strand i).settleAfterMark m.kind ((s.strand i).markRegion m) := by
  obtain full | room := Nat.lt_or_ge 96 ((s.strand i).markedRuns m).length
  · rw [State.applyBack_full_raised hab full]; rfl
  · rw [besideAdvice_settle.applyBack_of_room hab room]; rfl

end

/-- Settles O37: a cut by the runs in order, a mark by the parts of each run. -/
theorem cutTakesItsLength : Obligations.CutTakesItsLength := by
  refine ⟨?_, ?_, fun pitch start stop h => slicesBetween_eq start stop h, ?_, ?_, fun s i m => ?_⟩
  · intro x front pitch start runs htiles hx hle split
    obtain ⟨sum, cover⟩ := htiles.takeRuns pitch hle (Nat.le_of_lt hx)
    exact ⟨(sum_classLengths _).trans sum, cover⟩
  · exact fun x front pitch r rs => ⟨rfl, takeRuns_of_whole, fun hacross hstart => takeRuns_of_beyond hstart hacross⟩
  · intro x front pitch r rs hstart hacross kept
    rw [takeRuns_of_across hstart hacross, Run.remainder, RunBody.fresh_eq r front]
    rfl
  · exact fun r kind a b front pitch hab hlt => ⟨Run.splitBy_of_not_under pitch, Run.splitBy_cases pitch hab hlt⟩
  · intro st pitch a b parts t
    have region : st.markRegion m = (a, b) := rfl
    have hparts : parts = st.markedRuns m := rfl
    have under (r : Run) : r.raisedBy m.kind (st.markRegion m) st.front = true ↔ r.Under m.kind a b st.front :=
      Run.raisedBy_iff ..
    have hbehind : (t.strand i).mapCounters.markBehind = st.markBehindAfter m := s.applyBack_markBehind i m
    refine ⟨s.applyBack_sameWorld i m, by simp [t], by simp [t], by simp [t], by simp [t],
      fun j hj => s.applyBack_other m hj, hbehind, ⟨fun hempty => ?_, fun hab room => ?_, fun full => ?_⟩,
      fun hempty => ?_, fun hab => ⟨?_, ?_, fun room => ?_, fun full fits => ?_⟩⟩
    · rw [hbehind]; exact State.applyBack_of_empty hempty
    · rw [hbehind, State.applyBack_settle hab, ← foldl_adviseRun_eq]
      exact (State.applyBack_of_room hab room).trans
        (congrArg (fun u => List.foldl (fun t r => t.adviseRun i r) u (st.closedBySplit m.kind (a, b)))
          (State.modStrand_congr rfl))
    · rw [hbehind]; exact State.applyBack_full_strand full
    · have whole : t = _ := State.applyBack_of_empty hempty
      rw [whole, State.strand_modStrand_same]
      exact ⟨rfl, rfl, ⟨rfl, rfl, rfl⟩, rfl⟩
    · rintro ⟨r, hr, hopen, hunder⟩
      exact (State.applyBack_settle hab).trans
        (Strand.settleAfterMark_of_raised ⟨r, hr, hopen, (under r).mpr hunder⟩)
    · intro spared
      exact (State.applyBack_settle hab).trans
        (Strand.settleAfterMark_of_spared fun r hr hopen hraised => spared r hr hopen ((under r).mp hraised))
    · have counters : (t.strand i).mapCounters = _ := besideAdvice_mapCounters.applyBack_of_room hab room
      refine ⟨besideAdvice_runs.applyBack_of_room hab room, State.applyBack_noNotice hab room, by rw [counters]; rfl,
        by rw [counters]; rfl, fun htiles => ?_⟩
      exact htiles.splitBy m.kind pitch hab
    · have raisedStrand : t.strand i = Strand.raiseByMark m st := State.applyBack_full_raised hab full
      obtain ⟨before, r, after, runs, spared, raised⟩ := Strand.exists_raised full fits
      have whole : t = _ := State.applyBack_of_full hab full runs spared raised
      refine ⟨(congrArg Strand.runs raisedStrand).trans ?_, by rw [raisedStrand]; rfl, ?_, ?_⟩
      · exact List.map_congr_left fun r _ => if_congr (under r) rfl rfl
      · rw [whole]
        exact congrArg Handler.noticeSeq (s.raise_handler _)
      · intro before r after runs spared raised
        have whole : t = _ := State.applyBack_of_full hab full runs
          (fun x hx => Bool.eq_false_iff.mpr fun h => spared x hx ((under x).mp h)) ((under r).mpr raised)
        have line : t.linePort = (s.raise (.mapMerged i r.start m.kind.cls)).linePort := by rw [whole]; rfl
        refine ⟨line, fun room => ?_⟩
        obtain ⟨-, entered, -⟩ := noticeRaised s (.mapMerged i r.start m.kind.cls)
        rw [← (entered room).2.1, whole]
        rfl

end Sys2Proof.Machine
end

section
/-! Proofs: the runs of a tail (R142): they cover it, and each has the class and the cause of its points. -/

namespace Sys2Proof.Machine

/-! ### The stretches between points -/

theorem stretches_starts : ∀ (l : List Nat) (start : Nat), ∀ p ∈ stretches start l, start ≤ p.1 := by
  intro l
  induction l with
  | nil => simp [stretches]
  | cons q qs ih =>
    intro start p hp
    rw [stretches] at hp
    split at hp
    · next h =>
      obtain rfl | hp := List.mem_cons.mp hp
      · exact Nat.le_refl _
      · exact Nat.le_trans (Nat.le_of_lt h) (ih q p hp)
    · exact ih start p hp

/-- No point of a sorted list lies inside a stretch. -/
theorem stretches_between : ∀ {l : List Nat} (start : Nat), l.Pairwise (· ≤ ·) → ∀ p ∈ stretches start l, ∀ t ∈ l,
    t ≤ p.1 ∨ p.2 ≤ t := by
  intro l
  induction l with
  | nil => simp
  | cons q qs ih =>
    intro start sorted p hp t ht
    obtain ⟨least, sorted⟩ := List.pairwise_cons.mp sorted
    rw [stretches] at hp
    split at hp
    · next h =>
      obtain rfl | hp := List.mem_cons.mp hp
      · obtain rfl | ht := List.mem_cons.mp ht
        · exact .inr (Nat.le_refl _)
        · exact .inr (least t ht)
      · obtain rfl | ht := List.mem_cons.mp ht
        · exact .inl (stretches_starts qs t p hp)
        · exact ih q sorted p hp t ht
    · next h =>
      obtain rfl | ht := List.mem_cons.mp ht
      · exact .inl (Nat.le_trans (Nat.not_lt.mp h) (stretches_starts qs start p hp))
      · exact ih start sorted p hp t ht

theorem stretches_mem : ∀ (l : List Nat) (start : Nat), ∀ p ∈ stretches start l, p.1 < p.2 ∧ p.2 ∈ l := by
  intro l
  induction l with
  | nil => simp [stretches]
  | cons q qs ih =>
    intro start p hp
    rw [stretches] at hp
    split at hp
    · next h =>
      obtain rfl | hp := List.mem_cons.mp hp
      · exact ⟨h, List.mem_cons_self⟩
      · exact (ih q p hp).imp_right (List.mem_cons_of_mem q)
    · exact (ih start p hp).imp_right (List.mem_cons_of_mem q)

/-- Closed runs over the stretches up to a last point cover everything up to it. -/
theorem stretches_tiles {run : Nat × Nat → Run} {x : Nat} (hstart : ∀ p, (run p).start = p.1)
    (hstop : ∀ p, (run p).stopAt x = p.2) : ∀ (l : List Nat) (start : Nat), (∀ p ∈ l, p ≤ x) → start ≤ x →
      Tiles ((stretches start (l ++ [x])).map run) start x := by
  intro l
  induction l with
  | nil =>
    intro start _ hx
    rw [List.nil_append, stretches]
    split
    · next h => simp [stretches, tiles_cons, hstart, hstop, h]
    · next h => simpa [stretches] using Nat.le_antisymm hx (Nat.not_lt.mp h)
  | cons q qs ih =>
    intro start hle hx
    have rest : ∀ p ∈ qs, p ≤ x := fun p hp => hle p (List.mem_cons_of_mem _ hp)
    rw [List.cons_append, stretches]
    split
    · next h =>
      rw [List.map_cons, tiles_cons, hstart, hstop]
      exact ⟨rfl, h, ih q rest (hle q List.mem_cons_self)⟩
    · exact ih start rest hx

/-! ### The tail -/

section
variable (st : Strand) (x : Nat)

theorem Strand.tailPoints_mem (t : Nat) :
    t ∈ st.tailPoints x ↔ (∃ m ∈ st.marks, t = m.start ∨ t = m.stop) ∧ st.front < t ∧ t < x := by
  simp [Strand.tailPoints, List.mem_insertionSort]

theorem Strand.tailPoints_pairwise : (st.tailPoints x ++ [x]).Pairwise (· ≤ ·) := by
  refine List.pairwise_append.mpr ⟨List.pairwise_insertionSort _ _, List.pairwise_singleton _ _, fun a ha b hb => ?_⟩
  rw [List.mem_singleton.mp hb]
  exact Nat.le_of_lt ((st.tailPoints_mem x a).mp ha).2.2

variable {x}

theorem Strand.tailRuns_tiles (h : st.front ≤ x) : Tiles (st.tailRuns x) st.front x :=
  stretches_tiles (fun _ => rfl) (fun _ => rfl) _ _ (fun p hp => Nat.le_of_lt ((st.tailPoints_mem x p).mp hp).2.2) h

variable {st}

/-- A tail run covers a stretch of [front, X) with no end of a mark inside. -/
theorem Strand.tailRuns_mem {r : Run} (h : r ∈ st.tailRuns x) : ∃ start stop, r = st.tailRun (start, stop) ∧
    st.front ≤ start ∧ start < stop ∧ stop ≤ x ∧ ∀ m ∈ st.marks, (m.start ≤ start ∨ stop ≤ m.start) ∧
      (m.stop ≤ start ∨ stop ≤ m.stop) := by
  obtain ⟨⟨start, stop⟩, hp, rfl⟩ := List.mem_map.mp h
  obtain ⟨hlt, hstop⟩ := stretches_mem _ _ _ hp
  have hstart := stretches_starts _ _ _ hp
  have hle : stop ≤ x := by
    obtain hstop | hstop := List.mem_append.mp hstop
    · exact Nat.le_of_lt ((st.tailPoints_mem x stop).mp hstop).2.2
    · exact Nat.le_of_eq (List.mem_singleton.mp hstop)
  have ends (t : Nat) (ht : ∃ m ∈ st.marks, t = m.start ∨ t = m.stop) : t ≤ start ∨ stop ≤ t := by
    by_cases inside : st.front < t ∧ t < x
    · exact stretches_between _ (st.tailPoints_pairwise x) _ hp t
        (List.mem_append_left _ ((st.tailPoints_mem x t).mpr ⟨ht, inside⟩))
    · dsimp only at hstart
      omega
  exact ⟨start, stop, rfl, hstart, hlt, hle, fun m hm => ⟨ends m.start ⟨m, hm, .inl rfl⟩, ends m.stop ⟨m, hm, .inr rfl⟩⟩⟩

end

/-! ### The class and the cause of a stretch that was never evaluated -/

theorem unseenUnder_weld {marks : List Mark} {start stop : Nat} (h : MarkMeets marks .weldZone start stop) :
    unseenUnder marks start stop = (.weldZone, some (.mark .weldZone)) := by
  rw [unseenUnder_eq, (worstMark_cases marks start stop).1 h]
  exact rfl

theorem unseenUnder_stop {marks : List Mark} {start stop : Nat} (hw : ¬MarkMeets marks .weldZone start stop)
    (h : MarkMeets marks .stopMark start stop) : unseenUnder marks start stop = (.stopMark, some (.mark .stopMark)) := by
  rw [unseenUnder_eq, (worstMark_cases marks start stop).2.1 hw h]
  exact rfl

theorem unseenUnder_none {marks : List Mark} {start stop : Nat} (hw : ¬MarkMeets marks .weldZone start stop)
    (h : ¬MarkMeets marks .stopMark start stop) : unseenUnder marks start stop = (.unseen, none) := by
  rw [unseenUnder_eq, (worstMark_cases marks start stop).2.2 hw h]

/-- The cause follows from the class. -/
theorem unseenUnder_cause {marks : List Mark} {a b c d : Nat}
    (h : (unseenUnder marks a b).1 = (unseenUnder marks c d).1) : unseenUnder marks a b = unseenUnder marks c d := by
  have pairs (a b : Nat) : unseenUnder marks a b = (.weldZone, some (.mark .weldZone)) ∨
      unseenUnder marks a b = (.stopMark, some (.mark .stopMark)) ∨ unseenUnder marks a b = (.unseen, none) := by
    unfold unseenUnder
    split_ifs <;> simp
  obtain e | e | e := pairs a b <;> obtain e' | e' | e' := pairs c d <;> rw [e, e'] at h ⊢ <;> cases h

/-- A longer stretch is met by no fewer marks. -/
theorem unseenUnder_mono {marks : List Mark} {a b c d : Nat} (hca : c ≤ a) (hbd : b ≤ d) :
    (unseenUnder marks a b).1.severity ≤ (unseenUnder marks c d).1.severity := by
  have wider (kind : MarkKind) : MarkMeets marks kind a b → MarkMeets marks kind c d :=
    fun ⟨m, hm, hk, h1, h2⟩ => ⟨m, hm, hk, by omega, by omega⟩
  by_cases hw : MarkMeets marks .weldZone c d
  · rw [unseenUnder_weld hw]
    cases (unseenUnder marks a b).1 <;> simp [ConditionClass.severity]
  · have hw' := mt (wider .weldZone) hw
    by_cases hs : MarkMeets marks .stopMark c d
    · rw [unseenUnder_stop hw hs]
      by_cases hs' : MarkMeets marks .stopMark a b
      · rw [unseenUnder_stop hw' hs']
      · rw [unseenUnder_none hw' hs']; decide
    · rw [unseenUnder_none hw hs, unseenUnder_none hw' (mt (wider .stopMark) hs)]

/-- Some point of a stretch is met by the worst mark that meets the stretch. -/
theorem exists_unseenUnder {marks : List Mark} {a b : Nat} (hab : a < b) (hmarks : ∀ m ∈ marks, m.start < m.stop) :
    ∃ y, a ≤ y ∧ y < b ∧ unseenUnder marks y (y + 1) = unseenUnder marks a b := by
  have narrower (kind : MarkKind) (y : Nat) (ha : a ≤ y) (hb : y < b) :
      MarkMeets marks kind y (y + 1) → MarkMeets marks kind a b :=
    fun ⟨m, hm, hk, h1, h2⟩ => ⟨m, hm, hk, by omega, by omega⟩
  have point {kind : MarkKind} (h : MarkMeets marks kind a b) : ∃ y, a ≤ y ∧ y < b ∧ MarkMeets marks kind y (y + 1) := by
    obtain ⟨m, hm, hk, h1, h2⟩ := h
    have := hmarks m hm
    exact ⟨max a m.start, by omega, by omega, m, hm, hk, by omega, by omega⟩
  by_cases hw : MarkMeets marks .weldZone a b
  · obtain ⟨y, ha, hb, hy⟩ := point hw
    exact ⟨y, ha, hb, by rw [unseenUnder_weld hw, unseenUnder_weld hy]⟩
  by_cases hs : MarkMeets marks .stopMark a b
  · obtain ⟨y, ha, hb, hy⟩ := point hs
    exact ⟨y, ha, hb, by rw [unseenUnder_stop hw hs, unseenUnder_stop (mt (narrower _ y ha hb) hw) hy]⟩
  · exact ⟨a, Nat.le_refl a, hab, by
      rw [unseenUnder_none hw hs, unseenUnder_none (mt (narrower _ a (Nat.le_refl a) hab) hw)
        (mt (narrower _ a (Nat.le_refl a) hab) hs)]⟩

/-! ### The classes of the tail -/

section
variable {st : Strand} {x : Nat}

theorem Strand.tailRun_eq (st : Strand) (start stop : Nat) :
    ((st.tailRun (start, stop)).cls, (st.tailRun (start, stop)).cause) = unseenUnder st.marks start stop := by
  rw [unseenUnder_eq, Strand.tailRun]
  cases worstMark st.marks start stop <;> rfl

/-- Every point of a tail run has the run's class and cause. -/
theorem Strand.tailRuns_eq {r : Run} (h : r ∈ st.tailRuns x) {y : Nat} (hstart : r.start ≤ y) (hstop : y < r.stopAt x) :
    (r.cls, r.cause) = unseenUnder st.marks y (y + 1) := by
  obtain ⟨start, stop, rfl, -, -, -, ends⟩ := Strand.tailRuns_mem h
  have hy : start ≤ y ∧ y < stop := ⟨hstart, hstop⟩
  have meets (m : Mark) (hm : m ∈ st.marks) : m.start < stop ∧ start < m.stop ↔ m.start < y + 1 ∧ y < m.stop := by
    obtain ⟨h1, h2⟩ := ends m hm
    omega
  rw [Strand.tailRun_eq]
  have same (kind : MarkKind) : MarkMeets st.marks kind start stop ↔ MarkMeets st.marks kind y (y + 1) :=
    ⟨fun ⟨m, hm, hk, h⟩ => ⟨m, hm, hk, (meets m hm).mp h⟩, fun ⟨m, hm, hk, h⟩ => ⟨m, hm, hk, (meets m hm).mpr h⟩⟩
  by_cases hw : MarkMeets st.marks .weldZone y (y + 1)
  · rw [unseenUnder_weld hw, unseenUnder_weld ((same _).mpr hw)]
  by_cases hs : MarkMeets st.marks .stopMark y (y + 1)
  · rw [unseenUnder_stop hw hs, unseenUnder_stop (mt (same _).mp hw) ((same _).mpr hs)]
  · rw [unseenUnder_none hw hs, unseenUnder_none (mt (same _).mp hw) (mt (same _).mp hs)]

/-- A point inside a cover lies in one of its runs. -/
theorem Tiles.exists_run {front y : Nat} : ∀ {runs : List Run} {start : Nat}, Tiles runs start front → start ≤ y → y < front →
    ∃ r ∈ runs, r.start ≤ y ∧ y < r.stopAt front := by
  intro runs
  induction runs with
  | nil =>
    intro start h hstart hlt
    rw [tiles_nil] at h
    omega
  | cons r rs ih =>
    intro start h hstart hlt
    obtain ⟨rfl, -, hrest⟩ := (tiles_cons ..).mp h
    obtain inside | beyond := Nat.lt_or_ge y (r.stopAt front)
    · exact ⟨r, List.mem_cons_self, hstart, inside⟩
    · obtain ⟨q, hq, hin⟩ := ih hrest beyond hlt
      exact ⟨q, List.mem_cons_of_mem r hq, hin⟩

/-- The worst class of the tail runs, with its cause, is that of the whole tail. -/
theorem Strand.worst_tailRuns (h : st.front < x) (hmarks : ∀ m ∈ st.marks, m.start < m.stop) :
    (worstClass (st.tailRuns x), causeOfClass (worstClass (st.tailRuns x)) (st.tailRuns x)) =
      unseenUnder st.marks st.front x := by
  obtain ⟨y, hstart, hstop, worst⟩ := exists_unseenUnder h hmarks
  obtain ⟨q, hq, hqy⟩ := (st.tailRuns_tiles (Nat.le_of_lt h)).exists_run hstart hstop
  have hne : st.tailRuns x ≠ [] := List.ne_nil_of_mem hq
  obtain ⟨before, r, after, hruns, hcls, hcause, -⟩ := causeOfClass_first (exists_cls_eq_worstClass hne)
  have hr : r ∈ st.tailRuns x := by rw [hruns]; exact List.mem_append_right _ List.mem_cons_self
  obtain ⟨start, stop, hrun, hfront, -, hx, -⟩ := Strand.tailRuns_mem hr
  have pair : (r.cls, r.cause) = unseenUnder st.marks start stop := by rw [hrun]; exact st.tailRun_eq start stop
  have least : (unseenUnder st.marks st.front x).1.severity ≤ r.cls.severity := by
    have hqs := severity_le_worstClass _ q hq
    rw [← hcls] at hqs
    rw [← worst, ← Strand.tailRuns_eq hq hqy.1 hqy.2]
    exact hqs
  have most : r.cls.severity ≤ (unseenUnder st.marks st.front x).1.severity := by
    have cls : r.cls = (unseenUnder st.marks start stop).1 := congrArg Prod.fst pair
    rw [cls]
    exact unseenUnder_mono hfront hx
  have same : (unseenUnder st.marks start stop).1 = (unseenUnder st.marks st.front x).1 := by
    rw [← pair]
    exact ConditionClass.severity_injective (Nat.le_antisymm most least)
  rw [← hcause, ← hcls, pair]
  exact unseenUnder_cause same

end

end Sys2Proof.Machine
end

section
/-! Proofs: how a tail is added to the map of a CLOSED strand (R142). -/

namespace Sys2Proof.Machine

section
variable {s : State} {i : Fin 4} {x : Nat}

/-- Room for the tail runs: they join the map. -/
theorem State.addTail_of_room (room : (s.strand i).runs.length + ((s.strand i).tailRuns x).length ≤ 96) :
    s.addTail i x = s.modStrand i fun st => ({ st with runs := st.runs ++ (s.strand i).tailRuns x } : Strand).moveFront x :=
  if_pos room

theorem State.mergeTail_eq (s : State) (i : Fin 4) (x : Nat) (r : Run) (runs : List Run) : s.mergeTail i x r runs =
    (s.raise (.mapMerged i r.start r.cls)).modStrand i fun st =>
      ({ st with runs := runs ++ [r], mapCounters.mapMerged := inc st.mapCounters.mapMerged } : Strand).moveFront x :=
  State.raise_modStrand ..

/-- Room for one run: it covers the tail. -/
theorem State.addTail_of_one (full : 96 < (s.strand i).runs.length + ((s.strand i).tailRuns x).length)
    (room : (s.strand i).runs.length < 96) :
    s.addTail i x = s.mergeTail i x ((s.strand i).wholeTail x ((s.strand i).tailRuns x)) (s.strand i).runs :=
  (if_neg (Nat.not_le.mpr full)).trans (if_pos room)

/-- A full list: its last run is extended over the tail. -/
theorem State.addTail_of_full (full : 96 < (s.strand i).runs.length + ((s.strand i).tailRuns x).length)
    (h : 96 ≤ (s.strand i).runs.length) {before : List Run} {r : Run} (runs : (s.strand i).runs = before ++ [r]) :
    s.addTail i x = s.mergeTail i x (r.extendTail x ((s.strand i).tailRuns x)) before := by
  have last : (s.strand i).runs.getLast? = some r := by rw [runs, List.getLast?_concat]
  have start : (s.strand i).runs.dropLast = before := by rw [runs, List.dropLast_concat]
  unfold State.addTail
  dsimp only
  rw [if_neg (show ¬_ ≤ runCapacity from Nat.not_le.mpr full), if_neg (show ¬_ < runCapacity from Nat.not_lt.mpr h), last, start]

/-- A list of runs that is not empty, taken apart at its end. -/
theorem exists_last_run {l : List Run} (h : 96 ≤ l.length) : ∃ before r, l = before ++ [r] := by
  have hne : l ≠ [] := by rintro rfl; simp at h
  exact ⟨l.dropLast, l.getLast hne, (List.dropLast_append_getLast hne).symm⟩

/-- A tail moves the front, whichever runs cover it. -/
theorem State.addTail_strand (s : State) (i : Fin 4) (x : Nat) : ∃ runs merged, (s.addTail i x).strand i =
    ({ s.strand i with runs := runs, mapCounters.mapMerged := merged } : Strand).moveFront x := by
  have merges (r : Run) (runs : List Run) : (s.mergeTail i x r runs).strand i =
      ({ s.strand i with
        runs := runs ++ [r], mapCounters.mapMerged := inc (s.strand i).mapCounters.mapMerged } : Strand).moveFront x := by
    rw [State.mergeTail_eq, State.strand_modStrand_same, State.raise_strand]
  obtain full | room := Nat.lt_or_ge 96 ((s.strand i).runs.length + ((s.strand i).tailRuns x).length)
  · obtain one | h := Nat.lt_or_ge (s.strand i).runs.length 96
    · rw [State.addTail_of_one full one, merges]; exact ⟨_, _, rfl⟩
    · obtain ⟨before, r, runs⟩ := exists_last_run h
      rw [State.addTail_of_full full h runs, merges]; exact ⟨_, _, rfl⟩
  · rw [State.addTail_of_room room, State.strand_modStrand_same]
    exact ⟨_, (s.strand i).mapCounters.mapMerged, rfl⟩

theorem State.mergeTail_runs (s : State) (i : Fin 4) (x : Nat) (r : Run) (runs : List Run) :
    ((s.mergeTail i x r runs).strand i).runs = runs ++ [r] := by
  rw [State.mergeTail_eq, State.strand_modStrand_same]; rfl

theorem State.addTail_runs_of_room (room : (s.strand i).runs.length + ((s.strand i).tailRuns x).length ≤ 96) :
    ((s.addTail i x).strand i).runs = (s.strand i).runs ++ (s.strand i).tailRuns x := by
  rw [State.addTail_of_room room, State.strand_modStrand_same]; rfl

/-- With the tail the map covers up to X. -/
theorem State.addTail_tiles (h : (s.strand i).front < x) (hclosed : ∀ r ∈ (s.strand i).runs, r.isOpen = false)
    (hcover : Tiles (s.strand i).runs (s.strand i).retired (s.strand i).front) :
    Tiles ((s.addTail i x).strand i).runs (s.strand i).retired x := by
  generalize hruns : ((s.addTail i x).strand i).runs = covered
  obtain full | room := Nat.lt_or_ge 96 ((s.strand i).runs.length + ((s.strand i).tailRuns x).length)
  · obtain one | hfull := Nat.lt_or_ge (s.strand i).runs.length 96
    · rw [← hruns, State.addTail_of_one full one, State.mergeTail_runs]
      refine (tiles_append _ _ _ hclosed).mpr ⟨_, hcover, (tiles_cons ..).mpr ⟨rfl, h, rfl⟩⟩
    · obtain ⟨before, r, runs⟩ := exists_last_run hfull
      rw [runs] at hcover hclosed
      have before_closed : ∀ q ∈ before, q.isOpen = false := fun q hq => hclosed q (List.mem_append_left _ hq)
      obtain ⟨mid, hbefore, hlast⟩ := (tiles_append [r] _ _ before_closed).mp hcover
      obtain ⟨hstart, hlt, hstop⟩ := (tiles_cons ..).mp hlast
      rw [tiles_nil] at hstop
      have ends : (r.extendTail x ((s.strand i).tailRuns x)).stopAt x = x := Run.stopAt_closedAt rfl x
      rw [← hruns, State.addTail_of_full full hfull runs, State.mergeTail_runs]
      refine (tiles_append _ _ _ before_closed).mpr ⟨mid, hbefore, (tiles_cons ..).mpr ⟨hstart, ?_, ?_⟩⟩
      · rw [ends]; omega
      · rw [ends]; rfl
  · rw [← hruns, State.addTail_runs_of_room room]
    exact (tiles_append _ _ _ hclosed).mpr ⟨_, hcover, (s.strand i).tailRuns_tiles (Nat.le_of_lt h)⟩

/-- A tail that is merged counts MAP_MERGED and raises its notice. -/
theorem State.mergeTail_notice (s : State) (i : Fin 4) (x : Nat) (r : Run) (runs : List Run) :
    ((s.mergeTail i x r runs).strand i).mapCounters.mapMerged = inc (s.strand i).mapCounters.mapMerged ∧
      (s.mergeTail i x r runs).handler.noticeSeq = s.handler.noticeSeq + 1 ∧
      (s.mergeTail i x r runs).linePort = (s.raise (.mapMerged i r.start r.cls)).linePort := by
  rw [State.mergeTail_eq, State.strand_modStrand_same, State.raise_strand]
  exact ⟨rfl, congrArg Handler.noticeSeq (s.raise_handler _), rfl⟩

theorem State.addTail_sameWorld (s : State) (i : Fin 4) (x : Nat) : SameWorld s (s.addTail i x) := by
  simp [SameWorld, SameHandler, SameHandling, SameLine, s.addTail_lineGrows i x]

/-- A tail that finds room raises no notice and offers no record. -/
theorem State.addTail_quiet (room : (s.strand i).runs.length + ((s.strand i).tailRuns x).length ≤ 96) :
    NoNotice s (s.addTail i x) ∧ (s.addTail i x).linePort = s.linePort := by
  rw [State.addTail_of_room room]
  exact ⟨⟨rfl, rfl, rfl⟩, rfl⟩

/-- A tail that does not fit is covered by one run of its worst class (R142). -/
theorem State.addTail_merged (h : (s.strand i).front < x) (hmarks : ∀ m ∈ (s.strand i).marks, m.start < m.stop)
    (full : 96 < (s.strand i).runs.length + ((s.strand i).tailRuns x).length) :
    let w := unseenUnder (s.strand i).marks (s.strand i).front x
    let whole : Run :=
      { start := (s.strand i).front, body := .closed x 0 false, cls := w.1, cause := w.2, sliceCount := 0, merged := true,
        split := false, tail := true }
    ((s.strand i).runs.length < 96 → s.addTail i x = s.mergeTail i x whole (s.strand i).runs) ∧
      ∀ before r stop area saturated, (s.strand i).runs = before ++ [r] → 96 ≤ (s.strand i).runs.length →
        r.body = .closed stop area saturated →
        s.addTail i x = s.mergeTail i x
          { r with
            body := .closed x area saturated, cls := if r.cls.severity < w.1.severity then w.1 else r.cls,
            cause := if r.cls.severity < w.1.severity then w.2 else r.cause, merged := true, tail := true } before := by
  intro w whole
  have worst := Strand.worst_tailRuns h hmarks
  have cls : worstClass ((s.strand i).tailRuns x) = w.1 := congrArg Prod.fst worst
  have cause : causeOfClass w.1 ((s.strand i).tailRuns x) = w.2 := by rw [← cls]; exact congrArg Prod.snd worst
  refine ⟨fun room => ?_, fun before r stop area saturated runs hfull body => ?_⟩
  · rw [State.addTail_of_one full room, Strand.wholeTail, cls, cause]
  · rw [State.addTail_of_full full hfull runs, Run.extendTail, cls, cause, body]
    exact rfl

end

end Sys2Proof.Machine
end

section
/-! Proofs: the close check and the pieces that it closes (R140 to R143, R147). -/

namespace Sys2Proof.Machine

/-! ### What a tail leaves of its strand -/

/-- A projection of a strand that a tail leaves as it is. -/
def BesideTail {α : Type} (proj : Strand → α) : Prop :=
  ∀ st front runs marks merged n, proj { st with
    front := front, runs := runs, marks := marks, mapCounters.mapMerged := merged,
    pieceCounters.tailsAdded := n } = proj st

/-- The state over whose map a cut closes: with a tail where the cut lies beyond the front (R142). -/
def State.tailed (s : State) (i : Fin 4) (cut : Cut) : State :=
  if (s.strand i).front < cut.position then s.addTail i cut.position else s

theorem BesideTail.addTail {α : Type} {proj : Strand → α} (h : BesideTail proj) (s : State) (i : Fin 4) (x : Nat) :
    proj ((s.addTail i x).strand i) = proj (s.strand i) := by
  obtain ⟨runs, merged, strand⟩ := s.addTail_strand i x
  rw [strand]
  exact h (s.strand i) ..

theorem BesideTail.tailed {α : Type} {proj : Strand → α} (h : BesideTail proj) (s : State) (i : Fin 4) (cut : Cut) :
    proj ((s.tailed i cut).strand i) = proj (s.strand i) := by
  unfold State.tailed
  split
  · exact h.addTail ..
  · rfl

theorem State.tailed_sameWorld (s : State) (i : Fin 4) (cut : Cut) : SameWorld s (s.tailed i cut) := by
  unfold State.tailed
  split
  · exact s.addTail_sameWorld i cut.position
  · exact SameWorld.refl s

/-! ### The piece and its offer (R143, R147) -/

section
variable {s : State} {i : Fin 4}

/-- A piece alone in its list, with an entry free, enters the Line Port. -/
theorem State.offerPiece_of_room {p : Piece} (hp : (s.strand i).closed = [p]) (room : s.linePort.own.length < 32) :
    s.offerPiece i = (s.modStrand i fun st => { st with closed := [] }).enqueueRecord (.piece p) := by
  simp only [State.offerPiece, hp, lineHasRoom_iff.mpr room, if_true]

/-- Behind older pieces, or at a full Line Port, it waits. -/
theorem State.offerPiece_of_none {old : List Piece} {p : Piece} (hp : (s.strand i).closed = old ++ [p])
    (h : old ≠ [] ∨ 32 ≤ s.linePort.own.length) : s.offerPiece i = s := by
  unfold State.offerPiece
  split
  · next q hq =>
    have full : ¬s.lineHasRoom = true := fun room => by
      obtain hne | full := h
      · rw [hp] at hq
        cases old with
        | nil => exact hne rfl
        | cons => simp at hq
      · exact absurd (lineHasRoom_iff.mp room) (Nat.not_lt.mpr full)
    rw [if_neg full]
  · rfl
  · rfl

/-- Whether a piece of the strand enters the Line Port as it is closed. -/
abbrev PieceEnters (s : State) (i : Fin 4) : Prop := (s.strand i).closed = [] ∧ s.linePort.own.length < 32

theorem not_pieceEnters_iff : ¬PieceEnters s i ↔ (s.strand i).closed ≠ [] ∨ 32 ≤ s.linePort.own.length := by
  rw [PieceEnters, not_and_or, Nat.not_lt]

end

/-! ### A cut that closes -/

section
variable (s : State) (i : Fin 4) (cut : Cut)

/-- The strand once a cut has closed its piece: the piece is in the list but where it has entered the Line Port. -/
def State.cutStrand (s : State) (i : Fin 4) (cut : Cut) : Strand :=
  let u := s.tailed i cut
  let st := (u.strand i).closePiece i cut (decide ((s.strand i).front < cut.position))
  { st with closed := if PieceEnters u i then [] else st.closed, cuts := st.cuts.drop 1 }

/-- The state once a cut has closed its piece, before the check for IDLE. -/
def State.pieceClosed (s : State) (i : Fin 4) (cut : Cut) : State :=
  (((s.tailed i cut).modStrand i fun st => st.closePiece i cut (decide ((s.strand i).front < cut.position))).offerPiece
    i).modStrand i fun st => { st with cuts := st.cuts.drop 1 }

theorem State.closeCut_eq : s.closeCut i cut = (s.pieceClosed i cut).idleCheck i := by
  have tail : (if (s.strand i).needsTail cut = true then s.addTail i cut.position else s) = s.tailed i cut :=
    if_congr decide_eq_true_iff rfl rfl
  rw [State.closeCut, State.pieceClosed, ← tail]
  rfl

/-- The piece that a cut closes (R143). -/
def State.cutPiece : Piece :=
  ((s.tailed i cut).strand i).pieceOf i cut (decide ((s.strand i).front < cut.position))
    (takeRuns cut.position ((s.tailed i cut).strand i).front ((s.tailed i cut).strand i).params.pitch
      ((s.tailed i cut).strand i).runs).1

theorem State.pieceClosed_of_room (h : PieceEnters (s.tailed i cut) i) : s.pieceClosed i cut =
    ((s.tailed i cut).enqueueRecord (.piece (s.cutPiece i cut))).setStrand i (s.cutStrand i cut) := by
  let close : Strand → Strand := fun st => st.closePiece i cut (decide ((s.strand i).front < cut.position))
  have alone : (((s.tailed i cut).modStrand i close).strand i).closed = [s.cutPiece i cut] := by
    rw [State.strand_modStrand_same]
    exact congrArg (· ++ [s.cutPiece i cut]) h.1
  have offered := State.offerPiece_of_room alone h.2
  have enters : s.cutStrand i cut =
      { close ((s.tailed i cut).strand i) with closed := [], cuts := ((s.tailed i cut).strand i).cuts.drop 1 } := by
    rw [State.cutStrand, if_pos h]
    rfl
  rw [State.pieceClosed, offered, State.modStrand_modStrand, State.enqueueRecord_setStrand, State.modStrand,
    State.setStrand_setStrand, State.strand_setStrand_same, enters]
  rfl

theorem State.pieceClosed_of_none (h : ¬PieceEnters (s.tailed i cut) i) :
    s.pieceClosed i cut = (s.tailed i cut).setStrand i (s.cutStrand i cut) := by
  let close : Strand → Strand := fun st => st.closePiece i cut (decide ((s.strand i).front < cut.position))
  have behind : (((s.tailed i cut).modStrand i close).strand i).closed =
      ((s.tailed i cut).strand i).closed ++ [s.cutPiece i cut] := by
    rw [State.strand_modStrand_same]; rfl
  have kept := State.offerPiece_of_none behind (not_pieceEnters_iff.mp h)
  have waits : s.cutStrand i cut =
      { close ((s.tailed i cut).strand i) with cuts := ((s.tailed i cut).strand i).cuts.drop 1 } := by
    rw [State.cutStrand, if_neg h]
    rfl
  rw [State.pieceClosed, kept, State.modStrand_modStrand, waits]
  rfl

@[simp] theorem State.pieceClosed_strand : (s.pieceClosed i cut).strand i = s.cutStrand i cut := by
  by_cases h : PieceEnters (s.tailed i cut) i
  · rw [State.pieceClosed_of_room s i cut h, State.strand_setStrand_same]
  · rw [State.pieceClosed_of_none s i cut h, State.strand_setStrand_same]

theorem State.pieceClosed_handler : (s.pieceClosed i cut).handler = (s.tailed i cut).handler := by
  simp [State.pieceClosed]

/-- What the Line Port holds once the piece is closed. -/
theorem State.pieceClosed_line :
    (PieceEnters (s.tailed i cut) i → Entered (s.tailed i cut) (.piece (s.cutPiece i cut)) (s.pieceClosed i cut).linePort) ∧
      (¬PieceEnters (s.tailed i cut) i → (s.pieceClosed i cut).linePort = (s.tailed i cut).linePort) := by
  refine ⟨fun h => ?_, fun h => by rw [State.pieceClosed_of_none s i cut h]; rfl⟩
  rw [State.pieceClosed_of_room s i cut h]
  exact State.enqueueRecord_entered _ _

/-! ### The check for IDLE -/

/-- A CLOSED strand whose map and cut list are empty. -/
abbrev Strand.Done (st : Strand) : Prop := st.state = .closed ∧ st.runs = [] ∧ st.cuts = []

variable {s i}

theorem State.idleCheck_of_not_done (h : ¬(s.strand i).Done) : s.idleCheck i = s := if_neg h

theorem State.idleCheck_of_done (h : (s.strand i).Done) : s.idleCheck i =
    (s.modStrand i fun st => { st.clearRuntime with state := .idle }).raise (.strandState i .closed .idle) := by
  have closed : ((s.modStrand i Strand.clearRuntime).strand i).state = .closed := by
    rw [State.strand_modStrand_same]; exact h.1
  have changed := State.changeStrand_of_ne (s := s.modStrand i Strand.clearRuntime) (i := i) (new := .idle)
    (by rw [closed]; decide)
  rw [closed, State.modStrand_modStrand] at changed
  exact (if_pos h).trans changed

theorem State.kickLine_linePort_congr {s t : State} (hl : t.linePort = s.linePort)
    (hr : t.handler.restart = s.handler.restart) : t.kickLine.linePort = s.kickLine.linePort := by
  by_cases idle : s.linePort.tx = none ∧ s.handler.restart ≠ .due
  · rw [State.kickLine_of_idle idle.1 idle.2, State.kickLine_of_idle (hl ▸ idle.1) (hr ▸ idle.2), hl]
  · have busy : s.linePort.tx ≠ none ∨ s.handler.restart = .due := by rwa [← not_and_or.trans (or_congr_right not_not)]
    rw [State.kickLine_of_sending busy, State.kickLine_of_sending (hl ▸ hr ▸ busy), hl]

/-- What a notice makes of the Line Port depends on the port and the Request Handler alone. -/
theorem State.raise_linePort_congr {s t : State} (n : Notice) (hl : t.linePort = s.linePort) (hh : t.handler = s.handler) :
    (t.raise n).linePort = (s.raise n).linePort := by
  by_cases room : s.linePort.own.length ≤ 28
  · rw [State.raise_of_room n room, State.raise_of_room n (hl ▸ room)]
    exact State.kickLine_linePort_congr (by simp [State.takeNoticeNumber, hl, hh]) (by simp [State.takeNoticeNumber, hh])
  · have full : 29 ≤ s.linePort.own.length := by omega
    rw [State.raise_of_full n full, State.raise_of_full n (hl ▸ full)]
    simp only [State.takeNoticeNumber, hl]

/-! ### A record that is in the Line Port stays there -/

/-- The record waits in the own-origin queue or is in transmission. -/
abbrev LinePort.Carries (p : LinePort) (r : Record) : Prop := r ∈ p.own ∨ p.tx = some (.own r)

theorem LineGrows.carries {p q : LinePort} (h : LineGrows p q) {r : Record} (hr : p.Carries r) : q.Carries r := by
  obtain ⟨new, ⟨htx, hown, -⟩ | ⟨idle, x, htx, hown, -⟩ | ⟨idle, f, -, hown, -⟩⟩ := h
  · rw [LinePort.Carries, htx, hown]
    exact hr.imp_left (List.mem_append_left new)
  · have queued : r ∈ p.own := hr.resolve_right (by simp [idle])
    have : r ∈ x :: q.own := hown ▸ List.mem_append_left new queued
    obtain rfl | later := List.mem_cons.mp this
    · exact .inr htx
    · exact .inl later
  · have queued : r ∈ p.own := hr.resolve_right (by simp [idle])
    exact .inl (hown ▸ List.mem_append_left new queued)

theorem Entered.carries {s : State} {r : Record} {q : LinePort} (h : Entered s r q) : q.Carries r := by
  obtain ⟨sending, idle⟩ := h
  by_cases busy : s.linePort.tx ≠ none ∨ s.handler.restart = .due
  · rw [sending busy]
    exact .inl (by simp)
  · obtain ⟨htx, hdue⟩ := not_or.mp busy
    obtain ⟨forward, own⟩ := idle (not_not.mp htx) hdue
    by_cases hf : s.linePort.forward = [] ∨ s.linePort.prefer = .own
    · obtain ⟨x, rest, hx⟩ : ∃ x rest, s.linePort.own ++ [r] = x :: rest := by cases s.linePort.own <;> simp
      rw [own hf x rest hx]
      have : r ∈ x :: rest := hx ▸ List.mem_append_right _ List.mem_cons_self
      exact (List.mem_cons.mp this).elim (fun e => .inr (by rw [e])) .inl
    · obtain ⟨hne, hp⟩ := not_or.mp hf
      obtain ⟨f, rest, hf⟩ := List.exists_cons_of_ne_nil hne
      rw [forward f rest hf (by cases hpf : s.linePort.prefer <;> simp_all)]
      exact .inl (by simp)

end

end Sys2Proof.Machine
end

section
/-! Proofs: the close check closes the piece of the oldest cut (O39). -/

namespace Sys2Proof.Machine

/-- A verdict is counted in its own counter (R151). -/
theorem PieceCounters.countVerdict_eq (c : PieceCounters) (v : PieceVerdict) : c.countVerdict v = { c with
    piecesPrime := if v = .prime then inc c.piecesPrime else c.piecesPrime,
    piecesHold := if v = .hold then inc c.piecesHold else c.piecesHold,
    piecesScrap := if v = .scrap then inc c.piecesScrap else c.piecesScrap } := by
  cases v <;> rfl

section
variable (s : State) (i : Fin 4) (cut : Cut)

theorem State.tailed_state : ((s.tailed i cut).strand i).state = (s.strand i).state :=
  BesideTail.tailed (proj := Strand.state) (fun _ _ _ _ _ _ => rfl) s i cut

theorem State.tailed_cuts : ((s.tailed i cut).strand i).cuts = (s.strand i).cuts :=
  BesideTail.tailed (proj := Strand.cuts) (fun _ _ _ _ _ _ => rfl) s i cut

theorem State.tailed_closed : ((s.tailed i cut).strand i).closed = (s.strand i).closed :=
  BesideTail.tailed (proj := Strand.closed) (fun _ _ _ _ _ _ => rfl) s i cut

theorem State.tailed_params : ((s.tailed i cut).strand i).params = (s.strand i).params :=
  BesideTail.tailed (proj := Strand.params) (fun _ _ _ _ _ _ => rfl) s i cut

theorem State.tailed_settle : ((s.tailed i cut).strand i).settle = (s.strand i).settle :=
  BesideTail.tailed (proj := Strand.settle) (fun _ _ _ _ _ _ => rfl) s i cut

theorem State.tailed_pieceCounter : ((s.tailed i cut).strand i).pieceCounter = (s.strand i).pieceCounter :=
  BesideTail.tailed (proj := Strand.pieceCounter) (fun _ _ _ _ _ _ => rfl) s i cut

theorem State.tailed_piecesClosed :
    ((s.tailed i cut).strand i).pieceCounters.piecesClosed = (s.strand i).pieceCounters.piecesClosed :=
  BesideTail.tailed (proj := fun st => st.pieceCounters.piecesClosed) (fun _ _ _ _ _ _ => rfl) s i cut

/-- A piece's fields that its runs do not give are those that the strand held before the tail. -/
theorem State.tailed_pieceOf (tail : Bool) (taken : List Run) :
    ((s.tailed i cut).strand i).pieceOf i cut tail taken = (s.strand i).pieceOf i cut tail taken :=
  BesideTail.tailed (proj := fun st => st.pieceOf i cut tail taken) (fun _ _ _ _ _ _ => rfl) s i cut

/-- The runs that a cut takes, and those that stay, with the tail. -/
def State.cutSplit : List Run × List Run :=
  takeRuns cut.position ((s.tailed i cut).strand i).front (s.strand i).params.pitch ((s.tailed i cut).strand i).runs

theorem State.cutPiece_eq : s.cutPiece i cut =
    (s.strand i).pieceOf i cut (decide ((s.strand i).front < cut.position)) (s.cutSplit i cut).1 := by
  rw [State.cutPiece, State.tailed_pieceOf, State.tailed_params]
  rfl

theorem State.cutStrand_runs : (s.cutStrand i cut).runs = (s.cutSplit i cut).2 := by
  rw [State.cutSplit, ← State.tailed_params]
  rfl

/-- What closes a piece leaves of a strand's state, front and cut list. -/
theorem State.cutStrand_state : (s.cutStrand i cut).state = (s.strand i).state := s.tailed_state i cut

theorem State.cutStrand_cuts : (s.cutStrand i cut).cuts = (s.strand i).cuts.drop 1 :=
  congrArg (List.drop 1) (s.tailed_cuts i cut)

/-- The piece waits in the list but where it enters the Line Port. -/
theorem State.cutStrand_closed : (s.cutStrand i cut).closed =
    if PieceEnters (s.tailed i cut) i then [] else (s.strand i).closed ++ [s.cutPiece i cut] := by
  rw [← State.tailed_closed s i cut]
  rfl

/-- The strand once a cut has closed and the check for IDLE is made. -/
theorem State.closeCut_strand : (s.closeCut i cut).strand i =
    if (s.cutStrand i cut).Done then { (s.cutStrand i cut).clearRuntime with state := .idle } else s.cutStrand i cut := by
  rw [State.closeCut_eq]
  by_cases done : ((s.pieceClosed i cut).strand i).Done
  · rw [State.idleCheck_of_done done, State.raise_strand, State.strand_modStrand_same, State.pieceClosed_strand]
    rw [State.pieceClosed_strand] at done
    rw [if_pos done]
  · rw [State.idleCheck_of_not_done done, State.pieceClosed_strand]
    rw [State.pieceClosed_strand] at done
    rw [if_neg done]

/-- The Line Port once a cut has closed: a strand that is IDLE raises its notice behind the piece. -/
theorem State.closeCut_linePort :
    (¬(s.cutStrand i cut).Done → (s.closeCut i cut).linePort = (s.pieceClosed i cut).linePort) ∧
      ((s.cutStrand i cut).Done → (s.closeCut i cut).linePort = (State.raise
        { s.tailed i cut with linePort := (s.pieceClosed i cut).linePort } (.strandState i .closed .idle)).linePort) := by
  rw [State.closeCut_eq, ← s.pieceClosed_strand i cut]
  refine ⟨fun done => by rw [State.idleCheck_of_not_done done], fun done => ?_⟩
  rw [State.idleCheck_of_done done]
  exact State.raise_linePort_congr _ rfl (s.pieceClosed_handler i cut)

theorem State.closeCut_keeps {α : Type} {proj : Strand → α}
    (h : ∀ st : Strand, proj { st.clearRuntime with state := .idle } = proj st) :
    proj ((s.closeCut i cut).strand i) = proj (s.cutStrand i cut) := by
  rw [State.closeCut_strand]
  split
  · exact h _
  · rfl

theorem State.closeCut_cuts : ((s.closeCut i cut).strand i).cuts = (s.strand i).cuts.drop 1 :=
  (State.closeCut_keeps (proj := Strand.cuts) s i cut fun _ => rfl).trans (s.cutStrand_cuts i cut)

/-- The counters that a closed piece changes (R151). -/
theorem State.cutStrand_pieceCounters : (s.cutStrand i cut).pieceCounters =
    let u := (s.tailed i cut).strand i
    let graded := fun (v : PieceVerdict) (n : Nat) => if (s.cutPiece i cut).verdict = v then inc n else n
    { u.pieceCounters with
      piecesClosed := inc u.pieceCounters.piecesClosed,
      runsRetired := satAdd u.pieceCounters.runsRetired (retiredWhole cut.position u.front u.runs).length,
      piecesPrime := graded .prime u.pieceCounters.piecesPrime,
      piecesHold := graded .hold u.pieceCounters.piecesHold,
      piecesScrap := graded .scrap u.pieceCounters.piecesScrap } :=
  PieceCounters.countVerdict_eq _ _

theorem State.cutStrand_piecesClosed :
    (s.cutStrand i cut).pieceCounters.piecesClosed = inc (s.strand i).pieceCounters.piecesClosed := by
  rw [State.cutStrand_pieceCounters, ← State.tailed_piecesClosed]

theorem State.cutStrand_pieceCounter : (s.cutStrand i cut).pieceCounter = inc (s.strand i).pieceCounter :=
  congrArg inc (s.tailed_pieceCounter i cut)

/-- The settle counter is 0 where the open run left the map (R141). -/
theorem State.cutStrand_settle : (s.cutStrand i cut).settle =
    if (retiredWhole cut.position ((s.tailed i cut).strand i).front ((s.tailed i cut).strand i).runs).any Run.isOpen then 0
    else (s.strand i).settle := by
  rw [← State.tailed_settle s i cut]
  rfl

variable {s i cut} {rest : List Cut}

/-- The oldest cut closes, and the check is made again. -/
theorem State.closeCheck_of_canClose (hcuts : (s.strand i).cuts = cut :: rest) (can : (s.strand i).canClose cut = true) :
    s.closeCheck i = (s.closeCut i cut).closeCheck i := by
  have left : ((s.closeCut i cut).strand i).cuts = rest := by rw [State.closeCut_cuts, hcuts]; rfl
  rw [State.closeCheck, State.closeCheck, left, hcuts, List.length_cons, State.closeCuts]
  simp only [hcuts, can, if_true]

/-- Without a pending cut the check does nothing. -/
theorem State.closeCheck_of_nil (hcuts : (s.strand i).cuts = []) : s.closeCheck i = s := by
  rw [State.closeCheck, hcuts, List.length_nil, State.closeCuts]

theorem State.closeCheck_of_not_canClose (hcuts : (s.strand i).cuts = cut :: rest)
    (cannot : (s.strand i).canClose cut = false) : s.closeCheck i = s := by
  rw [State.closeCheck, hcuts, List.length_cons, State.closeCuts]
  simp only [hcuts, cannot, Bool.false_eq_true, if_false]

theorem Strand.canClose_iff {st : Strand} : st.canClose cut = true ↔
    st.closed.length < 8 ∧ (cut.position ≤ st.front ∨ st.state = .closed) := by
  rw [Strand.canClose, Bool.and_eq_true, decide_eq_true_iff, Bool.or_eq_true, decide_eq_true_iff, decide_eq_true_iff]
  exact Iff.rfl

end

/-! ### The clauses of the tail -/

section
variable {s : State} {i : Fin 4} {x : Nat}

/-- A tail moves the front to X, and the marks that it has passed leave (R142). -/
theorem State.addTail_moves (s : State) (i : Fin 4) (x : Nat) : ((s.addTail i x).strand i).front = x ∧
    ((s.addTail i x).strand i).marks = (s.strand i).marks.filter (fun m => x < m.stop) ∧
      ((s.addTail i x).strand i).pieceCounters.tailsAdded = inc (s.strand i).pieceCounters.tailsAdded := by
  obtain ⟨runs, merged, strand⟩ := s.addTail_strand i x
  rw [strand]
  exact ⟨rfl, rfl, rfl⟩

/-- The tail runs are closed runs without slices, and each point has its class and cause. -/
theorem Strand.tailRuns_form {st : Strand} {r : Run} (h : r ∈ st.tailRuns x) :
    r.tail = true ∧ r.merged = false ∧ r.split = false ∧ r.sliceCount = 0 ∧ (∃ stop, r.body = .closed stop 0 false) ∧
      ∀ y, r.start ≤ y → y < r.stopAt x → (r.cls, r.cause) = unseenUnder st.marks y (y + 1) := by
  refine ⟨?_, ?_, ?_, ?_, ?_, fun y => Strand.tailRuns_eq h⟩ <;> obtain ⟨start, stop, rfl, -⟩ := Strand.tailRuns_mem h
  case refine_5 => exact ⟨stop, rfl⟩
  all_goals rfl

/-- A tail that does not fit counts MAP_MERGED and raises one notice. -/
theorem State.addTail_counts (full : 96 < (s.strand i).runs.length + ((s.strand i).tailRuns x).length) :
    ((s.addTail i x).strand i).mapCounters.mapMerged = inc (s.strand i).mapCounters.mapMerged ∧
      (s.addTail i x).handler.noticeSeq = s.handler.noticeSeq + 1 := by
  by_cases room : (s.strand i).runs.length < 96
  · rw [State.addTail_of_one full room]
    exact ⟨(s.mergeTail_notice ..).1, (s.mergeTail_notice ..).2.1⟩
  · obtain ⟨before, r, runs⟩ := exists_last_run (Nat.not_lt.mp room)
    rw [State.addTail_of_full full (Nat.not_lt.mp room) runs]
    exact ⟨(s.mergeTail_notice ..).1, (s.mergeTail_notice ..).2.1⟩

end

/-- Settles O39: the tail first, then the piece with its offer, then the check for IDLE. -/
theorem closeCheckClosesPiece : Obligations.CloseCheckClosesPiece := by
  refine ⟨fun s i cut rest hcuts => ?_, fun s i cut rest hcuts => ?_, fun s i x => ?_⟩
  · intro st
    refine ⟨fun h => ?_, fun hrest hclosed hle hstate => ?_⟩
    · refine State.closeCheck_of_not_canClose hcuts (Bool.eq_false_iff.mpr fun can => ?_)
      obtain ⟨room, front⟩ := Strand.canClose_iff.mp can
      obtain full | ⟨beyond, open_⟩ := h
      · exact absurd room (Nat.not_lt.mpr full)
      · exact front.elim (fun h => absurd beyond (Nat.not_lt.mpr h)) open_
    · have same : s.tailed i cut = s := if_neg (Nat.not_lt.mpr hle)
      have split : s.cutSplit i cut = takeRuns cut.position st.front st.params.pitch st.runs := by
        rw [State.cutSplit, same]
      have hpiece : s.cutPiece i cut = st.pieceOf i cut false (takeRuns cut.position st.front st.params.pitch st.runs).1 := by
        rw [State.cutPiece_eq, split, decide_eq_false (Nat.not_lt.mpr hle)]
      have cuts : (s.cutStrand i cut).cuts = [] := by rw [State.cutStrand_cuts, hcuts, hrest]; rfl
      have closes : s.closeCheck i = s.pieceClosed i cut := by
        rw [State.closeCheck_of_canClose hcuts (Strand.canClose_iff.mpr ⟨by rw [hclosed]; decide, .inl hle⟩),
          State.closeCut_eq, State.idleCheck_of_not_done, State.closeCheck_of_nil]
        · rw [State.pieceClosed_strand, cuts]
        · rw [State.pieceClosed_strand, Strand.Done, State.cutStrand_state]
          exact fun h => hstate h.1
      have world : SameWorld s (s.closeCheck i) := by
        simp [SameWorld, SameHandler, SameHandling, SameLine, s.closeCheck_lineGrows i]
      have frame : (s.closeCheck i).now = s.now ∧ (s.closeCheck i).heads = s.heads ∧
        (s.closeCheck i).travel = s.travel ∧ (s.closeCheck i).headPort = s.headPort := by simp
      have other : OtherStrands s (s.closeCheck i) i := fun j hj => s.closeCheck_other hj
      have setup := s.closeCheck_setup i i
      have strand : (s.closeCheck i).strand i = s.cutStrand i cut := by rw [closes, State.pieceClosed_strand]
      have kept {α : Type} (proj : Strand → α) : proj ((s.tailed i cut).strand i) = proj st := by rw [same]
      have room (h : s.linePort.own.length < 32) : PieceEnters (s.tailed i cut) i := by rw [same]; exact ⟨hclosed, h⟩
      have full (h : 32 ≤ s.linePort.own.length) : ¬PieceEnters (s.tailed i cut) i := by
        rw [same]; exact not_pieceEnters_iff.mpr (.inr h)
      have latest (h : s.linePort.own.length < 32) :
          (s.closeCheck i).latestRecord = some (.piece (s.cutPiece i cut)) := by
        rw [closes, State.pieceClosed_of_room s i cut (room h)]
        exact State.enqueueRecord_latest ..
      obtain ⟨enters, waits⟩ := s.pieceClosed_line i cut
      rw [← closes, same] at enters waits
      have closed := s.cutStrand_closed i cut
      rw [same] at closed
      generalize s.closeCheck i = t at *
      intro taken t'
      refine ⟨by rw [strand, cuts], by rw [strand]; rfl, by rw [strand, State.cutStrand_pieceCounter],
        by rw [strand, State.cutStrand_runs, split], other, by rw [strand, State.cutStrand_state],
        by rw [strand]; exact kept Strand.front, setup, by rw [strand]; exact kept Strand.sets,
        by rw [strand]; exact kept Strand.eval, by rw [strand]; exact kept Strand.marks,
        by rw [strand]; exact kept Strand.held, frame.2.1, frame.2.2.1, frame.2.2.2, world, frame.1, ?_⟩
      intro p
      have hp : s.cutPiece i cut = p := hpiece
      rw [hp] at enters latest closed
      rw [same] at room full
      have waiting : st.closed ++ [p] = [p] := by rw [hclosed, List.nil_append]
      exact ⟨fun h => ⟨enters (room h), latest h, by rw [strand, closed, if_pos (room h)]⟩,
        fun h => ⟨by rw [strand, closed, if_neg (full h), waiting], waits (full h)⟩⟩
  · intro st room hfront
    have again := State.closeCheck_of_canClose hcuts (Strand.canClose_iff.mpr ⟨room, hfront⟩)
    have world : SameWorld s (s.closeCut i cut) := by
      simp [SameWorld, SameHandler, SameHandling, SameLine, s.closeCut_lineGrows i cut]
    have frame : (s.closeCut i cut).now = s.now ∧ (s.closeCut i cut).heads = s.heads ∧
      (s.closeCut i cut).travel = s.travel ∧ (s.closeCut i cut).headPort = s.headPort := by simp
    have other : OtherStrands s (s.closeCut i cut) i := fun j hj => s.closeCut_other cut hj
    have strand := s.closeCut_strand i cut
    have cuts := s.closeCut_cuts i cut
    have counter := (State.closeCut_keeps (proj := Strand.pieceCounter) s i cut fun _ => rfl).trans
      (s.cutStrand_pieceCounter i cut)
    have counters := State.closeCut_keeps (proj := Strand.pieceCounters) s i cut fun _ => rfl
    have closed := (State.closeCut_keeps (proj := Strand.closed) s i cut fun _ => rfl).trans (s.cutStrand_closed i cut)
    obtain ⟨line, lineIdle⟩ := s.closeCut_linePort i cut
    obtain ⟨enters, waits⟩ := s.pieceClosed_line i cut
    have grows := State.idleCheck_lineGrows (s := s.pieceClosed i cut) i
    rw [← State.closeCut_eq] at grows
    have hdone : (s.cutStrand i cut).Done ↔ st.state = .closed ∧ (s.cutSplit i cut).2 = [] ∧ rest = [] := by
      rw [Strand.Done, s.cutStrand_cuts i cut, s.cutStrand_runs i cut, s.cutStrand_state i cut, hcuts, List.drop_one,
        List.tail_cons]
    have hpiece := s.cutPiece_eq i cut
    have hclosed := s.tailed_closed i cut
    generalize s.closeCut i cut = t at *
    intro u split p t' done
    have hp : s.cutPiece i cut = p := hpiece
    have inPort (h : st.closed = []) (hroom : u.linePort.own.length < 32) : PieceEnters (s.tailed i cut) i := ⟨hclosed.trans h, hroom⟩
    have inList (h : st.closed ≠ [] ∨ 32 ≤ u.linePort.own.length) : ¬PieceEnters (s.tailed i cut) i :=
      not_pieceEnters_iff.mpr (h.imp_left fun hne => hclosed.trans_ne hne)
    refine ⟨again, world, frame.1, frame.2.1, frame.2.2.1, frame.2.2.2, other, by rw [cuts, hcuts]; rfl, counter,
      by rw [counters, State.cutStrand_piecesClosed], ⟨?_, ?_⟩,
      ⟨(s.pieceClosed i cut).linePort, fun h hroom => hp ▸ enters (inPort h hroom), fun h => waits (inList h),
        fun h => line (mt hdone.mp h), fun h => lineIdle (hdone.mpr h)⟩, fun h => ?_, fun h => ?_, fun h hroom => ?_, fun h => ?_⟩
    · by_cases h : done
      · rw [strand, if_pos (hdone.mpr h), if_pos (.inl h)]; rfl
      · rw [strand, if_neg (mt hdone.mp h), State.cutStrand_settle]
        exact if_congr (List.any_eq_true.trans (or_iff_right h).symm) rfl rfl
    · rw [counters, State.cutStrand_pieceCounters, hp]; rfl
    · rw [strand, if_pos (hdone.mpr h)]; exact ⟨rfl, rfl, rfl, rfl, rfl⟩
    · rw [strand, if_neg (mt hdone.mp h)]
      exact ⟨s.cutStrand_state i cut, rfl, rfl, s.cutStrand_runs i cut⟩
    · have entered := enters (inPort h hroom)
      rw [hp] at entered
      exact ⟨closed.trans (if_pos (inPort h hroom)), grows.carries entered.carries⟩
    · rw [← hp]
      exact closed.trans (if_neg (inList h))
  · intro st hfront
    have tiles := State.addTail_tiles hfront
    have world := s.addTail_sameWorld i x
    have frame : (s.addTail i x).now = s.now ∧ (s.addTail i x).heads = s.heads ∧ (s.addTail i x).travel = s.travel ∧
      (s.addTail i x).headPort = s.headPort := by simp
    have other : OtherStrands s (s.addTail i x) i := fun j hj => s.addTail_other x hj
    obtain ⟨front, marks, tails⟩ := s.addTail_moves i x
    have fits (room : st.runs.length + (st.tailRuns x).length ≤ 96) := State.addTail_quiet room
    have fits_runs (room : st.runs.length + (st.tailRuns x).length ≤ 96) := State.addTail_runs_of_room room
    have merged (full : 96 < st.runs.length + (st.tailRuns x).length) (hmarks : ∀ m ∈ st.marks, m.start < m.stop) :=
      State.addTail_merged hfront hmarks full
    have counts (full : 96 < st.runs.length + (st.tailRuns x).length) := State.addTail_counts full
    generalize s.addTail i x = t at *
    refine ⟨world, frame.1, frame.2.1, frame.2.2.1, frame.2.2.2, other, front, marks, tails, tiles, fun room => ?_,
      fun full hmarks => ?_⟩
    · exact ⟨(fits room).1, (fits room).2, st.tailRuns x, fits_runs room, st.tailRuns_tiles (Nat.le_of_lt hfront),
        fun r hr => Strand.tailRuns_form hr⟩
    · obtain ⟨one, extended⟩ := merged full hmarks
      refine ⟨(counts full).1, (counts full).2, fun room => ?_, fun before r stop area saturated runs hfull body => ?_⟩
      · rw [one room]
        exact ⟨(s.mergeTail_notice ..).2.2, State.mergeTail_runs ..⟩
      · rw [extended before r stop area saturated runs hfull body]
        exact ⟨(s.mergeTail_notice ..).2.2, State.mergeTail_runs ..⟩

end Sys2Proof.Machine
end

section
/-! Proofs: how a strand leaves DRAINING, and STRAND_STOP (R54, R55, R97). -/

namespace Sys2Proof.Machine

section
variable {s : State} {i : Fin 4}

/-! ### The end of the run and of DRAINING -/

theorem State.endRun_of_live (h : (s.strand i).state.live = true) : s.endRun i =
    ((s.modStrand i fun a => { a with state := .draining }).raise (.strandState i (s.strand i).state .draining)).drainCheck
      i := by
  have moves : (s.strand i).state ≠ .draining := fun e => by rw [e] at h; cases h
  rw [State.endRun, if_pos h, State.changeStrand_of_ne _ moves]

theorem Strand.drained_iff {st : Strand} :
    st.drained = true ↔ st.state = .draining ∧ st.sets = [] ∧ st.eval = none := by
  rw [Strand.drained, Bool.and_eq_true, Bool.and_eq_true, decide_eq_true_iff, List.isEmpty_iff, Option.isNone_iff_eq_none,
    and_assoc]

theorem State.drainCheck_eq (s : State) (i : Fin 4) : s.drainCheck i =
    if (s.strand i).state = .draining ∧ (s.strand i).sets = [] ∧ (s.strand i).eval = none then s.leaveDraining i else s :=
  if_congr Strand.drained_iff rfl rfl

theorem State.switchAtClose_of_none (h : (s.strand i).pendingSwitch = none) : s.switchAtClose i = s := by
  simp only [State.switchAtClose, h]

/-- A pending switch is taken at the entry to CLOSED, with the switch length that it holds (R97). -/
theorem State.switchAtClose_of_some {p : PendingSwitch} (h : (s.strand i).pendingSwitch = some p) : s.switchAtClose i =
    (s.switchBanks i).raise (.bankTaken i (s.strand i).active.other
      ((s.strand i).bank (s.strand i).active.other).generation p.switchLength none) := by
  have taken : s.switchAtClose i = s.takeSwitch i p none := by simp only [State.switchAtClose, h]
  have notice (st : Strand) (hst : (s.switchBanks i).strand i = st) : s.takeSwitch i p none =
      (s.switchBanks i).raise (.bankTaken i st.active st.activeBank.generation p.switchLength none) := hst ▸ rfl
  rw [taken, notice _ (s.switchBanks_same i), Strand.exchangeBanks_activeBank]
  rfl

/-- Where a switch is pending the banks are exchanged, and none is pending then. -/
theorem State.switchAtClose_strand (s : State) (i : Fin 4) : (s.switchAtClose i).strand i =
    if (s.strand i).pendingSwitch = none then s.strand i else (s.strand i).exchangeBanks := by
  unfold State.switchAtClose
  split
  · next p hp => rw [State.takeSwitch_same, hp, if_neg (by simp)]
  · next hp => rw [hp, if_pos rfl]

/-- The state as it is CLOSED: the open run is closed, a pending switch is taken. -/
def State.closedStrand (s : State) (i : Fin 4) : State := ((s.closeAtEnd i).switchAtClose i).changeStrand i .closed

theorem State.leaveDraining_eq (s : State) (i : Fin 4) :
    s.leaveDraining i = ((s.closedStrand i).closeCheck i).idleCheck i := rfl

/-- What CLOSED finds of a strand that the open run and the switch do not concern. -/
theorem BesideMap.closedStrand {α : Type} {proj : Strand → α} (h : BesideMap proj)
    (hswitch : (s.strand i).pendingSwitch = none ∨ ∀ st : Strand, proj st.exchangeBanks = proj st)
    (hstate : ∀ st x, proj { st with state := x } = proj st) :
    proj ((s.closedStrand i).strand i) = proj (s.strand i) := by
  have pending := BesideMap.closeAtEnd (proj := Strand.pendingSwitch) ⟨fun _ _ _ _ => rfl, fun _ _ _ => rfl⟩ s i
  rw [State.closedStrand, State.changeStrand_same, hstate, ← h.closeAtEnd s i, State.switchAtClose_strand]
  split
  · rfl
  · next waits => exact hswitch.elim (fun none => absurd (pending.trans none) waits) fun exchange => exchange _

theorem State.closedStrand_state (s : State) (i : Fin 4) : ((s.closedStrand i).strand i).state = .closed := by
  rw [State.closedStrand, State.changeStrand_same]

theorem State.closedStrand_cuts (s : State) (i : Fin 4) : ((s.closedStrand i).strand i).cuts = (s.strand i).cuts :=
  BesideMap.closedStrand (proj := Strand.cuts) ⟨fun _ _ _ _ => rfl, fun _ _ _ => rfl⟩ (.inr fun _ => rfl) fun _ _ => rfl

/-- The open run that closes is still a run of the map. -/
theorem State.closeAtEnd_runs (s : State) (i : Fin 4) :
    ((s.closeAtEnd i).strand i).runs.length = (s.strand i).runs.length := by
  cases h : (s.strand i).openRun with
  | none => rw [State.closeAtEnd_of_none h]
  | some r =>
    obtain ⟨before, hruns, hopen⟩ := Strand.openRun_eq_some h
    obtain ⟨acc, folds, hbody⟩ := Run.exists_running hopen
    rw [State.closeAtEnd_of_open h, State.strand_modStrand_same]
    dsimp only
    rw [State.closeOpenRun_runs hruns hbody, hruns, List.length_append, List.length_append]
    rfl

theorem State.closedStrand_runs (s : State) (i : Fin 4) :
    ((s.closedStrand i).strand i).runs = [] ↔ (s.strand i).runs = [] := by
  have same : ((s.closedStrand i).strand i).runs = ((s.closeAtEnd i).strand i).runs := by
    rw [State.closedStrand, State.changeStrand_same, State.switchAtClose_strand]
    split <;> rfl
  rw [same, ← List.length_eq_zero_iff, State.closeAtEnd_runs, List.length_eq_zero_iff]

/-- With runs left and no pending cut the strand stays CLOSED. -/
theorem State.leaveDraining_of_runs (hruns : (s.strand i).runs ≠ []) (hcuts : (s.strand i).cuts = []) :
    s.leaveDraining i = s.closedStrand i := by
  rw [State.leaveDraining_eq, State.closeCheck_of_nil ((s.closedStrand_cuts i).trans hcuts), State.idleCheck_of_not_done]
  exact fun done => hruns ((s.closedStrand_runs i).mp done.2.1)

theorem State.leaveDraining_of_no_cuts (hcuts : (s.strand i).cuts = []) :
    s.leaveDraining i = (s.closedStrand i).idleCheck i := by
  rw [State.leaveDraining_eq, State.closeCheck_of_nil ((s.closedStrand_cuts i).trans hcuts)]

/-- The entry to CLOSED from DRAINING, with its notice. -/
theorem State.closedStrand_of_draining (h : (s.strand i).state = .draining) : s.closedStrand i =
    (((s.closeAtEnd i).switchAtClose i).modStrand i fun a => { a with state := .closed }).raise
      (.strandState i .draining .closed) := by
  have state : (((s.closeAtEnd i).switchAtClose i).strand i).state = .draining := by
    rw [← h, ← BesideMap.closeAtEnd (proj := Strand.state) ⟨fun _ _ _ _ => rfl, fun _ _ _ => rfl⟩ s i,
      State.switchAtClose_strand]
    split <;> rfl
  rw [State.closedStrand, State.changeStrand_of_ne _ (by rw [state]; decide), state]

/-! ### What the close check keeps -/

/-- What every closed cut keeps of a strand, the close check keeps. -/
theorem State.closeCheck_induct {P : Strand → Prop}
    (step : ∀ (t : State) (cut : Cut), P (t.strand i) → P ((t.closeCut i cut).strand i)) (h : P (s.strand i)) :
    P ((s.closeCheck i).strand i) := by
  suffices ∀ n (t : State), P (t.strand i) → P ((t.closeCuts i n).strand i) from this _ s h
  intro n
  induction n with
  | zero => exact fun t ht => ht
  | succ n ih =>
    intro t ht
    unfold State.closeCuts
    split
    · exact ht
    · split
      · exact ih _ (step t _ ht)
      · exact ht

/-- No switch is pending, and the active bank is the given one. -/
abbrev Strand.Settled (id : BankId) (st : Strand) : Prop := st.pendingSwitch = none ∧ st.active = id

theorem Strand.Settled.idleCheck {id : BankId} (h : (s.strand i).Settled id) : ((s.idleCheck i).strand i).Settled id := by
  by_cases done : (s.strand i).Done
  · rw [State.idleCheck_of_done done, State.raise_strand, State.strand_modStrand_same]
    exact ⟨rfl, h.2⟩
  · rw [State.idleCheck_of_not_done done]
    exact h

theorem Strand.Settled.closeCut {id : BankId} (cut : Cut) (h : (s.strand i).Settled id) :
    ((s.closeCut i cut).strand i).Settled id := by
  have pending : (s.cutStrand i cut).pendingSwitch = none :=
    (BesideTail.tailed (proj := Strand.pendingSwitch) (fun _ _ _ _ _ _ => rfl) s i cut).trans h.1
  have active : (s.cutStrand i cut).active = id :=
    (BesideTail.tailed (proj := Strand.active) (fun _ _ _ _ _ _ => rfl) s i cut).trans h.2
  rw [State.closeCut_eq]
  exact Strand.Settled.idleCheck (by rw [State.pieceClosed_strand]; exact ⟨pending, active⟩)

/-- A strand that has left DRAINING has taken its switch. -/
theorem State.leaveDraining_settled (s : State) (i : Fin 4) : ((s.leaveDraining i).strand i).Settled
    (if (s.strand i).pendingSwitch = none then (s.strand i).active else (s.strand i).active.other) := by
  have pending := BesideMap.closeAtEnd (proj := Strand.pendingSwitch) ⟨fun _ _ _ _ => rfl, fun _ _ _ => rfl⟩ s i
  have active := BesideMap.closeAtEnd (proj := Strand.active) ⟨fun _ _ _ _ => rfl, fun _ _ _ => rfl⟩ s i
  rw [State.leaveDraining_eq]
  refine Strand.Settled.idleCheck (State.closeCheck_induct (fun t cut => Strand.Settled.closeCut cut) ?_)
  rw [State.closedStrand, State.changeStrand_same, State.switchAtClose_strand, pending]
  split
  · next h => exact ⟨pending.trans h, active⟩
  · exact ⟨rfl, congrArg BankId.other active⟩

end

/-! ### STRAND_STOP -/

theorem State.endRun_sameWorld (s : State) (i : Fin 4) : SameWorld s (s.endRun i) := by
  simp [SameWorld, SameHandler, SameHandling, SameLine, s.endRun_lineGrows i]

theorem exec_strandStop {s : State} {r : Request} {i : Fin 4} (serves : Serves s r (.strandStop i))
    (cls : r.sourceClass ≠ .none) : exec (.strandStop i) s = .next (
      if (s.strand i).state.live then (s.endRun i).finish r { status := .accepted }
      else s.finish r { status := .wrongState }) := by
  refine congrArg Host.Outcome.next ?_
  split
  · next live => exact State.carryOut_eq serves cls ((onStrand_val s i _).trans (if_pos live))
  · next idle => exact State.carryOut_eq serves cls ((onStrand_val s i _).trans (if_neg idle))

/-- Settles O56: leaving DRAINING step by step, then the request. -/
theorem strandStopped : Obligations.StrandStopped := by
  refine ⟨fun s i => ?_, fun s r i serves cls => ?_⟩
  · intro st
    refine ⟨⟨s.drainCheck_eq i, ?_, rfl, fun j hj => by simp [State.switchBanks, hj], s.switchBanks_same i,
      s.switchBanks_head i⟩, State.endRun_of_not_live, State.endRun_of_live, fun draining => ?_⟩
    · split
      · next done => exact State.idleCheck_of_done done
      · next busy => exact State.idleCheck_of_not_done busy
    · intro ended switched closed
      have pending : (ended.strand i).pendingSwitch = st.pendingSwitch :=
        BesideMap.closeAtEnd (proj := Strand.pendingSwitch) ⟨fun _ _ _ _ => rfl, fun _ _ _ => rfl⟩ s i
      have active : (ended.strand i).active = st.active :=
        BesideMap.closeAtEnd (proj := Strand.active) ⟨fun _ _ _ _ => rfl, fun _ _ _ => rfl⟩ s i
      have bank : (ended.strand i).bank = st.bank :=
        BesideMap.closeAtEnd (proj := Strand.bank) ⟨fun _ _ _ _ => rfl, fun _ _ _ => rfl⟩ s i
      have hswitched : ended.switchAtClose i = switched := by
        cases hp : st.pendingSwitch with
        | none => rw [State.switchAtClose_of_none (pending.trans hp)]; simp only [switched, hp]
        | some p => rw [State.switchAtClose_of_some (pending.trans hp), active, bank]; simp only [switched, hp]
      have hclosed : s.closedStrand i = closed := by
        rw [State.closedStrand_of_draining draining]
        exact congrArg (fun u => (u.modStrand i fun a => { a with state := .closed }).raise
          (.strandState i .draining .closed)) hswitched
      rw [← hclosed]
      exact ⟨rfl, State.leaveDraining_of_runs, fun _ => State.leaveDraining_of_no_cuts⟩
  · intro st
    refine ⟨_, exec_strandStop serves cls, fun idle => ?_, fun live => ?_⟩
    · rw [if_neg (by rw [idle]; decide)]
      exact s.finish_onlyAnswered r _ serves.1
    rw [if_pos live]
    let draining := (s.modStrand i fun a => { a with state := .draining }).raise (.strandState i st.state .draining)
    have ends : s.endRun i = draining.drainCheck i := State.endRun_of_live live
    have strand : draining.strand i = { st with state := .draining } := by
      rw [State.raise_strand, State.strand_modStrand_same]
    have drains (hsets : st.sets = []) (heval : st.eval = none) : s.endRun i = draining.leaveDraining i := by
      rw [ends, State.drainCheck_eq, strand, if_pos ⟨rfl, hsets, heval⟩]
    have stays (h : st.sets ≠ [] ∨ st.eval ≠ none) : s.endRun i = draining := by
      rw [ends, State.drainCheck_eq, strand, if_neg fun done => h.elim (fun h => h done.2.1) fun h => h done.2.2]
    obtain ⟨-, -, -, -, -, -, line, requests, waiting, -, counts⟩ := s.endRun_sameWorld i
    have carried := State.finish_carriedOut (u := s.endRun i) r { status := .accepted } serves.1 waiting requests counts line
      (by simp [SameRest])
    refine ⟨carried, by simp [SameHandling], fun j hj => by simp [hj], by simp, by simp, by simp, rfl,
      fun hsets heval hruns hcuts => ?_, fun h => ?_, fun hsets heval => ?_⟩
    · rw [State.finish_strand, drains hsets heval, State.leaveDraining_of_runs (by rw [strand]; exact hruns)
        (by rw [strand]; exact hcuts), State.closedStrand_state]
    · rw [State.finish_strand, stays h]
      exact ⟨strand, by simp [draining]⟩
    · obtain ⟨pending, active⟩ := draining.leaveDraining_settled i
      rw [State.finish_strand, drains hsets heval]
      refine ⟨draining.leaveDraining_state i, pending, fun p hp => ?_, fun hruns hcuts => ?_⟩
      · have waits : st.pendingSwitch ≠ none := by rw [hp]; simp
        rw [active, strand]
        exact if_neg waits
      · have done : ((draining.closedStrand i).strand i).Done := ⟨draining.closedStrand_state i,
          (draining.closedStrand_runs i).mpr (by rw [strand]; exact hruns),
          (draining.closedStrand_cuts i).trans (by rw [strand]; exact hcuts)⟩
        rw [State.leaveDraining_of_no_cuts (by rw [strand]; exact hcuts), State.idleCheck_of_done done, State.raise_strand,
          State.strand_modStrand_same]
        exact ⟨rfl, rfl⟩

end Sys2Proof.Machine
end

section
/-! Proofs: what the close check and the end of DRAINING leave of a strand (R55, R140). -/

namespace Sys2Proof.Machine

section
variable {α : Type} {proj : Strand → α}

/-- A projection of a strand that a closed piece leaves as it is. -/
def BesideClose (proj : Strand → α) : Prop :=
  ∀ st runs settle retired cuts closed n counters, proj { st with
    runs := runs, settle := settle, retired := retired, cuts := cuts, closed := closed, pieceCounter := n,
    pieceCounters := counters } = proj st

/-- A strand that is not CLOSED closes a cut without a tail, and stays as it is beside the piece. -/
theorem BesideClose.closeCut (h : BesideClose proj) {s : State} {i : Fin 4} {cut : Cut}
    (hstate : (s.strand i).state ≠ .closed) (hle : cut.position ≤ (s.strand i).front) :
    proj ((s.closeCut i cut).strand i) = proj (s.strand i) := by
  have same : s.tailed i cut = s := if_neg (Nat.not_lt.mpr hle)
  have open_ : ¬(s.cutStrand i cut).Done := fun done => hstate ((s.cutStrand_state i cut).symm.trans done.1)
  rw [State.closeCut_strand, if_neg open_, State.cutStrand, same]
  exact h (s.strand i) ..

/-- What the close check of a strand that is not CLOSED leaves as it is (R140). -/
theorem BesideClose.closeCheck (h : BesideClose proj) {s : State} {i : Fin 4} (hstate : (s.strand i).state ≠ .closed) :
    proj ((s.closeCheck i).strand i) = proj (s.strand i) := by
  suffices ∀ n (t : State), (t.strand i).state ≠ .closed → proj ((t.closeCuts i n).strand i) = proj (t.strand i) from
    this _ s hstate
  intro n
  induction n with
  | zero => exact fun _ _ => rfl
  | succ n ih =>
    intro t ht
    unfold State.closeCuts
    split
    · rfl
    · next cut rest _ =>
      split
      · next can =>
        have hle := (Strand.canClose_iff.mp can).2.resolve_right ht
        have state := BesideClose.closeCut (proj := Strand.state) (fun _ _ _ _ _ _ _ _ => rfl) ht hle
        rw [ih _ (state.trans_ne ht), h.closeCut ht hle]
      · rfl

/-- A projection of a strand that neither a piece, nor a tail, nor the way to CLOSED and IDLE changes, a switch aside. -/
structure BesideEnd (proj : Strand → α) : Prop where
  map : BesideMap proj
  close : BesideClose proj
  tail : BesideTail proj
  clear : ∀ st : Strand, proj st.clearRuntime = proj st
  state : ∀ st x, proj { st with state := x } = proj st

theorem BesideEnd.idleCheck (h : BesideEnd proj) (s : State) (i : Fin 4) :
    proj ((s.idleCheck i).strand i) = proj (s.strand i) := by
  by_cases done : (s.strand i).Done
  · rw [State.idleCheck_of_done done, State.raise_strand, State.strand_modStrand_same, h.state, h.clear]
  · rw [State.idleCheck_of_not_done done]

theorem BesideEnd.closeCut (h : BesideEnd proj) (s : State) (i : Fin 4) (cut : Cut) :
    proj ((s.closeCut i cut).strand i) = proj (s.strand i) := by
  rw [State.closeCut_eq, h.idleCheck, State.pieceClosed_strand, ← h.tail.tailed s i cut]
  exact h.close ((s.tailed i cut).strand i) ..

theorem BesideEnd.closeCheck (h : BesideEnd proj) (s : State) (i : Fin 4) :
    proj ((s.closeCheck i).strand i) = proj (s.strand i) :=
  State.closeCheck_induct (P := fun st => proj st = proj (s.strand i)) (fun t cut ht => (h.closeCut t i cut).trans ht) rfl

theorem BesideEnd.leaveDraining (h : BesideEnd proj) {s : State} {i : Fin 4}
    (hswitch : (s.strand i).pendingSwitch = none ∨ ∀ st : Strand, proj st.exchangeBanks = proj st) :
    proj ((s.leaveDraining i).strand i) = proj (s.strand i) := by
  rw [State.leaveDraining_eq, h.idleCheck, h.closeCheck, h.map.closedStrand hswitch h.state]

theorem BesideEnd.drainCheck (h : BesideEnd proj) {s : State} {i : Fin 4}
    (hswitch : (s.strand i).pendingSwitch = none ∨ ∀ st : Strand, proj st.exchangeBanks = proj st) :
    proj ((s.drainCheck i).strand i) = proj (s.strand i) := by
  unfold State.drainCheck
  split
  · exact h.leaveDraining hswitch
  · rfl

end

/-! ### The release rule, with its switch (R74, R95, R96, R100) -/

section
variable {s : State} {i : Fin 4}

/-- No switch, or one whose length the slice has not reached: nothing is decided. -/
theorem State.decideSwitch_of_waiting {k : Nat} (h : ∀ p n, (s.strand i).pendingSwitch = some p → p.switchLength = some n →
    k * (s.strand i).params.pitch < n) : s.decideSwitch i k = s := by
  unfold State.decideSwitch
  split
  · next p hp =>
    split
    · next n hn => rw [if_neg (Nat.not_le.mpr (h p n hp hn))]
    · rfl
  · rfl

/-- A switch whose length the slice has reached is taken. -/
theorem State.decideSwitch_of_reached {k n : Nat} {p : PendingSwitch} (hp : (s.strand i).pendingSwitch = some p)
    (hn : p.switchLength = some n) (reached : n ≤ k * (s.strand i).params.pitch) :
    s.decideSwitch i k = (s.switchBanks i).raise (.bankTaken i (s.strand i).active.other
      ((s.strand i).bank (s.strand i).active.other).generation (some n) (some k)) := by
  have taken : s.decideSwitch i k = s.takeSwitch i p (some k) := by simp only [State.decideSwitch, hp, hn, if_pos reached]
  have notice (st : Strand) (hst : (s.switchBanks i).strand i = st) : s.takeSwitch i p (some k) =
      (s.switchBanks i).raise (.bankTaken i st.active st.activeBank.generation p.switchLength (some k)) := hst ▸ rfl
  rw [taken, notice _ (s.switchBanks_same i), Strand.exchangeBanks_activeBank, hn]
  rfl

/-- The mismatch flags that an evaluation fixes, slot by slot (R100). -/
theorem State.hasSlot_slotMismatch (s : State) (i : Fin 4) (k : Fin 6) : hasSlot (s.slotMismatch i) k =
    match (s.strand i).slots[k] with | some h => (s.head h).mismatch | none => false := by
  rw [State.slotMismatch]
  exact getLsbD_slotSet _ k

end

end Sys2Proof.Machine
end

section
/-! Proofs: what a release fixes, with and without a switch (R74, R95, R96, R100). -/

namespace Sys2Proof.Machine

section
variable {s : State} {i : Fin 4} {x : SliceSet} {rest : List SliceSet}

/-- The state once the oldest set has left the list. -/
def State.releasing (s : State) (i : Fin 4) (rest : List SliceSet) : State :=
  s.modStrand i fun st =>
    { st with sets := rest, asmCounters.slicesReleased := inc st.asmCounters.slicesReleased }

theorem State.releasing_strand (s : State) (i : Fin 4) (rest : List SliceSet) : (s.releasing i rest).strand i =
    { s.strand i with
      sets := rest, asmCounters.slicesReleased := inc (s.strand i).asmCounters.slicesReleased } :=
  State.strand_modStrand_same ..

theorem State.getElem_slotOffsets (s : State) (i : Fin 4) (k : Fin 6) : (s.slotOffsets i)[k] =
    match (s.strand i).slots[k] with | some h => (s.head h).offset | none => 0 :=
  mapTable_getElem _ _ k.val k.isLt

variable (hs : (s.strand i).sets = x :: rest) (hr : x.ready = true) (he : (s.strand i).eval = none)
include hs hr he

/-- The evaluation that begins fixes the bank, the mismatch flags and the offsets as they stand (R100). -/
theorem State.releaseRule_evaluation : ∃ ev, ((s.releaseRule i).strand i).eval = some ev ∧ ev.set = x ∧
    ev.bank = ((s.releaseRule i).strand i).active ∧ ev.began = s.now ∧
      ∀ k : Fin 6,
        (hasSlot ev.mismatch k = match (s.strand i).slots[k] with
          | some h => ((s.releaseRule i).head h).mismatch
          | none => false) ∧
        (ev.offsets[k] = match (s.strand i).slots[k] with | some h => (s.head h).offset | none => 0) := by
  have released : s.releaseRule i = ((s.releasing i rest).decideSwitch i x.slice).startEvaluation i x :=
    State.releaseRule_of_ready hs hr he
  have slots : (((s.releasing i rest).decideSwitch i x.slice).strand i).slots = (s.strand i).slots := by
    rw [State.decideSwitch_keeps (proj := Strand.slots) (fun _ => rfl), State.releasing_strand]
  have head (h : Fin 16) : (s.releaseRule i).head h = ((s.releasing i rest).decideSwitch i x.slice).head h := by
    rw [released]; rfl
  rw [released, State.startEvaluation, State.strand_modStrand_same]
  refine ⟨_, rfl, rfl, rfl, by simp [State.releasing], fun k => ⟨?_, ?_⟩⟩
  · dsimp only
    rw [State.hasSlot_slotMismatch, slots]
    rfl
  · have offset (h : Fin 16) : (((s.releasing i rest).decideSwitch i x.slice).head h).offset = (s.head h).offset := by
      obtain ⟨b, hb⟩ := s.releaseRule_head i h
      rw [← head, hb]
    dsimp only
    rw [State.getElem_slotOffsets, slots]
    cases (s.strand i).slots[k] with
    | none => rfl
    | some h => exact offset h

/-- A switch whose length the slice has reached is taken before the evaluation begins (R95, R96). -/
theorem State.releaseRule_switched {p : PendingSwitch} {n : Nat} (hp : (s.strand i).pendingSwitch = some p)
    (hn : p.switchLength = some n) (reached : n ≤ x.slice * (s.strand i).params.pitch) :
    s.releaseRule i = (((s.releasing i rest).switchBanks i).raise (.bankTaken i (s.strand i).active.other
      ((s.strand i).bank (s.strand i).active.other).generation (some n) (some x.slice))).startEvaluation i x := by
  have strand := s.releasing_strand i rest
  have released : s.releaseRule i = ((s.releasing i rest).decideSwitch i x.slice).startEvaluation i x :=
    State.releaseRule_of_ready hs hr he
  rw [released, State.decideSwitch_of_reached (p := p) (n := n) (by rw [strand]; exact hp) hn (by rw [strand]; exact reached),
    strand]
  rfl

/-- Without such a switch nothing but the list and the engine changes. -/
theorem State.releaseRule_unswitched (h : ∀ p n, (s.strand i).pendingSwitch = some p → p.switchLength = some n →
    x.slice * (s.strand i).params.pitch < n) : s.releaseRule i = (s.releasing i rest).startEvaluation i x := by
  have strand := s.releasing_strand i rest
  have released : s.releaseRule i = ((s.releasing i rest).decideSwitch i x.slice).startEvaluation i x :=
    State.releaseRule_of_ready hs hr he
  rw [released, State.decideSwitch_of_waiting (by rw [strand]; exact h)]

omit hs hr he in
/-- Where no switch is pending, the release rule changes the list, its counter and the engine alone. -/
theorem State.releaseRule_keeps_of_none {α : Type} {proj : Strand → α} (sets : ∀ st x n, proj { st with
    sets := x, asmCounters := n } = proj st) (eval : ∀ st x, proj { st with eval := x } = proj st)
    (h : (s.strand i).pendingSwitch = none) : proj ((s.releaseRule i).strand i) = proj (s.strand i) := by
  rcases s.releaseRule_cases i with e | ⟨x, rest, hs, hr, he, -⟩
  · rw [e]
  · have waits : ∀ p n, (s.strand i).pendingSwitch = some p → p.switchLength = some n →
        x.slice * (s.strand i).params.pitch < n := fun p n hp => absurd (h.symm.trans hp) (by simp)
    rw [State.releaseRule_unswitched hs hr he waits, State.startEvaluation,
      State.strand_modStrand_same, eval, State.releasing_strand]
    exact sets (s.strand i) ..

end

end Sys2Proof.Machine
end

section
/-! Proofs: what the completion of an evaluation does to its strand (R101, R102, R110, R118, R75). -/

namespace Sys2Proof.Machine

/-! ### The filters and the counters that a completion writes -/

theorem length_filtersAfter (js : List (Option Judged)) (fs : List (Option Int)) : (filtersAfter js fs).length = fs.length := by
  induction fs generalizing js with
  | nil => cases js with
    | nil => rfl
    | cons j js => cases j <;> rfl
  | cons f fs ih => cases js with
    | nil => rfl
    | cons j js => cases j <;> simp [filtersAfter, ih]

/-- The filter of a judged instance takes its trend, and every other one stays (R109, R110). -/
theorem getElem_filtersAfter (js : List (Option Judged)) (fs : List (Option Int)) (n : Nat) (hn : n < fs.length) :
    (filtersAfter js fs)[n]'((length_filtersAfter js fs).symm ▸ hn) =
      match js[n]? with | some (some j) => some j.trend | _ => fs[n] := by
  induction fs generalizing js n with
  | nil => simp at hn
  | cons f fs ih =>
    cases js with
    | nil => simp [filtersAfter]
    | cons j js =>
      have rest (n : Nat) (hn : n + 1 < (f :: fs).length) := ih js n (by simpa using hn)
      cases j <;> cases n with
      | zero => simp [filtersAfter]
      | succ n => simpa [filtersAfter] using rest n hn

theorem clippedOf_eq (js : List (Option Judged)) : clippedOf js = ((js.filterMap id).map fun j => j.stats.clipped).sum := by
  induction js with
  | nil => rfl
  | cons x js ih =>
    rw [clippedOf] at ih ⊢
    cases x <;> simp [ih]

/-- The filters that a completed evaluation leaves. -/
def Strand.filtersWritten (st : Strand) (ev : Evaluation) : Vector (Option Int) 256 :=
  (st.finishEvaluation ev).filters

/-- The trends are taken first, and then the pending slots are unseeded (R102, R110). -/
theorem Strand.getElem_filtersWritten (st : Strand) (ev : Evaluation) (n : Fin 256) :
    let trend := match (st.judged ev)[n.val]? with | some (some j) => some j.trend | _ => st.filters[n]
    (st.filtersWritten ev)[n] = match st.activeBank.placements[n.val]? with
      | some p => if st.unseed.getLsbD p.entry.geo.slot = true then none else trend
      | none => trend := by
  intro trend
  let taken : Vector (Option Int) 256 := retable st.filters (filtersAfter (st.judged ev) st.filters.toList)
  have hlength : (filtersAfter (st.judged ev) st.filters.toList).length = 256 := by simp [length_filtersAfter]
  have htaken : taken[n] = trend := by
    have at_n := getElem_filtersAfter (st.judged ev) st.filters.toList n.val (by simp)
    rw [Fin.getElem_fin, getElem_retable _ hlength n.val n.isLt, at_n]
    rfl
  have hunseeded : (unseedFilters st.unseed st.activeBank.placements taken.toList).length = 256 := by
    simp [length_unseedFilters]
  have written : st.filtersWritten ev = retable taken (unseedFilters st.unseed st.activeBank.placements taken.toList) := rfl
  rw [written, Fin.getElem_fin, getElem_retable _ hunseeded n.val n.isLt, getElem_unseedFilters _ _ _ _ (by simp)]
  rw [← htaken]
  rfl

/-- The counters of the engine after a completion (R118). -/
def Strand.countersAfter (st : Strand) (ev : Evaluation) : EngineCounters :=
  { st.engCounters with
    slicesEvaluated := inc st.engCounters.slicesEvaluated,
    instancesVoid := satAdd st.engCounters.instancesVoid ((st.judged ev).countP Option.isNone),
    samplesClipped := satAdd st.engCounters.samplesClipped
      (((st.judged ev).filterMap id).map fun j => j.stats.clipped).sum }

theorem Strand.finishEvaluation_eq (st : Strand) (ev : Evaluation) : st.finishEvaluation ev = { st with
    filters := st.filtersWritten ev, last := some (st.evaluate ev), engCounters := st.countersAfter ev, unseed := 0,
    eval := none } := by
  rw [Strand.countersAfter, ← clippedOf_eq]
  rfl

/-- What a completed evaluation leaves of its strand beside the engine. -/
theorem Strand.finishEvaluation_rest (st : Strand) (ev : Evaluation) :
    (st.finishEvaluation ev).state = st.state ∧ (st.finishEvaluation ev).params = st.params ∧
      (st.finishEvaluation ev).sets = st.sets ∧ (st.finishEvaluation ev).eval = none ∧
      (st.finishEvaluation ev).cuts = st.cuts ∧ (st.finishEvaluation ev).pendingSwitch = st.pendingSwitch := by
  rw [Strand.finishEvaluation_eq]
  exact ⟨rfl, rfl, rfl, rfl, rfl, rfl⟩

end Sys2Proof.Machine
end

section
/-! Proofs: the completion of an evaluation and the release rule (O31). -/

namespace Sys2Proof.Machine

/-- The entry that an evaluated slice makes in the Length Map. -/
def Strand.entryOf (st : Strand) (ev : Evaluation) : Entry :=
  { slice := ev.set.slice, cls := (st.evaluate ev).cls, cause := (st.evaluate ev).cause, area := (st.evaluate ev).area }

section
variable (s : State) (i : Fin 4) (ev : Evaluation)

/-- The state once the engine has written the results of an evaluation. -/
def State.written : State := s.modStrand i fun st => st.finishEvaluation ev

/-- The state once the slice is handed to the map. -/
def State.handed : State := (s.written i ev).handOver i ((s.strand i).entryOf ev)

/-- The state once the front has moved to the slice's end, and the marks behind it have left. -/
def State.moved : State := (s.handed i ev).modStrand i fun st => st.moveTo ev.set.slice

/-- The state after the close check that follows. -/
def State.checked : State := (s.moved i ev).closeCheck i

theorem State.completeEvaluation_eq :
    s.completeEvaluation i ev = ((s.checked i ev).releaseRule i).drainCheck i := rfl

theorem State.written_strand : (s.written i ev).strand i = (s.strand i).finishEvaluation ev := State.strand_modStrand_same ..

/-- A projection that the way of a slice into the map does not change. -/
structure BesideSlice {α : Type} (proj : Strand → α) : Prop where
  map : BesideMap proj
  counters : ∀ st n, proj { st with asmCounters := n } = proj st

theorem BesideSlice.handed {α : Type} {proj : Strand → α} (h : BesideSlice proj) :
    proj ((s.handed i ev).strand i) = proj ((s.strand i).finishEvaluation ev) := by
  rw [State.handed, h.map.handOver h.counters, State.written_strand]

/-- What the slice's way and the moving front leave of the strand. -/
theorem BesideSlice.moved {α : Type} {proj : Strand → α} (h : BesideSlice proj)
    (front : ∀ st k f m, proj { st with lastReleased := k, front := f, marks := m } = proj st) :
    proj ((s.moved i ev).strand i) = proj ((s.strand i).finishEvaluation ev) := by
  rw [State.moved, State.strand_modStrand_same, ← h.handed]
  generalize (s.handed i ev).strand i = st
  exact front st ..

theorem State.moved_state : ((s.moved i ev).strand i).state = (s.strand i).state :=
  (BesideSlice.moved (proj := Strand.state) s i ev ⟨⟨fun _ _ _ _ => rfl, fun _ _ _ => rfl⟩, fun _ _ => rfl⟩
    fun _ _ _ _ => rfl).trans ((s.strand i).finishEvaluation_rest ev).1

/-- The slice is the last released one, and the front is its end. -/
theorem State.moved_front : ((s.moved i ev).strand i).lastReleased = some ev.set.slice ∧
    ((s.moved i ev).strand i).front = (ev.set.slice + 1) * (s.strand i).params.pitch := by
  have params : ((s.handed i ev).strand i).params = (s.strand i).params :=
    (BesideSlice.handed (proj := Strand.params) s i ev ⟨⟨fun _ _ _ _ => rfl, fun _ _ _ => rfl⟩, fun _ _ => rfl⟩).trans
      ((s.strand i).finishEvaluation_rest ev).2.1
  rw [State.moved, State.strand_modStrand_same, ← params]
  generalize (s.handed i ev).strand i = st
  exact ⟨rfl, rfl⟩

variable {s i ev} (hstate : (s.strand i).state ≠ .closed)
include hstate

/-- A projection that neither the slice, nor the close check concerns. -/
theorem BesideSlice.checked {α : Type} {proj : Strand → α} (h : BesideSlice proj) (close : BesideClose proj)
    (front : ∀ st k f m, proj { st with lastReleased := k, front := f, marks := m } = proj st) :
    proj ((s.checked i ev).strand i) = proj ((s.strand i).finishEvaluation ev) := by
  rw [State.checked, close.closeCheck ((s.moved_state i ev).trans_ne hstate), h.moved _ _ _ front]

theorem State.checked_state : ((s.checked i ev).strand i).state = (s.strand i).state :=
  (BesideSlice.checked (proj := Strand.state) hstate ⟨⟨fun _ _ _ _ => rfl, fun _ _ _ => rfl⟩, fun _ _ => rfl⟩
    (fun _ _ _ _ _ _ _ _ => rfl) fun _ _ _ _ => rfl).trans ((s.strand i).finishEvaluation_rest ev).1

theorem State.checked_sets : ((s.checked i ev).strand i).sets = (s.strand i).sets :=
  (BesideSlice.checked (proj := Strand.sets) hstate ⟨⟨fun _ _ _ _ => rfl, fun _ _ _ => rfl⟩, fun _ _ => rfl⟩
    (fun _ _ _ _ _ _ _ _ => rfl) fun _ _ _ _ => rfl).trans ((s.strand i).finishEvaluation_rest ev).2.2.1

theorem State.checked_eval : ((s.checked i ev).strand i).eval = none :=
  (BesideSlice.checked (proj := Strand.eval) hstate ⟨⟨fun _ _ _ _ => rfl, fun _ _ _ => rfl⟩, fun _ _ => rfl⟩
    (fun _ _ _ _ _ _ _ _ => rfl) fun _ _ _ _ => rfl).trans ((s.strand i).finishEvaluation_rest ev).2.2.2.1

/-- A projection that no part of the completion concerns but the engine's own results. -/
theorem BesideSlice.completed {α : Type} {proj : Strand → α} (h : BesideSlice proj) (ends : BesideEnd proj) (sets : BesideSets proj)
    (front : ∀ st k f m, proj { st with lastReleased := k, front := f, marks := m } = proj st) :
    proj ((s.completeEvaluation i ev).strand i) = proj ((s.strand i).finishEvaluation ev) := by
  rw [State.completeEvaluation_eq, ends.drainCheck (.inr sets.exchange), sets.releaseRule, ← h.checked hstate ends.close front]

end

end Sys2Proof.Machine
end

section
/-! Proofs: O31. -/

namespace Sys2Proof.Machine

section
variable {s : State} {i : Fin 4} {ev : Evaluation}

theorem exec_evaluationComplete (h : (s.strand i).eval = some ev) :
    exec (.evaluationComplete i) s = .next (s.completeEvaluation i ev) := by
  have completes : s.evaluationCompletes i = s.completeEvaluation i ev := by simp only [State.evaluationCompletes, h]
  exact congrArg Host.Outcome.next completes

theorem State.completeEvaluation_sameWorld (s : State) (i : Fin 4) (ev : Evaluation) :
    SameWorld s (s.completeEvaluation i ev) := by
  simp [SameWorld, SameHandler, SameHandling, SameLine, s.completeEvaluation_lineGrows i ev]

variable (hstate : (s.strand i).state ≠ .closed)
include hstate

/-- Unless the strand is DRAINING, the release rule is the last that happens. -/
theorem State.completeEvaluation_of_not_draining (h : (s.strand i).state ≠ .draining) :
    s.completeEvaluation i ev = (s.checked i ev).releaseRule i := by
  have state : (((s.checked i ev).releaseRule i).strand i).state = (s.strand i).state :=
    (BesideSets.releaseRule (proj := Strand.state) ⟨fun _ _ _ => rfl, fun _ _ => rfl, fun _ => rfl⟩ _ i).trans
      (State.checked_state hstate)
  rw [State.completeEvaluation_eq, State.drainCheck_eq, if_neg]
  exact fun done => h (state.symm.trans done.1)

/-- With sets left the strand stays as the release rule leaves it. -/
theorem State.completeEvaluation_of_sets {x : SliceSet} {rest : List SliceSet} (hs : (s.strand i).sets = x :: rest) :
    s.completeEvaluation i ev = (s.checked i ev).releaseRule i ∧
      (x.ready = true → ((s.completeEvaluation i ev).strand i).sets = rest ∧
        ∃ next, ((s.completeEvaluation i ev).strand i).eval = some next ∧ next.set = x) ∧
      (x.ready = false → ((s.completeEvaluation i ev).strand i).sets = (s.strand i).sets ∧
        ((s.completeEvaluation i ev).strand i).eval = none) := by
  have sets := (State.checked_sets (ev := ev) hstate).trans hs
  have free := State.checked_eval (ev := ev) hstate
  have whole : s.completeEvaluation i ev = ((s.checked i ev).releaseRule i).drainCheck i := s.completeEvaluation_eq i ev
  cases hr : x.ready with
  | true =>
    obtain ⟨left, next, began, set⟩ := State.releaseRule_of_ready_same sets hr free
    have busy : ((s.checked i ev).releaseRule i).drainCheck i = (s.checked i ev).releaseRule i := by
      rw [State.drainCheck_eq, if_neg fun done => by rw [began] at done; cases done.2.2]
    rw [whole, busy]
    exact ⟨rfl, fun _ => ⟨left, next, began, set⟩, nofun⟩
  | false =>
    have same := State.releaseRule_of_open sets hr
    have busy : (s.checked i ev).drainCheck i = s.checked i ev := by
      rw [State.drainCheck_eq, if_neg fun done => by rw [sets] at done; cases done.2.1]
    rw [whole, same, busy]
    exact ⟨rfl, nofun, fun _ => ⟨sets.trans hs.symm, free⟩⟩

/-- Without a set the engine stays FREE, and a DRAINING strand leaves DRAINING. -/
theorem State.completeEvaluation_of_empty (hs : (s.strand i).sets = []) :
    s.completeEvaluation i ev = (s.checked i ev).drainCheck i := by
  rw [State.completeEvaluation_eq, State.releaseRule_of_empty ((State.checked_sets hstate).trans hs)]

theorem State.completeEvaluation_of_drained (hs : (s.strand i).sets = []) (h : (s.strand i).state = .draining) :
    s.completeEvaluation i ev = (s.checked i ev).leaveDraining i := by
  rw [State.completeEvaluation_of_empty hstate hs, State.drainCheck_eq,
    if_pos ⟨(State.checked_state hstate).trans h, (State.checked_sets hstate).trans hs, State.checked_eval hstate⟩]

end

end Sys2Proof.Machine
end

section
/-! Proofs: an evaluation completes and the next begins (O31). -/

namespace Sys2Proof.Machine

section
variable {s : State} {i : Fin 4}

/-- Where no switch is pending, the filters that the completion has written stay. -/
theorem State.completeEvaluation_filters {ev : Evaluation} (hstate : (s.strand i).state ≠ .closed)
    (h : (s.strand i).pendingSwitch = none) :
    ((s.completeEvaluation i ev).strand i).filters = (s.strand i).filtersWritten ev := by
  have checkedFilters : ((s.checked i ev).strand i).filters = (s.strand i).filtersWritten ev :=
    BesideSlice.checked (proj := Strand.filters) hstate ⟨⟨fun _ _ _ _ => rfl, fun _ _ _ => rfl⟩, fun _ _ => rfl⟩
      (fun _ _ _ _ _ _ _ _ => rfl) fun _ _ _ _ => rfl
  have pending : ((s.checked i ev).strand i).pendingSwitch = none :=
    ((BesideSlice.checked (proj := Strand.pendingSwitch) hstate ⟨⟨fun _ _ _ _ => rfl, fun _ _ _ => rfl⟩, fun _ _ => rfl⟩
      (fun _ _ _ _ _ _ _ _ => rfl) fun _ _ _ _ => rfl).trans ((s.strand i).finishEvaluation_rest ev).2.2.2.2.2).trans h
  have released : (((s.checked i ev).releaseRule i).strand i).pendingSwitch = none :=
    (State.releaseRule_keeps_of_none (proj := Strand.pendingSwitch) (fun _ _ _ => rfl) (fun _ _ => rfl) pending).trans pending
  have ends : BesideEnd Strand.filters := ⟨⟨fun _ _ _ _ => rfl, fun _ _ _ => rfl⟩, fun _ _ _ _ _ _ _ _ => rfl,
    fun _ _ _ _ _ _ => rfl, fun _ => rfl, fun _ _ => rfl⟩
  rw [State.completeEvaluation_eq, ends.drainCheck (.inl released),
    State.releaseRule_keeps_of_none (proj := Strand.filters) (fun _ _ _ => rfl) (fun _ _ => rfl) pending, checkedFilters]

/-- Without a pending cut the map is as the slice has left it. -/
theorem State.completeEvaluation_runs {ev : Evaluation} (hstate : (s.strand i).state ≠ .closed)
    (h : (s.strand i).state ≠ .draining) (hcuts : (s.strand i).cuts = []) :
    ((s.completeEvaluation i ev).strand i).runs = ((s.handed i ev).strand i).runs ∧
      ((s.completeEvaluation i ev).strand i).settle = ((s.handed i ev).strand i).settle := by
  have cuts : ((s.moved i ev).strand i).cuts = [] :=
    ((BesideSlice.moved (proj := Strand.cuts) s i ev ⟨⟨fun _ _ _ _ => rfl, fun _ _ _ => rfl⟩, fun _ _ => rfl⟩
      fun _ _ _ _ => rfl).trans ((s.strand i).finishEvaluation_rest ev).2.2.2.2.1).trans hcuts
  have same : s.checked i ev = s.moved i ev := State.closeCheck_of_nil cuts
  rw [State.completeEvaluation_of_not_draining hstate h, same,
    BesideSets.releaseRule (proj := Strand.runs) ⟨fun _ _ _ => rfl, fun _ _ => rfl, fun _ => rfl⟩,
    BesideSets.releaseRule (proj := Strand.settle) ⟨fun _ _ _ => rfl, fun _ _ => rfl, fun _ => rfl⟩,
    State.moved, State.strand_modStrand_same]
  exact ⟨rfl, rfl⟩

/-- Unless the strand is DRAINING, its state stays, and the slice is the last released one, with the front at its end. -/
theorem State.completeEvaluation_front {ev : Evaluation} (hstate : (s.strand i).state ≠ .closed)
    (h : (s.strand i).state ≠ .draining) :
    ((s.completeEvaluation i ev).strand i).state = (s.strand i).state ∧
      ((s.completeEvaluation i ev).strand i).lastReleased = some ev.set.slice ∧
      ((s.completeEvaluation i ev).strand i).front = (ev.set.slice + 1) * (s.strand i).params.pitch := by
  obtain ⟨last, front⟩ := s.moved_front i ev
  have open_ := (s.moved_state i ev).trans_ne hstate
  rw [State.completeEvaluation_of_not_draining hstate h,
    BesideSets.releaseRule (proj := Strand.state) ⟨fun _ _ _ => rfl, fun _ _ => rfl, fun _ => rfl⟩,
    BesideSets.releaseRule (proj := Strand.lastReleased) ⟨fun _ _ _ => rfl, fun _ _ => rfl, fun _ => rfl⟩,
    BesideSets.releaseRule (proj := Strand.front) ⟨fun _ _ _ => rfl, fun _ _ => rfl, fun _ => rfl⟩,
    State.checked_state hstate, State.checked,
    BesideClose.closeCheck (proj := Strand.lastReleased) (fun _ _ _ _ _ _ _ _ => rfl) open_,
    BesideClose.closeCheck (proj := Strand.front) (fun _ _ _ _ _ _ _ _ => rfl) open_, last, front]
  exact ⟨rfl, rfl, rfl⟩

/-- The engine's results stay whatever follows. -/
theorem State.completeEvaluation_results {ev : Evaluation} (hstate : (s.strand i).state ≠ .closed) :
    ((s.completeEvaluation i ev).strand i).last = some ((s.strand i).evaluate ev) ∧
      ((s.completeEvaluation i ev).strand i).engCounters = (s.strand i).countersAfter ev ∧
      ((s.completeEvaluation i ev).strand i).unseed = 0 := by
  have kept {α : Type} {proj : Strand → α} (slice : BesideSlice proj) (close : BesideClose proj) (tail : BesideTail proj)
      (clear : ∀ st : Strand, proj st.clearRuntime = proj st) (state : ∀ st x, proj { st with state := x } = proj st)
      (sets : BesideSets proj) (front : ∀ st k f m, proj { st with lastReleased := k, front := f, marks := m } = proj st) :
      proj ((s.completeEvaluation i ev).strand i) = proj ((s.strand i).finishEvaluation ev) :=
    slice.completed hstate ⟨slice.map, close, tail, clear, state⟩ sets front
  have finished := (s.strand i).finishEvaluation_eq ev
  refine ⟨?_, ?_, ?_⟩
  · rw [kept (proj := Strand.last) ⟨⟨fun _ _ _ _ => rfl, fun _ _ _ => rfl⟩, fun _ _ => rfl⟩ (fun _ _ _ _ _ _ _ _ => rfl)
      (fun _ _ _ _ _ _ => rfl) (fun _ => rfl) (fun _ _ => rfl) ⟨fun _ _ _ => rfl, fun _ _ => rfl, fun _ => rfl⟩
      fun _ _ _ _ => rfl, finished]
  · rw [kept (proj := Strand.engCounters) ⟨⟨fun _ _ _ _ => rfl, fun _ _ _ => rfl⟩, fun _ _ => rfl⟩
      (fun _ _ _ _ _ _ _ _ => rfl) (fun _ _ _ _ _ _ => rfl) (fun _ => rfl) (fun _ _ => rfl)
      ⟨fun _ _ _ => rfl, fun _ _ => rfl, fun _ => rfl⟩ fun _ _ _ _ => rfl, finished]
  · rw [kept (proj := Strand.unseed) ⟨⟨fun _ _ _ _ => rfl, fun _ _ _ => rfl⟩, fun _ _ => rfl⟩ (fun _ _ _ _ _ _ _ _ => rfl)
      (fun _ _ _ _ _ _ => rfl) (fun _ => rfl) (fun _ _ => rfl) ⟨fun _ _ _ => rfl, fun _ _ => rfl, fun _ => rfl⟩
      fun _ _ _ _ => rfl, finished]

/-- Without a set the engine stays FREE, and a DRAINING strand leaves DRAINING. -/
theorem State.completeEvaluation_idle {ev : Evaluation} (hstate : (s.strand i).state ≠ .closed)
    (hs : (s.strand i).sets = []) : ((s.completeEvaluation i ev).strand i).eval = none ∧
      ((s.strand i).state = .draining → ((s.completeEvaluation i ev).strand i).state = .closed ∨
        ((s.completeEvaluation i ev).strand i).state = .idle) := by
  have ends : BesideEnd Strand.eval := ⟨⟨fun _ _ _ _ => rfl, fun _ _ _ => rfl⟩, fun _ _ _ _ _ _ _ _ => rfl,
    fun _ _ _ _ _ _ => rfl, fun _ => rfl, fun _ _ => rfl⟩
  refine ⟨?_, fun h => ?_⟩
  · rw [State.completeEvaluation_of_empty hstate hs, ends.drainCheck (.inr fun _ => rfl), State.checked_eval hstate]
  · rw [State.completeEvaluation_of_drained hstate hs h]
    exact (s.checked i ev).leaveDraining_state i

/-- A switch that is taken at a release exchanges the banks, and raises one notice (R96). -/
theorem State.releaseRule_switch {x : SliceSet} {rest : List SliceSet} {p : PendingSwitch} {n : Nat}
    (hs : (s.strand i).sets = x :: rest) (hr : x.ready = true) (he : (s.strand i).eval = none)
    (hp : (s.strand i).pendingSwitch = some p) (hn : p.switchLength = some n)
    (reached : n ≤ x.slice * (s.strand i).params.pitch) :
    let st := s.strand i
    let t := s.releaseRule i
    let bank := st.bank st.active.other
    (t.strand i).active = st.active.other ∧ (t.strand i).pendingSwitch = none ∧
    (t.strand i).filters = Vector.replicate 256 none ∧
    (t.strand i).tplCounters = { st.tplCounters with bankSwitches := inc st.tplCounters.bankSwitches } ∧
    (∀ h : Fin 16, t.head h = { s.head h with
      mismatch := match (s.head h).assignment, (s.head h).announced with
        | some (j, k), some a => if j = i then a.width != bank.header.widths[k] else (s.head h).mismatch
        | some (j, _), none => if j = i then false else (s.head h).mismatch
        | none, _ => (s.head h).mismatch }) ∧
    t.handler.noticeSeq = s.handler.noticeSeq + 1 ∧
    t.linePort = (s.raise (.bankTaken i st.active.other bank.generation (some n) (some x.slice))).linePort ∧
    (s.linePort.own.length ≤ 28 → t.latestRecord = some (.notice s.handler.noticeTarget s.handler.noticeSeq
      (.bankTaken i st.active.other bank.generation (some n) (some x.slice)))) := by
  intro st t bank
  let notice : Notice := .bankTaken i st.active.other bank.generation (some n) (some x.slice)
  let switched := (s.releasing i rest).switchBanks i
  have whole : t = (switched.raise notice).startEvaluation i x := State.releaseRule_switched hs hr he hp hn reached
  have strand : switched.strand i = ((s.releasing i rest).strand i).exchangeBanks := State.switchBanks_same ..
  have head (h : Fin 16) : t.head h = switched.head h := by
    rw [whole, State.startEvaluation_head, State.raise_head]
  have line : t.linePort = (s.raise notice).linePort := by
    rw [whole]
    exact State.raise_linePort_congr notice rfl rfl
  have handler : t.handler = (s.raise notice).handler := by
    rw [whole, s.raise_handler]
    exact switched.raise_handler notice
  have same : t.strand i = { switched.strand i with eval := (t.strand i).eval } := by
    rw [whole, State.startEvaluation, State.strand_modStrand_same, State.raise_strand]
  rw [same, strand, State.releasing_strand]
  refine ⟨rfl, rfl, rfl, rfl, fun h => ?_, ?_, line, fun room => ?_⟩
  · rw [head, State.switchBanks_head, State.releasing_strand]
    rfl
  · rw [handler]
    exact congrArg Handler.noticeSeq (s.raise_handler notice)
  · obtain ⟨-, entered, -⟩ := noticeRaised s notice
    rw [← (entered room).2.1, State.latestRecord, State.latestRecord, line]

end

/-- Settles O31: the completion step by step, then the release rule with and without a switch. -/
theorem evaluationCompletes : Obligations.EvaluationCompletes := by
  refine ⟨fun s i ev hev hruns => ?_, fun s i => ?_⟩
  · have hstate : (s.strand i).state ≠ .closed := fun e => by rw [e] at hruns; exact hruns.elim nofun nofun
    refine ⟨_, exec_evaluationComplete hev, ?_⟩
    obtain ⟨last, counters, unseed⟩ := State.completeEvaluation_results (ev := ev) hstate
    have world := s.completeEvaluation_sameWorld i ev
    have frame : (s.completeEvaluation i ev).travel = s.travel ∧ (s.completeEvaluation i ev).headPort = s.headPort ∧
      (s.completeEvaluation i ev).now = s.now := by simp
    have other : OtherStrands s (s.completeEvaluation i ev) i := fun j hj => s.completeEvaluation_other ev hj
    have front := State.completeEvaluation_front (ev := ev) hstate
    have sets {x rest} (hs : (s.strand i).sets = x :: rest) := (State.completeEvaluation_of_sets (ev := ev) hstate hs).2
    have idle := State.completeEvaluation_idle (ev := ev) hstate
    have filters := State.completeEvaluation_filters (ev := ev) hstate
    have runs := State.completeEvaluation_runs (ev := ev) hstate
    have drained := State.completeEvaluation_of_drained (ev := ev) hstate
    have whole := s.completeEvaluation_eq i ev
    generalize s.completeEvaluation i ev = t at *
    refine ⟨last, by rw [counters]; rfl, unseed, other, frame.1, frame.2.1, world, frame.2.2, front, fun x rest hs => sets hs,
      idle, ?_⟩
    intro st js result counters' stop
    refine ⟨counters, st.filtersWritten ev, fun n => st.getElem_filtersWritten ev n, ?_⟩
    intro written handed moved
    have hwritten : s.written i ev = written := State.modStrand_congr (st.finishEvaluation_eq ev)
    have hhanded : s.handed i ev = handed := congrArg (fun u => State.handOver u i (st.entryOf ev)) hwritten
    have params : (handed.strand i).params = st.params := by
      rw [← hhanded]
      exact (BesideSlice.handed (proj := Strand.params) s i ev ⟨⟨fun _ _ _ _ => rfl, fun _ _ _ => rfl⟩, fun _ _ => rfl⟩).trans
        (st.finishEvaluation_rest ev).2.1
    have hmoved : s.moved i ev = moved := by
      rw [State.moved, hhanded]
      refine State.modStrand_congr ?_
      rw [Strand.moveTo, params]
      rfl
    rw [State.checked, hmoved] at whole drained
    rw [hhanded] at runs
    exact ⟨whole, filters, fun hs hc => runs hs hc, fun h hs => drained hs h⟩
  · intro st t
    refine ⟨fun h => ?_, fun x rest hs hr he => ?_⟩
    · rcases h with h | ⟨x, rest, hs, hr⟩ | h
      · exact State.releaseRule_of_empty h
      · exact State.releaseRule_of_open hs hr
      · exact State.releaseRule_of_busy h
    refine ⟨s.releaseRule_sameWorld i, by simp [t], fun j hj => by simp [t, hj], by simp [t], by simp [t],
      (State.releaseRule_of_ready_same hs hr he).1, State.releaseRule_of_ready_counters hs hr he,
      State.releaseRule_evaluation hs hr he, fun p n hp hn reached => ?_, fun waits => ?_⟩
    · intro bank
      exact State.releaseRule_switch hs hr he hp hn reached
    · have whole : t = _ := State.releaseRule_unswitched hs hr he waits
      rw [whole, State.startEvaluation, State.strand_modStrand_same, State.releasing_strand]
      exact ⟨rfl, rfl, rfl, rfl, rfl, rfl, rfl⟩

end Sys2Proof.Machine
end

section
/-! Proofs: how advice is issued and how a mark is given to the map (R127, R128, R132, R148, R149). -/

namespace Sys2Proof.Machine

section
variable {s : State} {i : Fin 4}

/-! ### Advice -/

theorem Strand.holdAdvice_of_room {st : Strand} (a : Advice) (room : st.held.length < 2) :
    st.holdAdvice a = { st with held := st.held ++ [a] } := if_pos room

theorem Strand.holdAdvice_of_full {st : Strand} (a : Advice) (full : 2 ≤ st.held.length) : st.holdAdvice a = { st with
    held := st.held.tail ++ [a], pieceCounters.adviceLost := inc st.pieceCounters.adviceLost } :=
  (if_neg (Nat.not_lt.mpr full)).trans (by rw [List.drop_one])

theorem Strand.holdAdvice_counted (st : Strand) (n : MapCounters) (a : Advice) :
    ({ st with mapCounters := n } : Strand).holdAdvice a = { st.holdAdvice a with mapCounters := n } := by
  let counted : Strand := { st with mapCounters := n }
  change counted.holdAdvice a = _
  by_cases slots : st.held.length < 2
  · rw [Strand.holdAdvice_of_room (st := counted) a slots, Strand.holdAdvice_of_room a slots]
  · rw [Strand.holdAdvice_of_full (st := counted) a (Nat.not_lt.mp slots), Strand.holdAdvice_of_full a (Nat.not_lt.mp slots)]

/-- With an entry free the record enters the Line Port. -/
theorem State.issueAdvice_of_room (kind : AdviceKind) (cls : ConditionClass) (start stop : Nat)
    (room : s.linePort.own.length < 32) : s.issueAdvice i kind cls start stop =
      (s.enqueueRecord (.advice ((s.strand i).adviceFor i kind cls start stop))).setStrand i
        { s.strand i with pieceCounters.adviceIssued := inc (s.strand i).pieceCounters.adviceIssued } :=
  (if_pos (lineHasRoom_iff.mpr room)).trans (State.enqueueRecord_setStrand ..)

/-- At a full Line Port it is held (R149). -/
theorem State.issueAdvice_of_full (kind : AdviceKind) (cls : ConditionClass) (start stop : Nat)
    (full : 32 ≤ s.linePort.own.length) : s.issueAdvice i kind cls start stop = s.setStrand i
      (({ s.strand i with
        pieceCounters.adviceIssued := inc (s.strand i).pieceCounters.adviceIssued } : Strand).holdAdvice
          ((s.strand i).adviceFor i kind cls start stop)) := by
  have none : ¬(s.modStrand i fun st =>
      { st with pieceCounters.adviceIssued := inc st.pieceCounters.adviceIssued }).lineHasRoom = true :=
    fun h => absurd (lineHasRoom_iff.mp h) (Nat.not_lt.mpr full)
  exact (if_neg none).trans (State.modStrand_modStrand ..)

/-- Counting a mark and issuing its advice do not touch each other. -/
theorem State.issueAdvice_counted (s : State) (i : Fin 4) (n : MapCounters) (kind : AdviceKind) (cls : ConditionClass)
    (start stop : Nat) : (s.setStrand i { s.strand i with mapCounters := n }).issueAdvice i kind cls start stop =
      (s.issueAdvice i kind cls start stop).modStrand i fun a => { a with mapCounters := n } := by
  let counted : Strand := { s.strand i with mapCounters := n }
  have strand : (s.setStrand i counted).strand i = counted := State.strand_setStrand_same ..
  have advice : counted.adviceFor i kind cls start stop = (s.strand i).adviceFor i kind cls start stop := rfl
  change (s.setStrand i counted).issueAdvice i kind cls start stop = _
  by_cases room : s.linePort.own.length < 32
  · rw [State.issueAdvice_of_room (s := s.setStrand i counted) _ _ _ _ room, State.issueAdvice_of_room _ _ _ _ room, strand,
      advice, State.enqueueRecord_setStrand, State.setStrand_setStrand, State.modStrand, State.strand_setStrand_same,
      State.setStrand_setStrand]
  · have full : 32 ≤ s.linePort.own.length := Nat.not_lt.mp room
    rw [State.issueAdvice_of_full (s := s.setStrand i counted) _ _ _ _ full, State.issueAdvice_of_full _ _ _ _ full, strand,
      advice, State.setStrand_setStrand, State.modStrand, State.strand_setStrand_same, State.setStrand_setStrand]
    refine congrArg (s.setStrand i) ?_
    exact Strand.holdAdvice_counted { s.strand i with
      pieceCounters.adviceIssued := inc (s.strand i).pieceCounters.adviceIssued } n _

/-! ### What a mark behind the front leaves of the strand -/

/-- A projection of a strand that a mark behind the front leaves as it is. -/
structure BesideBack {α : Type} (proj : Strand → α) : Prop where
  back : ∀ (st : Strand) runs settle behind applied closed merged, proj { st with
    runs := runs, settle := settle,
    mapCounters := { st.mapCounters with
      markBehind := behind, marksAppliedBack := applied, runsClosed := closed, mapMerged := merged } } = proj st
  advice : BesideAdvice proj

theorem BesideBack.applyBack {α : Type} {proj : Strand → α} (h : BesideBack proj) (s : State) (i : Fin 4) (m : Mark) :
    proj ((s.applyBack i m).strand i) = proj (s.strand i) := by
  by_cases hab : ((s.strand i).markRegion m).1 < ((s.strand i).markRegion m).2
  · by_cases room : ((s.strand i).markedRuns m).length ≤ 96
    · rw [h.advice.applyBack_of_room hab room]
      exact h.back (s.strand i) ..
    · rw [State.applyBack_full_raised hab (Nat.not_le.mp room)]
      exact h.back (s.strand i) ..
  · rw [State.applyBack_of_empty (Nat.not_lt.mp hab), State.strand_modStrand_same]
    exact h.back (s.strand i) ..

/-! ### The queue of marks -/

/-- A mark that joins the queue changes the queue and one counter. -/
theorem Strand.queueMark_eq (st : Strand) (m : Mark) : st.queueMark m = { st with
    marks := (st.queueMark m).marks, mapCounters.markMerged := (st.queueMark m).mapCounters.markMerged } := by
  unfold Strand.queueMark
  split
  · rfl
  · split
    · rfl
    · split <;> rfl

theorem Strand.queueMark_of_nil {st : Strand} (h : st.marks = []) (m : Mark) : st.queueMark m = { st with marks := [m] } := by
  simp [Strand.queueMark, h]

section
variable {st : Strand} {before : List Mark} {l : Mark} (h : st.marks = before ++ [l]) {m : Mark}
include h

theorem Strand.queueMark_of_meets (meets : m.start ≤ l.stop) : st.queueMark m =
    { st with marks := before ++ [{ l with stop := max l.stop m.stop, kind := worseKind l.kind m.kind }] } := by
  simp [Strand.queueMark, widenLast, h, meets]

theorem Strand.queueMark_of_room (apart : l.stop < m.start) (room : st.marks.length < 4) :
    st.queueMark m = { st with marks := st.marks ++ [m] } := by
  have space : before.length + 1 < 4 := by simpa [h] using room
  simp [Strand.queueMark, h, Nat.not_le.mpr apart, markCapacity, space]

theorem Strand.queueMark_of_full (apart : l.stop < m.start) (full : 4 ≤ st.marks.length) : st.queueMark m =
    { st with
      marks := before ++ [{ l with stop := m.stop, kind := worseKind l.kind m.kind }],
      mapCounters.markMerged := inc st.mapCounters.markMerged } := by
  have none : ¬before.length + 1 < 4 := by simpa [h] using full
  simp [Strand.queueMark, widenLast, h, Nat.not_le.mpr apart, markCapacity, none]

end

/-- The queue that a mark leaves depends on the queue that it finds; so does its counter. -/
theorem Strand.queueMark_congr {a b : Strand} (hm : a.marks = b.marks)
    (hc : a.mapCounters.markMerged = b.mapCounters.markMerged) (m : Mark) : (a.queueMark m).marks = (b.queueMark m).marks ∧
      (a.queueMark m).mapCounters.markMerged = (b.queueMark m).mapCounters.markMerged := by
  unfold Strand.queueMark
  rw [hm, ← hc]
  split
  · exact ⟨rfl, hc⟩
  · split
    · exact ⟨rfl, hc⟩
    · split
      · exact ⟨rfl, hc⟩
      · exact ⟨rfl, rfl⟩

theorem worseKind_eq (a c : MarkKind) : worseKind a c = if a = .weldZone ∨ c = .weldZone then .weldZone else .stopMark := by
  cases a <;> cases c <;> rfl

end

end Sys2Proof.Machine
end

section
/-! Proofs: press notices, marks and advice (O27). -/

namespace Sys2Proof.Machine

section
variable (s : State) (i : Fin 4) (m : Mark)

/-! ### A mark that is given to the map (R127) -/

/-- The state once a mark is counted and advised. -/
def State.markGiven : State :=
  (s.issueAdvice i m.kind.advice m.kind.cls m.start m.stop).modStrand i fun a =>
    { a with mapCounters.marksMade := inc a.mapCounters.marksMade }

/-- The state once a mark is applied to the runs behind the front. -/
def State.markApplied : State :=
  if m.start < (s.strand i).front then (s.markGiven i m).applyBack i m else s.markGiven i m

theorem State.giveMark_eq : s.giveMark i m = if m.stop ≤ (s.strand i).front then s.markApplied i m
    else (s.markApplied i m).modStrand i fun st => st.queueMark m := by
  have counters := besideAdvice_mapCounters.issueAdvice s i m.kind.advice m.kind.cls m.start m.stop
  have given : (s.modStrand i fun st => { st with mapCounters.marksMade := inc st.mapCounters.marksMade }).issueAdvice i
      m.kind.advice m.kind.cls m.start m.stop = s.markGiven i m :=
    (s.issueAdvice_counted i { (s.strand i).mapCounters with marksMade := inc (s.strand i).mapCounters.marksMade } ..).trans
      (State.modStrand_congr (by rw [counters]))
  unfold State.giveMark
  dsimp only
  rw [given]
  rfl

/-- The queue of a strand once a mark is given. -/
theorem State.giveMark_of_beyond (h : (s.strand i).front < m.stop) :
    s.giveMark i m = (s.markApplied i m).modStrand i fun st => st.queueMark m := by
  rw [State.giveMark_eq, if_neg (Nat.not_le.mpr h)]

theorem State.giveMark_of_behind (h : m.stop ≤ (s.strand i).front) : s.giveMark i m = s.markApplied i m := by
  rw [State.giveMark_eq, if_pos h]

variable {s i m}

theorem BesideBack.markApplied {α : Type} {proj : Strand → α} (h : BesideBack proj) :
    proj ((s.markApplied i m).strand i) = proj ((s.markGiven i m).strand i) := by
  unfold State.markApplied
  split
  · exact h.applyBack ..
  · rfl

/-- A projection that a mark leaves as it is, but for the count of marks and the queue. -/
theorem BesideBack.markApplied_same {α : Type} {proj : Strand → α} (h : BesideBack proj)
    (made : ∀ (st : Strand) n, proj { st with mapCounters.marksMade := n } = proj st) :
    proj ((s.markApplied i m).strand i) = proj (s.strand i) := by
  rw [h.markApplied, State.markGiven, State.strand_modStrand_same, made, h.advice.issueAdvice]

theorem State.markApplied_marks : ((s.markApplied i m).strand i).marks = (s.strand i).marks :=
  BesideBack.markApplied_same (proj := Strand.marks) ⟨fun _ _ _ _ _ _ _ => rfl, fun _ _ _ => rfl⟩ fun _ _ => rfl

theorem State.markApplied_markMerged :
    ((s.markApplied i m).strand i).mapCounters.markMerged = (s.strand i).mapCounters.markMerged :=
  BesideBack.markApplied_same (proj := fun st => st.mapCounters.markMerged)
    ⟨fun _ _ _ _ _ _ _ => rfl, fun _ _ _ => rfl⟩ fun _ _ => rfl

/-- A given mark counts once. -/
theorem State.markApplied_marksMade :
    ((s.markApplied i m).strand i).mapCounters.marksMade = inc (s.strand i).mapCounters.marksMade := by
  rw [BesideBack.markApplied (proj := fun st => st.mapCounters.marksMade) ⟨fun _ _ _ _ _ _ _ => rfl, fun _ _ _ => rfl⟩,
    State.markGiven, State.strand_modStrand_same]
  exact congrArg (fun c => inc c.marksMade) (besideAdvice_mapCounters.issueAdvice ..)

/-- A mark that begins at or beyond the front is not applied to the runs. -/
theorem State.markApplied_of_ahead (h : (s.strand i).front ≤ m.start) : s.markApplied i m = s.markGiven i m :=
  if_neg (Nat.not_lt.mpr h)

/-- What the queue leaves as it is of a mark that begins at or beyond the front. -/
theorem BesideBack.giveMark_ahead {α : Type} {proj : Strand → α}
    (made : ∀ (st : Strand) n, proj { st with mapCounters.marksMade := n } = proj st)
    (queue : ∀ (st : Strand) marks n, proj { st with marks := marks, mapCounters.markMerged := n } = proj st)
    (h : (s.strand i).front ≤ m.start) : proj ((s.giveMark i m).strand i) =
      proj ((s.issueAdvice i m.kind.advice m.kind.cls m.start m.stop).strand i) := by
  have given : proj ((s.markGiven i m).strand i) =
      proj ((s.issueAdvice i m.kind.advice m.kind.cls m.start m.stop).strand i) := by
    rw [State.markGiven, State.strand_modStrand_same, made]
  rw [State.giveMark_eq, State.markApplied_of_ahead h]
  split
  · exact given
  · rw [State.strand_modStrand_same, Strand.queueMark_eq, queue, given]

/-- Such a mark sends nothing but its advice. -/
theorem State.giveMark_linePort_ahead (h : (s.strand i).front ≤ m.start) :
    (s.giveMark i m).linePort = (s.issueAdvice i m.kind.advice m.kind.cls m.start m.stop).linePort := by
  rw [State.giveMark_eq, State.markApplied_of_ahead h]
  split <;> rfl

/-- The queue leaves the count of marks as it is. -/
theorem State.giveMark_marksMade (s : State) (i : Fin 4) (m : Mark) :
    ((s.giveMark i m).strand i).mapCounters.marksMade = inc (s.strand i).mapCounters.marksMade := by
  obtain behind | beyond := Nat.lt_or_ge (s.strand i).front m.stop
  · rw [State.giveMark_of_beyond s i m behind, State.strand_modStrand_same, Strand.queueMark_eq]
    exact State.markApplied_marksMade
  · rw [State.giveMark_of_behind s i m beyond]
    exact State.markApplied_marksMade

/-- What the queue leaves of a strand that a mark is given to. -/
theorem BesideBack.giveMark {α : Type} {proj : Strand → α} (h : BesideBack proj)
    (made : ∀ (st : Strand) n, proj { st with mapCounters.marksMade := n } = proj st)
    (queue : ∀ (st : Strand) marks n, proj { st with marks := marks, mapCounters.markMerged := n } = proj st) (s : State)
    (i : Fin 4) (m : Mark) : proj ((s.giveMark i m).strand i) = proj (s.strand i) := by
  have applied := h.markApplied_same (s := s) (i := i) (m := m) made
  obtain behind | beyond := Nat.lt_or_ge (s.strand i).front m.stop
  · rw [State.giveMark_of_beyond s i m behind, State.strand_modStrand_same, Strand.queueMark_eq, queue, applied]
  · rw [State.giveMark_of_behind s i m beyond, applied]

/-- The queue that a given mark leaves is the one that the strand's queue gives (R127, R128). -/
theorem State.giveMark_queue (h : (s.strand i).front < m.stop) :
    ((s.giveMark i m).strand i).marks = ((s.strand i).queueMark m).marks ∧
      ((s.giveMark i m).strand i).mapCounters.markMerged = ((s.strand i).queueMark m).mapCounters.markMerged := by
  rw [State.giveMark_of_beyond s i m h, State.strand_modStrand_same]
  exact Strand.queueMark_congr State.markApplied_marks State.markApplied_markMerged m

/-- The queue counts a merge only where it is full and the mark stands apart (R128). -/
theorem State.giveMark_markMerged (h : m.stop ≤ (s.strand i).front ∨ (s.strand i).marks.length < 4 ∨
      ∃ before l, (s.strand i).marks = before ++ [l] ∧ m.start ≤ l.stop) :
    ((s.giveMark i m).strand i).mapCounters.markMerged = (s.strand i).mapCounters.markMerged := by
  obtain behind | beyond := Nat.lt_or_ge (s.strand i).front m.stop
  · rw [(State.giveMark_queue behind).2]
    obtain past | room | ⟨before, l, last, meets⟩ := h
    · exact absurd behind (Nat.not_lt.mpr past)
    · obtain empty | ⟨before, l, last⟩ := List.eq_nil_or_concat' (s.strand i).marks
      · rw [Strand.queueMark_of_nil empty]
      · obtain apart | meets := Nat.lt_or_ge l.stop m.start
        · rw [Strand.queueMark_of_room last apart room]
        · rw [Strand.queueMark_of_meets last meets]
    · rw [Strand.queueMark_of_meets last meets]
  · rw [State.giveMark_of_behind s i m beyond, State.markApplied_markMerged]

end

/-! ### Press notices (R60, R61) -/

section
variable {s : State} {i : Fin 4}

theorem State.giveMark_sameWorld (s : State) (i : Fin 4) (m : Mark) : SameWorld s (s.giveMark i m) := by
  simp [SameWorld, SameHandler, SameHandling, SameLine, s.giveMark_lineGrows i m]

theorem State.takePress_sameWorld (k : PressKind) (s : State) (i : Fin 4) : SameWorld s (State.takePress k s i) := by
  simp [SameWorld, SameHandler, SameHandling, SameLine, s.takePress_lineGrows k i]

theorem State.issueAdvice_sameWorld (s : State) (i : Fin 4) (kind : AdviceKind) (cls : ConditionClass) (start stop : Nat) :
    SameWorld s (s.issueAdvice i kind cls start stop) := by
  simp [SameWorld, SameHandler, SameHandling, SameLine, s.issueAdvice_lineGrows i kind cls start stop]

theorem State.takePress_of_live (h : (s.strand i).state.live = true) :
    State.takePress .pressStop s i = s.pressStop i ∧ State.takePress .billetChange s i = s.billetChange i ∧
      State.takePress .pressRun s i =
        (s.modStrand i fun st => { st with counters.pressRunTaken := inc st.counters.pressRunTaken }) ∧
      State.takePress .runEnd s i =
        (s.modStrand i fun st => { st with counters.runEndTaken := inc st.counters.runEndTaken }).endRun i :=
  ⟨if_pos h, if_pos h, if_pos h, if_pos h⟩

/-- The state once BILLET_CHANGE is counted and its mark given (R61). -/
def State.billetMarked (s : State) (i : Fin 4) : State :=
  let counted := s.modStrand i fun a => { a with counters.billetChangeTaken := inc a.counters.billetChangeTaken }
  if (s.strand i).params.weldLength = 0 then counted
  else counted.giveMark i {
    kind := .weldZone, start := s.ell i + (s.strand i).params.planeOffset,
    stop := s.ell i + (s.strand i).params.planeOffset + (s.strand i).params.weldLength }

/-- A projection that giving a mark leaves as it is. -/
theorem BesideBack.billetMarked {α : Type} {proj : Strand → α} (h : BesideBack proj)
    (made : ∀ (st : Strand) n, proj { st with mapCounters.marksMade := n } = proj st)
    (queue : ∀ (st : Strand) marks n, proj { st with marks := marks, mapCounters.markMerged := n } = proj st) (s : State)
    (i : Fin 4) : proj ((s.billetMarked i).strand i) =
      proj { s.strand i with counters.billetChangeTaken := inc (s.strand i).counters.billetChangeTaken } := by
  unfold State.billetMarked
  dsimp only
  split
  · rw [State.strand_modStrand_same]
  · rw [h.giveMark made queue, State.strand_modStrand_same]

theorem State.billetMarked_counters (s : State) (i : Fin 4) : ((s.billetMarked i).strand i).counters =
    { (s.strand i).counters with billetChangeTaken := inc (s.strand i).counters.billetChangeTaken } :=
  BesideBack.billetMarked (proj := Strand.counters) ⟨fun _ _ _ _ _ _ _ => rfl, fun _ _ _ => rfl⟩ (fun _ _ => rfl)
    (fun _ _ _ => rfl) s i

theorem State.billetMarked_pendingSwitch (s : State) (i : Fin 4) :
    ((s.billetMarked i).strand i).pendingSwitch = (s.strand i).pendingSwitch :=
  BesideBack.billetMarked (proj := Strand.pendingSwitch) ⟨fun _ _ _ _ _ _ _ => rfl, fun _ _ _ => rfl⟩ (fun _ _ => rfl)
    (fun _ _ _ => rfl) s i

/-- Without a weld length no mark is given. -/
theorem State.billetMarked_of_none (h : (s.strand i).params.weldLength = 0) : s.billetMarked i =
    s.modStrand i fun a => { a with counters.billetChangeTaken := inc a.counters.billetChangeTaken } := if_pos h

theorem State.billetMarked_marksMade (h : (s.strand i).params.weldLength ≠ 0) :
    ((s.billetMarked i).strand i).mapCounters.marksMade = inc (s.strand i).mapCounters.marksMade := by
  have given := State.giveMark_marksMade
    (s.modStrand i fun a => { a with counters.billetChangeTaken := inc a.counters.billetChangeTaken }) i
    { kind := .weldZone, start := s.ell i + (s.strand i).params.planeOffset,
      stop := s.ell i + (s.strand i).params.planeOffset + (s.strand i).params.weldLength }
  rw [State.strand_modStrand_same] at given
  unfold State.billetMarked
  exact (congrArg (fun u : State => (u.strand i).mapCounters.marksMade) (if_neg h)).trans given

theorem Strand.fixSwitch_eq (st : Strand) (x : Nat) : st.fixSwitch x = { st with
    pendingSwitch := st.pendingSwitch.map fun p =>
      { p with switchLength := some (match p.switchLength with | some n => n | none => x) } } := by
  unfold Strand.fixSwitch
  split
  · next p hp =>
    obtain ⟨target, length⟩ := p
    rw [hp]
    cases length <;> rfl
  · next hp =>
    rw [hp]
    exact congrArg (fun o => { st with pendingSwitch := o }) hp

/-- BILLET_CHANGE fixes a pending switch once its mark is given. -/
theorem State.billetChange_eq (s : State) (i : Fin 4) : s.billetChange i =
    (s.billetMarked i).modStrand i fun a => { a with
      pendingSwitch := a.pendingSwitch.map fun p => { p with switchLength := some (match p.switchLength with
        | some n => n
        | none => s.ell i + (s.strand i).params.planeOffset) } } := by
  have flip {α : Type} (n : Nat) (a b : α) : (if 0 < n then a else b) = if n = 0 then b else a := by
    cases n <;> rfl
  unfold State.billetChange
  dsimp only
  rw [flip]
  exact State.modStrand_congr (Strand.fixSwitch_eq ..)

theorem endRun_counters (s : State) (i : Fin 4) : ((s.endRun i).strand i).counters = (s.strand i).counters := by
  have ends : BesideEnd Strand.counters := ⟨⟨fun _ _ _ _ => rfl, fun _ _ _ => rfl⟩, fun _ _ _ _ _ _ _ _ => rfl,
    fun _ _ _ _ _ _ => rfl, fun _ => rfl, fun _ _ => rfl⟩
  unfold State.endRun
  split
  · rw [ends.drainCheck (.inr fun _ => rfl), State.changeStrand_same]
  · rfl

end

/-- Settles O27: the kinds one by one, then a mark, then advice. -/
theorem pressNoticeTaken : Obligations.PressNoticeTaken := by
  refine ⟨fun s => ?_, fun s i => ?_, fun s i m => ?_, fun s i kind cls start stop => ?_⟩
  · intro taken
    refine ⟨rfl, rfl, rfl, rfl, fun code h => ?_⟩
    obtain ⟨n, rfl⟩ := Nat.exists_eq_add_of_le' h
    rfl
  · intro st x
    refine ⟨fun idle k => if_neg (by rw [idle]; decide), fun live => ?_⟩
    obtain ⟨stop, billet, run, ends⟩ := State.takePress_of_live live
    refine ⟨stop.trans ?_, ?_, run, ?_⟩
    · have length : max st.params.stopMarkLength 1 = if st.params.stopMarkLength = 0 then 1 else st.params.stopMarkLength := by
        split <;> omega
      rw [← length]
      rfl
    · have world := State.takePress_sameWorld .billetChange s i
      have frame : (State.takePress .billetChange s i).heads = s.heads ∧
          (State.takePress .billetChange s i).travel = s.travel ∧
          (State.takePress .billetChange s i).headPort = s.headPort := by
        rw [billet]
        simp [State.billetChange, apply_ite]
      have other : OtherStrands s (State.takePress .billetChange s i) i := fun j hj => s.takePress_other .billetChange hj
      rw [State.billetChange_eq] at billet
      have strand := congrArg (fun u : State => u.strand i) billet
      rw [State.strand_modStrand_same] at strand
      have counters := s.billetMarked_counters i
      have pending := s.billetMarked_pendingSwitch i
      have none (h : (s.strand i).params.weldLength = 0) := State.billetMarked_of_none (s := s) (i := i) h
      have weld (h : (s.strand i).params.weldLength ≠ 0) := State.billetMarked_marksMade h
      refine ⟨billet, fun p hp => ?_, fun hp => ?_, fun h => ?_, fun h => ?_, ?_, other, frame.1, frame.2.1, frame.2.2, world⟩
      · refine ⟨_, (congrArg Strand.pendingSwitch strand).trans (congrArg (Option.map _) (pending.trans hp)), rfl, ?_, ?_⟩
        · intro h
          dsimp only
          rw [h]
        · intro n h
          dsimp only
          rw [h]
      · exact (congrArg Strand.pendingSwitch strand).trans (congrArg (Option.map _) (pending.trans hp))
      · have bare := (congrArg (fun u : State => u.strand i) (none h)).trans (State.strand_modStrand_same ..)
        have marks := congrArg Strand.marks bare
        have runs := congrArg Strand.runs bare
        exact ⟨(congrArg Strand.marks strand).trans marks, (congrArg Strand.runs strand).trans runs⟩
      · exact (congrArg (fun a : Strand => a.mapCounters.marksMade) strand).trans (weld h)
      · exact (congrArg Strand.counters strand).trans counters
    · have world := State.takePress_sameWorld .runEnd s i
      have frame : (State.takePress .runEnd s i).travel = s.travel ∧ (State.takePress .runEnd s i).headPort = s.headPort := by
        simp
      have other : OtherStrands s (State.takePress .runEnd s i) i := fun j hj => s.takePress_other .runEnd hj
      have counters : ((State.takePress .runEnd s i).strand i).counters =
          { st.counters with runEndTaken := inc st.counters.runEndTaken } := by
        rw [ends, endRun_counters, State.strand_modStrand_same]
      have still : ((State.takePress .runEnd s i).strand i).state.live = false := by
        rw [ends]; exact State.endRun_not_live ..
      exact ⟨ends, still, counters, other, frame.1, frame.2, world⟩
  · intro st advised t
    have advice : s.issueAdvice i m.kind.advice m.kind.cls m.start m.stop = advised := by
      obtain ⟨kind, _, _⟩ := m
      cases kind <;> rfl
    have queue := State.giveMark_queue (s := s) (i := i) (m := m)
    have behind := State.giveMark_of_behind s i m
    have beyond := State.giveMark_of_beyond s i m
    refine ⟨s.giveMark_sameWorld i m, by simp [t], by simp [t], by simp [t], by simp [t],
      fun j hj => by simp [t, hj], s.giveMark_marksMade i m, ?_, ?_, ?_, ?_, ?_⟩
    · intro ahead
      rw [← advice]
      refine ⟨State.giveMark_linePort_ahead ahead,
        BesideBack.giveMark_ahead (proj := Strand.held) (fun _ _ => rfl) (fun _ _ _ => rfl) ahead, ?_, ?_⟩
      · exact (BesideBack.giveMark_ahead (proj := Strand.runs) (fun _ _ => rfl) (fun _ _ _ => rfl) ahead).trans
          (besideAdvice_runs.issueAdvice ..)
      · exact (BesideBack.giveMark_ahead (proj := Strand.settle) (fun _ _ => rfl) (fun _ _ _ => rfl) ahead).trans
          (besideAdvice_settle.issueAdvice ..)
    · have queued := Strand.queueMark_eq ((s.markApplied i m).strand i) m
      rw [← advice]
      refine (s.giveMark_eq i m).trans (ite_congr rfl (fun _ => rfl) fun h => ?_)
      have strand := congrArg (fun u : State => u.strand i) (beyond (Nat.not_le.mp h))
      rw [State.strand_modStrand_same] at strand
      rw [← strand] at queued
      exact State.modStrand_congr (strand.symm.trans queued)
    · intro h
      exact (congrArg (fun u : State => (u.strand i).marks) (behind h)).trans State.markApplied_marks
    · exact State.giveMark_markMerged
    · intro h
      obtain ⟨marks, merged⟩ := queue h
      refine ⟨fun empty => ?_, fun before l last => ⟨fun meets => ?_, fun apart room => ?_, fun apart full => ?_⟩⟩
      · exact marks.trans (congrArg Strand.marks (Strand.queueMark_of_nil empty m))
      · rw [← worseKind_eq]
        exact marks.trans (congrArg Strand.marks (Strand.queueMark_of_meets last meets))
      · exact marks.trans (congrArg Strand.marks (Strand.queueMark_of_room last apart room))
      · have whole := Strand.queueMark_of_full last apart full
        rw [← worseKind_eq]
        exact ⟨marks.trans (congrArg Strand.marks whole),
          merged.trans (congrArg (fun a : Strand => a.mapCounters.markMerged) whole)⟩
  · intro st margin lo a t issued
    have hi : (if lo < stop + margin then stop + margin else lo) = max lo (stop + margin) := by
      split <;> omega
    have advice : st.adviceFor i kind cls start stop = a :=
      congrArg (fun n => ({ strand := i, kind := kind, cls := cls, lo := lo, hi := n } : Advice)) hi
    have world := s.issueAdvice_sameWorld i kind cls start stop
    refine ⟨world, by simp [t], by simp [t], by simp [t], by simp [t], fun j hj => by simp [t, hj], fun room => ?_,
      fun full => ?_⟩
    · have whole : t = _ := State.issueAdvice_of_room kind cls start stop room
      rw [whole, State.strand_setStrand_same, advice]
      exact ⟨State.enqueueRecord_entered _ _, State.enqueueRecord_latest .., rfl⟩
    · have whole : t = _ := State.issueAdvice_of_full kind cls start stop full
      rw [whole, State.strand_setStrand_same, advice]
      exact ⟨rfl, fun room => Strand.holdAdvice_of_room a room, fun none => Strand.holdAdvice_of_full a none⟩

end Sys2Proof.Machine
end

section
/-! Proofs: what the laws of a strand read, and when the laws of one strand carry over to another (O7). -/

namespace Sys2Proof.Machine

/-! ### What the laws read -/

/-- What the laws of a strand, and its count of buffers, read: the strand with the other fields at their first values. -/
def Strand.core (st : Strand) : Strand :=
  { state := st.state, lastTriggered := st.lastTriggered, lastReleased := st.lastReleased, front := st.front,
    retired := st.retired, params := st.params, sets := st.sets, eval := st.eval, runs := st.runs, marks := st.marks,
    cuts := st.cuts, closed := st.closed, held := st.held }

/-- The laws that bound a strand by itself. -/
abbrev Strand.Bounded (st : Strand) : Prop := ListsFit st ∧ QuietLaw st ∧ MapLaw st

/-- The laws that place its slices and its runs. -/
abbrev Strand.Placed (st : Strand) : Prop := OrderLaw st ∧ CoverLaw st

/-- The laws of the first strand carry over to the second. -/
def Strand.Follows (a b : Strand) : Prop := a.Bounded → b.Bounded ∧ (SetLaw a → SetLaw b ∧ (a.Placed → b.Placed))

/-- The laws of the first strand carry over to the second, which holds no more buffers. -/
structure Strand.Keeps (a b : Strand) : Prop where
  laws : a.Follows b
  buffers : b.buffers ≤ a.buffers

/-- So for each strand of two states. -/
structure State.Keeps (s t : State) : Prop where
  strand : ∀ i, (s.strand i).Keeps (t.strand i)

section
variable {a b c : Strand}

theorem Strand.Follows.trans (h : a.Follows b) (k : b.Follows c) : a.Follows c := by
  intro bounded
  obtain ⟨boundedB, setsB⟩ := h bounded
  obtain ⟨boundedC, setsC⟩ := k boundedB
  refine ⟨boundedC, fun sets => ?_⟩
  obtain ⟨sets, placedB⟩ := setsB sets
  obtain ⟨sets, placedC⟩ := setsC sets
  exact ⟨sets, fun placed => placedC (placedB placed)⟩

theorem Strand.Keeps.trans (h : a.Keeps b) (k : b.Keeps c) : a.Keeps c :=
  ⟨h.laws.trans k.laws, k.buffers.trans h.buffers⟩

theorem Strand.Keeps.refl (a : Strand) : a.Keeps a := ⟨fun h => ⟨h, fun k => ⟨k, id⟩⟩, le_rfl⟩

/-- The laws read nothing but the core. -/
theorem Strand.Keeps.of_core (h : b.core = a.core) : a.Keeps b := by
  have kept : a.core.Keeps b.core := h ▸ Strand.Keeps.refl _
  exact ⟨kept.laws, kept.buffers⟩

theorem Strand.Keeps.core (hc : c.core = b.core) (h : a.Keeps b) : a.Keeps c := h.trans (.of_core hc)

end

section
variable {s t u : State}

theorem State.Keeps.trans (h : s.Keeps t) (k : t.Keeps u) : s.Keeps u := ⟨fun i => (h.strand i).trans (k.strand i)⟩

theorem State.Keeps.refl (s : State) : s.Keeps s := ⟨fun _ => .refl _⟩

/-- An operation that leaves the strands as they are. -/
theorem State.Keeps.of_strands (h : t.strands = s.strands) : s.Keeps t := by
  refine ⟨fun i => ?_⟩
  rw [State.strand_of_strands h i]
  exact .refl _

/-- An operation of one strand. -/
theorem State.Keeps.of_strand {i : Fin 4} (other : ∀ j, j ≠ i → t.strand j = s.strand j)
    (own : (s.strand i).Keeps (t.strand i)) : s.Keeps t := by
  refine ⟨fun j => ?_⟩
  by_cases hj : j = i
  · exact hj ▸ own
  · rw [other j hj]
    exact .refl _

theorem State.Keeps.modStrand {i : Fin 4} {f : Strand → Strand} (h : (s.strand i).Keeps (f (s.strand i))) :
    s.Keeps (s.modStrand i f) :=
  .of_strand (i := i) (fun _ hj => State.strand_modStrand_other _ _ hj) (by rwa [State.strand_modStrand_same])

/-- Operations that take the strands, or what is theirs, one after the other. -/
theorem State.Keeps.foldl {α : Type} {f : State → α → State} (h : ∀ s x, State.Keeps s (f s x)) :
    ∀ (l : List α) (s : State), s.Keeps (l.foldl f s)
  | [], s => .refl s
  | x :: l, s => (h s x).trans (State.Keeps.foldl h l (f s x))

end

/-! ### Changes of one part of a strand -/

section
variable {a b : Strand}

/-- The lists that no other law reads change within their capacities. -/
theorem Strand.Keeps.of_lists {marks : List Mark} {closed : List Piece} {held : List Advice}
    (core : b.core = ({ a with marks := marks, closed := closed, held := held } : Strand).core)
    (fits : ListsFit a → marks.length ≤ 4 ∧ closed.length ≤ 8 ∧ held.length ≤ 2) : a.Keeps b := by
  refine Strand.Keeps.core core ⟨fun ⟨lists, quiet, map⟩ => ?_, le_rfl⟩
  obtain ⟨hmarks, hclosed, hheld⟩ := fits lists
  obtain ⟨hsets, -, hcuts, -, -⟩ := lists
  exact ⟨⟨⟨hsets, hmarks, hcuts, hclosed, hheld⟩, quiet, map⟩, fun sets => ⟨sets, id⟩⟩

/-- The runs of a strand that is not CLOSED change and cover the same stretch. -/
theorem Strand.Keeps.of_runs {runs : List Run} (core : b.core = ({ a with runs := runs } : Strand).core)
    (hstate : a.state ≠ .closed) (map : MapLaw a → MapLaw { a with runs := runs })
    (cover : Tiles a.runs a.retired a.front → Tiles runs a.retired a.front) : a.Keeps b := by
  refine Strand.Keeps.core core ⟨fun ⟨lists, quiet, law⟩ => ⟨⟨lists, quiet, map law⟩, fun sets => ⟨sets, ?_⟩⟩,
    le_rfl⟩
  rintro ⟨order, tiles, pitch, front, -, idle, cuts⟩
  exact ⟨order, cover tiles, pitch, front, fun h => absurd h hstate, idle, cuts⟩

/-- The state of a strand changes between states that are neither IDLE nor CLOSED. -/
theorem Strand.Keeps.of_state {x : StrandState} (core : b.core = ({ a with state := x } : Strand).core)
    (hidle : x ≠ .idle) (hclosed : x ≠ .closed) (hstate : a.state ≠ .closed) : a.Keeps b := by
  refine Strand.Keeps.core core ⟨fun ⟨lists, _, law⟩ => ⟨⟨lists, ?_, law.1, fun _ => law.2 hstate⟩,
    fun sets => ⟨sets, ?_⟩⟩, le_rfl⟩
  · rintro (h | h)
    · exact absurd h hidle
    · exact absurd h hclosed
  · rintro ⟨order, tiles, pitch, front, -, -, cuts⟩
    exact ⟨order, tiles, pitch, fun _ => front hstate, fun h => absurd h hclosed, fun h => absurd h hidle, cuts⟩

/-- A CLOSED strand without runs and cuts becomes IDLE (R50, R55). -/
theorem Strand.Keeps.of_done (h : a.Done) (core : b.core = ({ a.clearRuntime with state := .idle } : Strand).core) :
    a.Keeps b := by
  refine Strand.Keeps.core core ⟨fun ⟨lists, quiet, _⟩ => ?_, le_rfl⟩
  obtain ⟨hstate, -, hcuts⟩ := h
  obtain ⟨hsets, -, hlength, hclosed, hheld⟩ := lists
  obtain ⟨sets, eval⟩ := quiet (.inr hstate)
  refine ⟨⟨⟨hsets, Nat.zero_le _, hlength, hclosed, hheld⟩, fun _ => ⟨sets, eval⟩, Nat.zero_le _, fun _ => .inl rfl⟩,
    fun _ => ⟨⟨?_, ?_⟩, ?_⟩⟩
  · exact sets ▸ List.Pairwise.nil
  · exact sets ▸ nofun
  · rintro ⟨-, -, pitch, -⟩
    refine ⟨⟨le_rfl, ?_, ?_⟩, rfl, pitch, fun _ => (Nat.zero_mul _).symm, nofun, fun _ => ⟨rfl, rfl, rfl, hcuts⟩, ?_, ?_⟩
    · exact sets ▸ nofun
    · intro ev hev
      exact absurd (eval.symm.trans hev) nofun
    · exact hcuts ▸ List.Pairwise.nil
    · exact hcuts ▸ nofun

end

end Sys2Proof.Machine
end

section
/-! Proofs: advice and marks keep the laws of a strand (O7). -/

namespace Sys2Proof.Machine

section
variable {s : State} {i : Fin 4}

/-! ### Advice (R149) -/

/-- Held advice stays within the list of 2. -/
theorem Strand.holdAdvice_held {st : Strand} (a : Advice) (fits : st.held.length ≤ 2) : (st.holdAdvice a).held.length ≤ 2 := by
  obtain room | full := Nat.lt_or_ge st.held.length 2
  · rw [Strand.holdAdvice_of_room a room]
    exact List.length_append.trans_le (Nat.succ_le_of_lt room)
  · rw [Strand.holdAdvice_of_full a full]
    dsimp only
    rw [List.length_append, List.length_tail, List.length_singleton]
    omega

theorem Strand.holdAdvice_keepsLaws (st : Strand) (a : Advice) : st.Keeps (st.holdAdvice a) := by
  refine .of_lists (marks := st.marks) (closed := st.closed) (held := (st.holdAdvice a).held) ?_
    fun ⟨_, marks, _, closed, held⟩ => ⟨marks, closed, Strand.holdAdvice_held a held⟩
  unfold Strand.holdAdvice
  split <;> rfl

theorem State.issueAdvice_keepsLaws (s : State) (i : Fin 4) (kind : AdviceKind) (cls : ConditionClass) (start stop : Nat) :
    s.Keeps (s.issueAdvice i kind cls start stop) := by
  refine .of_strand (i := i) (fun j hj => by simp [hj]) ?_
  obtain room | full := Nat.lt_or_ge s.linePort.own.length 32
  · rw [State.issueAdvice_of_room _ _ _ _ room, State.strand_setStrand_same]
    exact .of_core rfl
  · rw [State.issueAdvice_of_full _ _ _ _ full, State.strand_setStrand_same]
    refine Strand.Keeps.trans (.of_core ?_) (Strand.holdAdvice_keepsLaws _ _)
    rfl

theorem State.adviseRun_keepsLaws (s : State) (i : Fin 4) (r : Run) : s.Keeps (s.adviseRun i r) := by
  unfold State.adviseRun
  split
  · exact s.issueAdvice_keepsLaws ..
  · exact .refl s

/-! ### Marks (R127 to R131) -/

/-- A mark joins the queue of 4. -/
theorem Strand.queueMark_keepsLaws (st : Strand) (m : Mark) : st.Keeps (st.queueMark m) := by
  refine .of_lists (marks := (st.queueMark m).marks) (closed := st.closed) (held := st.held)
    (by rw [Strand.queueMark_eq]; rfl) fun fits => ?_
  obtain ⟨-, marks, -, closed, held⟩ := fits
  refine ⟨?_, closed, held⟩
  obtain empty | ⟨before, l, last⟩ := List.eq_nil_or_concat' st.marks
  · rw [Strand.queueMark_of_nil empty]
    exact Nat.le_add_left 1 3
  · have widened (x : Mark) : (before ++ [x]).length = st.marks.length := by simp [last]
    obtain apart | meets := Nat.lt_or_ge l.stop m.start
    · obtain room | full := Nat.lt_or_ge st.marks.length 4
      · rw [Strand.queueMark_of_room last apart room]
        simpa using Nat.succ_le_of_lt room
      · rw [Strand.queueMark_of_full last apart full]
        exact (widened _).trans_le marks
    · rw [Strand.queueMark_of_meets last meets]
      exact (widened _).trans_le marks

/-- The last part of an open run that a mark splits is open. -/
theorem Run.laterParts_open {r : Run} (h : r.isOpen = true) (kind : MarkKind) (pitch : Nat) :
    ∀ parts : List Part, parts ≠ [] → ∃ before x, r.laterParts kind pitch parts = before ++ [x] ∧ x.isOpen = true
  | [p], _ => by
    refine ⟨[], _, rfl, ?_⟩
    rw [if_pos ⟨h, rfl⟩]
    rfl
  | p :: q :: ps, _ => by
    obtain ⟨before, x, later, hx⟩ := Run.laterParts_open h kind pitch (q :: ps) (List.cons_ne_nil _ _)
    exact ⟨_ :: before, x, by rw [Run.laterParts, later, List.cons_append], hx⟩

theorem Run.splitBy_open {r : Run} (h : r.isOpen = true) (kind : MarkKind) (region : Nat × Nat) (front pitch : Nat) :
    ∃ before x, r.splitBy kind region front pitch = before ++ [x] ∧ x.isOpen = true := by
  unfold Run.splitBy
  split
  · cases partsOf r.start (r.stopAt front) region with
    | nil => exact ⟨[], r, rfl, h⟩
    | cons p ps =>
      cases ps with
      | nil =>
        refine ⟨[], _, rfl, ?_⟩
        rw [if_pos ⟨h, rfl⟩]
        exact h
      | cons q ps =>
        obtain ⟨before, x, later, hx⟩ := Run.laterParts_open h kind pitch (q :: ps) (List.cons_ne_nil _ _)
        exact ⟨_ :: before, x, by rw [Run.splitInto, later, List.cons_append], hx⟩
  · exact ⟨[], r, rfl, h⟩

/-- An empty map, or one that ends with an open run. -/
theorem Strand.mapOpen_iff (st : Strand) : (st.runs = [] ∨ st.openRun.isSome = true) ↔
    st.runs = [] ∨ ∃ before r, st.runs = before ++ [r] ∧ r.isOpen = true := by
  refine or_congr_right ⟨fun h => ?_, fun ⟨before, r, runs, h⟩ => ?_⟩
  · obtain ⟨r, hr⟩ := Option.isSome_iff_exists.mp h
    obtain ⟨before, runs, hopen⟩ := Strand.openRun_eq_some hr
    exact ⟨before, r, runs, hopen⟩
  · rw [Strand.openRun_of_last runs h]
    rfl

/-- A mark that splits runs leaves the last one open. -/
theorem Strand.splitByMark_keepsLaws {st : Strand} (m : Mark) (hstate : st.state ≠ .closed)
    (hab : (st.markRegion m).1 < (st.markRegion m).2) (room : (st.markedRuns m).length ≤ 96) :
    st.Keeps (Strand.splitByMark m st) := by
  refine .of_runs (runs := st.markedRuns m) rfl hstate (fun ⟨_, law⟩ => ⟨room, fun h => ?_⟩) fun tiles =>
    (Tiles.splitBy m.kind st.params.pitch hab tiles).1
  refine (Strand.mapOpen_iff _).mpr ?_
  obtain empty | ⟨before, r, runs, hopen⟩ := (Strand.mapOpen_iff st).mp (law h)
  · exact .inl (by simp [Strand.markedRuns, empty])
  · obtain ⟨parts, x, split, hx⟩ := Run.splitBy_open hopen m.kind (st.markRegion m) st.front st.params.pitch
    refine .inr ⟨before.flatMap (fun r => r.splitBy m.kind (st.markRegion m) st.front st.params.pitch) ++ parts, x, ?_, hx⟩
    change st.markedRuns m = _
    rw [Strand.markedRuns, runs, List.flatMap_append, List.flatMap_singleton, split, ← List.append_assoc]

/-- Runs that keep their places cover what they covered. -/
theorem Tiles.map {f : Run → Run} (hf : ∀ r, (f r).start = r.start ∧ (f r).body = r.body) {front : Nat} :
    ∀ {runs : List Run} {start : Nat}, Tiles runs start front → Tiles (runs.map f) start front
  | [], _, h => h
  | r :: rs, start, ⟨first, lt, rest⟩ => by
    obtain ⟨hstart, hbody⟩ := hf r
    have stop : (f r).stopAt front = r.stopAt front := by rw [Run.stopAt, Run.stopAt, Run.stop?, Run.stop?, hbody]
    exact ⟨hstart.trans first, stop ▸ lt, stop ▸ Tiles.map hf rest⟩

/-- A run as a mark that does not fit leaves it (R131). -/
def Strand.raisedRun (st : Strand) (m : Mark) (r : Run) : Run :=
  if r.raisedBy m.kind (st.markRegion m) st.front then r.raiseWhole m.kind else r

theorem Strand.raisedRuns_eq (st : Strand) (m : Mark) : st.raisedRuns m = st.runs.map (st.raisedRun m) := rfl

theorem Strand.raisedRun_place (st : Strand) (m : Mark) (r : Run) :
    (st.raisedRun m r).start = r.start ∧ (st.raisedRun m r).body = r.body := by
  unfold Strand.raisedRun
  split <;> exact ⟨rfl, rfl⟩

/-- A mark that raises runs whole leaves their places and which of them is open. -/
theorem Strand.raiseByMark_keepsLaws {st : Strand} (m : Mark) (hstate : st.state ≠ .closed) :
    st.Keeps (Strand.raiseByMark m st) := by
  have place := st.raisedRun_place m
  refine .of_runs (runs := st.raisedRuns m) rfl hstate (fun ⟨fits, law⟩ => ⟨?_, fun h => ?_⟩) (Tiles.map place)
  · exact (List.length_map _).trans_le fits
  · refine (Strand.mapOpen_iff _).mpr ?_
    obtain empty | ⟨before, r, runs, hopen⟩ := (Strand.mapOpen_iff st).mp (law h)
    · exact .inl (by simp [Strand.raisedRuns, empty])
    · refine .inr ⟨before.map (st.raisedRun m), st.raisedRun m r, ?_, ?_⟩
      · change st.raisedRuns m = _
        rw [Strand.raisedRuns_eq, runs, List.map_append, List.map_singleton]
      · rw [Run.isOpen, Run.stop?, (place r).2]
        exact hopen

/-- A mark behind the front changes classes and splits runs, and nothing else (R130, R131). -/
theorem State.applyBack_keepsLaws (m : Mark) (hstate : (s.strand i).state ≠ .closed) : s.Keeps (s.applyBack i m) := by
  obtain hab | empty := Nat.lt_or_ge ((s.strand i).markRegion m).1 ((s.strand i).markRegion m).2
  · obtain full | room := Nat.lt_or_ge 96 ((s.strand i).markedRuns m).length
    · refine .of_strand (i := i) (fun j hj => s.applyBack_other m hj) ?_
      rw [State.applyBack_full_raised hab full]
      exact Strand.raiseByMark_keepsLaws m hstate
    · rw [State.applyBack_of_room hab room]
      exact (State.Keeps.modStrand (Strand.splitByMark_keepsLaws m hstate hab room)).trans
        (.foldl (fun t r => t.adviseRun_keepsLaws i r) _ _)
  · rw [State.applyBack_of_empty empty]
    exact .modStrand (.of_core rfl)

theorem State.giveMark_keepsLaws (m : Mark) (hstate : (s.strand i).state ≠ .closed) : s.Keeps (s.giveMark i m) := by
  have given : s.Keeps (s.markGiven i m) := (s.issueAdvice_keepsLaws ..).trans (.modStrand (.of_core rfl))
  have applied : s.Keeps (s.markApplied i m) := by
    unfold State.markApplied
    split
    · refine given.trans (State.applyBack_keepsLaws m ?_)
      have state : ((s.issueAdvice i m.kind.advice m.kind.cls m.start m.stop).strand i).state = (s.strand i).state :=
        BesideAdvice.issueAdvice (proj := Strand.state) (fun _ _ _ => rfl) ..
      rw [State.markGiven, State.strand_modStrand_same]
      exact fun h => hstate (state.symm.trans h)
    · exact given
  rw [State.giveMark_eq]
  split
  · exact applied
  · exact applied.trans (.modStrand (Strand.queueMark_keepsLaws ..))

end

end Sys2Proof.Machine
end

section
/-! Proofs: cuts and pieces keep the laws of a strand (O7). -/

namespace Sys2Proof.Machine

/-! ### What stays of the map (R141) -/

section
variable {x front pitch : Nat}

/-- A cut leaves the runs beyond it, or the rest of the run that it splits and the runs beyond that. -/
theorem takeRuns_stays (x front pitch : Nat) : ∀ runs : List Run, (takeRuns x front pitch runs).2 = [] ∨
    ∃ before r after r', runs = before ++ r :: after ∧ (takeRuns x front pitch runs).2 = r' :: after ∧
      (r' = r ∨ r' = r.remainder x front pitch)
  | [] => .inl rfl
  | r :: rs => by
    obtain whole | beyond := Nat.lt_or_ge x (r.stopAt front)
    · obtain start | start := Nat.lt_or_ge r.start x
      · exact .inr ⟨[], r, rs, _, rfl, congrArg Prod.snd (takeRuns_of_across start whole), .inr rfl⟩
      · exact .inr ⟨[], r, rs, _, rfl, congrArg Prod.snd (takeRuns_of_beyond start whole), .inl rfl⟩
    · rw [takeRuns_of_whole beyond]
      obtain nothing | ⟨before, r', after, y, runs, stays, hy⟩ := takeRuns_stays x front pitch rs
      · exact .inl nothing
      · exact .inr ⟨r :: before, r', after, y, by rw [runs, List.cons_append], stays, hy⟩

theorem Run.remainder_isOpen (r : Run) (x front pitch : Nat) : (r.remainder x front pitch).isOpen = r.isOpen := by
  obtain ⟨_, body, _, _, _, _, _, _⟩ := r
  cases body <;> rfl

theorem takeRuns_length (x front pitch : Nat) (runs : List Run) : (takeRuns x front pitch runs).2.length ≤ runs.length := by
  obtain nothing | ⟨before, r, after, y, split, stays, -⟩ := takeRuns_stays x front pitch runs
  · rw [nothing]
    exact Nat.zero_le _
  · rw [stays, split, List.length_append]
    exact Nat.le_add_left _ _

/-- Where every run is closed, what stays is closed. -/
theorem takeRuns_closed {runs : List Run} (h : ∀ r ∈ runs, r.isOpen = false) :
    ∀ r ∈ (takeRuns x front pitch runs).2, r.isOpen = false := by
  obtain nothing | ⟨before, r, after, y, split, stays, hy⟩ := takeRuns_stays x front pitch runs
  · rw [nothing]
    exact fun _ h => absurd h List.not_mem_nil
  · have rest : y.isOpen = false := by
      have first : r.isOpen = false := h r (by simp [split])
      obtain rfl | rfl := hy
      · exact first
      · rwa [Run.remainder_isOpen]
    rw [stays]
    intro z hz
    obtain rfl | hz := List.mem_cons.mp hz
    · exact rest
    · exact h z (by simp [split, hz])

/-- What stays of a map that ends with an open run ends with it, or with its rest. -/
theorem takeRuns_open {before : List Run} {r : Run} (h : r.isOpen = true) :
    (takeRuns x front pitch (before ++ [r])).2 = [] ∨
      ∃ stays y, (takeRuns x front pitch (before ++ [r])).2 = stays ++ [y] ∧ y.isOpen = true := by
  obtain nothing | ⟨first, r', after, y, split, stays, hy⟩ := takeRuns_stays x front pitch (before ++ [r])
  · exact .inl nothing
  · refine .inr ?_
    rw [stays]
    obtain rfl | ⟨middle, last, rfl⟩ := List.eq_nil_or_concat' after
    · obtain ⟨-, same⟩ := List.append_inj' split rfl
      obtain rfl : r = r' := List.singleton_inj.mp same
      refine ⟨[], y, rfl, ?_⟩
      obtain rfl | rfl := hy
      · exact h
      · rwa [Run.remainder_isOpen]
    · have same : before ++ [r] = (first ++ r' :: middle) ++ [last] := by simpa using split
      obtain rfl : r = last := List.singleton_inj.mp (List.append_inj' same rfl).2
      exact ⟨y :: middle, r, rfl, h⟩

end

section
variable {s : State} {i : Fin 4}

/-! ### The tail (R142) -/

/-- A tail that does not fit is one run, and at a full list joins the last one. -/
theorem State.addTail_length (x : Nat) (fits : (s.strand i).runs.length ≤ 96) :
    ((s.addTail i x).strand i).runs.length ≤ 96 := by
  obtain full | room := Nat.lt_or_ge 96 ((s.strand i).runs.length + ((s.strand i).tailRuns x).length)
  · obtain space | nothing := Nat.lt_or_ge (s.strand i).runs.length 96
    · rw [State.addTail_of_one full space, State.mergeTail_runs, List.length_append]
      exact Nat.succ_le_of_lt space
    · obtain ⟨before, r, runs⟩ := exists_last_run nothing
      rw [State.addTail_of_full full nothing runs, State.mergeTail_runs, List.length_append]
      rw [runs, List.length_append] at fits
      exact fits
  · rw [State.addTail_runs_of_room room, List.length_append]
    exact room

theorem State.tailed_length (cut : Cut) (fits : (s.strand i).runs.length ≤ 96) :
    ((s.tailed i cut).strand i).runs.length ≤ 96 := by
  unfold State.tailed
  split
  · exact State.addTail_length _ fits
  · exact fits

/-- A cut at or behind the front needs no tail. -/
theorem State.tailed_of_behind {cut : Cut} (h : cut.position ≤ (s.strand i).front) : s.tailed i cut = s :=
  if_neg (Nat.not_lt.mpr h)

theorem State.tailed_of_beyond {cut : Cut} (h : (s.strand i).front < cut.position) :
    s.tailed i cut = s.addTail i cut.position := if_pos h

/-! ### A cut that closes (R140, R141) -/

variable {cut : Cut} {rest : List Cut}

/-- What a closing cut leaves as it is, but for the map, the lists and the front. -/
theorem State.cutStrand_core : (s.cutStrand i cut).core = ({ s.strand i with
    front := (s.cutStrand i cut).front, marks := (s.cutStrand i cut).marks, runs := (s.cutStrand i cut).runs,
    retired := cut.position, closed := (s.cutStrand i cut).closed, cuts := (s.strand i).cuts.drop 1 } : Strand).core := by
  have form : s.cutStrand i cut = { ((s.tailed i cut).strand i).closePiece i cut (decide ((s.strand i).front < cut.position))
    with closed := (s.cutStrand i cut).closed, cuts := ((s.tailed i cut).strand i).cuts.drop 1 } := rfl
  generalize s.cutStrand i cut = st at form
  generalize st.closed = closed at form
  obtain beyond | behind := Nat.lt_or_ge (s.strand i).front cut.position
  · obtain ⟨runs, merged, strand⟩ := s.addTail_strand i cut.position
    rw [State.tailed_of_beyond beyond, strand] at form
    rw [form]
    rfl
  · rw [State.tailed_of_behind behind] at form
    rw [form]
    rfl

theorem State.cutStrand_marks_length : (s.cutStrand i cut).marks.length ≤ (s.strand i).marks.length := by
  change ((s.tailed i cut).strand i).marks.length ≤ _
  obtain beyond | behind := Nat.lt_or_ge (s.strand i).front cut.position
  · rw [State.tailed_of_beyond beyond, (s.addTail_moves i cut.position).2.1]
    exact List.length_filter_le _ _
  · rw [State.tailed_of_behind behind]

theorem State.cutStrand_closed_length (space : (s.strand i).closed.length < 8) : (s.cutStrand i cut).closed.length ≤ 8 := by
  rw [State.cutStrand_closed]
  split
  · exact Nat.zero_le _
  · rw [List.length_append]
    exact space

/-- A cut behind the front leaves the front and takes its runs from the map. -/
theorem State.cutStrand_of_behind (behind : cut.position ≤ (s.strand i).front) :
    (s.cutStrand i cut).front = (s.strand i).front ∧ (s.cutStrand i cut).runs =
      (takeRuns cut.position (s.strand i).front (s.strand i).params.pitch (s.strand i).runs).2 := by
  rw [State.cutStrand_runs, State.cutSplit]
  change ((s.tailed i cut).strand i).front = _ ∧ _
  rw [State.tailed_of_behind behind]
  exact ⟨rfl, rfl⟩

/-- A cut that closes over a tail leaves an empty map, with the front at the cut. -/
theorem State.cutStrand_of_beyond (beyond : (s.strand i).front < cut.position)
    (ended : ∀ r ∈ (s.strand i).runs, r.isOpen = false)
    (cover : Tiles (s.strand i).runs (s.strand i).retired (s.strand i).front) :
    (s.cutStrand i cut).front = cut.position ∧ (s.cutStrand i cut).runs = [] := by
  have tiles : Tiles ((s.addTail i cut.position).strand i).runs (s.strand i).retired cut.position := by
    with_reducible exact State.addTail_tiles beyond ended cover
  have front := (s.addTail_moves i cut.position).1
  have start := cover.le.trans beyond.le
  have whole := State.cutStrand_runs s i cut
  have moved : (s.cutStrand i cut).front = ((s.tailed i cut).strand i).front := rfl
  rw [State.cutSplit, State.tailed_of_beyond beyond, front] at whole
  rw [State.tailed_of_beyond beyond, front] at moved
  generalize ((s.addTail i cut.position).strand i).runs = runs at whole tiles
  have stays := (Tiles.takeRuns (s.strand i).params.pitch le_rfl tiles start).2.eq_nil
  exact ⟨moved, whole.trans stays⟩

/-- A cut that closes leaves the cover of what lies beyond it. -/
theorem State.cutStrand_cover (place : cut.position ≤ (s.strand i).front ∨ (s.strand i).state = .closed)
    (cover : Tiles (s.strand i).runs (s.strand i).retired (s.strand i).front)
    (shut : (s.strand i).state = .closed → ∀ r ∈ (s.strand i).runs, r.isOpen = false)
    (start : (s.strand i).retired ≤ cut.position) :
    Tiles (s.cutStrand i cut).runs cut.position (s.cutStrand i cut).front ∧
      ((s.strand i).state = .closed → ∀ r ∈ (s.cutStrand i cut).runs, r.isOpen = false) ∧
      ((s.strand i).state ≠ .closed → (s.cutStrand i cut).front = (s.strand i).front) := by
  obtain beyond | behind := Nat.lt_or_ge (s.strand i).front cut.position
  · have ended := place.resolve_left (Nat.not_le.mpr beyond)
    obtain ⟨front, runs⟩ := State.cutStrand_of_beyond beyond (shut ended) cover
    rw [front, runs]
    exact ⟨rfl, fun _ _ h => absurd h List.not_mem_nil, fun h => absurd ended h⟩
  · obtain ⟨front, runs⟩ := State.cutStrand_of_behind behind
    rw [front, runs]
    exact ⟨(Tiles.takeRuns _ behind cover start).2, fun h => takeRuns_closed (shut h), fun _ => rfl⟩

/-- A cut that closes keeps the laws of its strand. -/
theorem State.cutStrand_keepsLaws (hcuts : (s.strand i).cuts = cut :: rest) (can : (s.strand i).canClose cut = true) :
    (s.strand i).Keeps (s.cutStrand i cut) := by
  obtain ⟨space, place⟩ := Strand.canClose_iff.mp can
  refine Strand.Keeps.core State.cutStrand_core ⟨fun ⟨lists, quiet, fits, map⟩ => ⟨⟨?_, quiet, ?_, fun hstate => ?_⟩,
    fun sets => ⟨sets, fun ⟨order, tiles, pitch, front, shut, still, rising, beyond⟩ => ⟨order, ?_⟩⟩⟩, le_rfl⟩
  · obtain ⟨hsets, hmarks, hlength, -, hheld⟩ := lists
    exact ⟨hsets, State.cutStrand_marks_length.trans hmarks, (List.length_drop.trans_le (Nat.sub_le _ _)).trans hlength,
      State.cutStrand_closed_length space, hheld⟩
  · exact (s.cutStrand_runs i cut).symm ▸ (takeRuns_length ..).trans (State.tailed_length cut fits)
  · have behind := place.resolve_right hstate
    refine (Strand.mapOpen_iff _).mpr ?_
    change (s.cutStrand i cut).runs = [] ∨ ∃ before r, (s.cutStrand i cut).runs = before ++ [r] ∧ _
    rw [(State.cutStrand_of_behind behind).2]
    obtain empty | ⟨before, r, runs, hopen⟩ := (Strand.mapOpen_iff _).mp (map hstate)
    · exact .inl (by rw [empty]; rfl)
    · rw [runs]
      exact takeRuns_open hopen
  · obtain ⟨cover, shutAfter, frontAfter⟩ := State.cutStrand_cover place tiles shut
      (Nat.le_of_lt (beyond cut (hcuts ▸ List.mem_cons_self)))
    rw [hcuts] at rising
    obtain ⟨first, rising⟩ := List.pairwise_cons.mp rising
    refine ⟨cover, pitch, fun h => (frontAfter h).trans (front h), shutAfter, fun h => ?_, ?_, ?_⟩
    · exact absurd (hcuts.symm.trans (still h).2.2.2) (List.cons_ne_nil _ _)
    · exact hcuts ▸ rising
    · exact hcuts ▸ first

/-- A cut closes, and a CLOSED strand that has then no run and no cut is IDLE. -/
theorem State.closeCut_keepsLaws (hcuts : (s.strand i).cuts = cut :: rest) (can : (s.strand i).canClose cut = true) :
    s.Keeps (s.closeCut i cut) := by
  refine .of_strand (i := i) (fun j hj => s.closeCut_other cut hj) ?_
  rw [State.closeCut_strand]
  split
  · next done => exact (State.cutStrand_keepsLaws hcuts can).trans (.of_done done rfl)
  · exact State.cutStrand_keepsLaws hcuts can

theorem State.idleCheck_keepsLaws (s : State) (i : Fin 4) : s.Keeps (s.idleCheck i) := by
  by_cases done : (s.strand i).Done
  · refine .of_strand (i := i) (fun j hj => by simp [hj]) (.of_done done ?_)
    rw [State.idleCheck_of_done done, State.raise_strand, State.strand_modStrand_same]
  · rw [State.idleCheck_of_not_done done]
    exact .refl s

/-- The close check keeps the laws, cut by cut. -/
theorem State.closeCheck_keepsLaws (s : State) (i : Fin 4) : s.Keeps (s.closeCheck i) := by
  suffices ∀ n (t : State), t.Keeps (t.closeCuts i n) from this _ s
  intro n
  induction n with
  | zero => exact .refl
  | succ n ih =>
    intro t
    unfold State.closeCuts
    split
    · exact .refl t
    · next cut rest hcuts =>
      split
      · next can => exact (State.closeCut_keepsLaws hcuts can).trans (ih _)
      · exact .refl t

end

end Sys2Proof.Machine
end

section
/-! Proofs: cut notices, freed entries and the end of a run keep the laws of a strand (O7). -/

namespace Sys2Proof.Machine

/-- What leaves the strands as they are adds nothing. -/
theorem State.Keeps.same {s t u : State} (k : s.Keeps t) (h : u.strands = t.strands) : s.Keeps u := k.trans (.of_strands h)

section
variable {s : State} {i : Fin 4}

/-! ### Cut notices (R138, R139) -/

/-- An accepted cut joins the list of 4 behind the last one. -/
theorem Strand.acceptCut_keepsLaws {st : Strand} {x : Nat} (hidle : st.state ≠ .idle) (ahead : ¬st.isBackward x = true)
    (room : st.cuts.length < 4) : st.Keeps (st.acceptCut x) := by
  obtain ⟨start, last⟩ := not_or.mp (fun h => ahead ((Strand.isBackward_iff x st).mpr h))
  refine ⟨fun ⟨lists, quiet, map⟩ => ⟨⟨?_, quiet, map⟩, fun sets => ⟨sets, ?_⟩⟩, le_rfl⟩
  · obtain ⟨hsets, hmarks, -, hclosed, hheld⟩ := lists
    exact ⟨hsets, hmarks, List.length_append.trans_le room, hclosed, hheld⟩
  · rintro ⟨order, tiles, pitch, front, shut, -, rising, beyond⟩
    refine ⟨order, tiles, pitch, front, shut, fun h => absurd h hidle, ?_, fun c hc => ?_⟩
    · refine List.pairwise_append.mpr ⟨rising, List.pairwise_singleton _ _, fun c hc d hd => ?_⟩
      obtain rfl := List.mem_singleton.mp hd
      obtain empty | ⟨before, l, cuts⟩ := List.eq_nil_or_concat' st.cuts
      · exact absurd (empty ▸ hc) List.not_mem_nil
      · have beyond : l.position < x := Nat.not_le.mp fun h => last ⟨before, l, cuts, h⟩
        have rising : (before ++ [l]).Pairwise (fun c d => c.position < d.position) := cuts ▸ rising
        obtain hc | hc := List.mem_append.mp (cuts ▸ hc : c ∈ before ++ [l])
        · exact ((List.pairwise_append.mp rising).2.2 c hc l List.mem_cons_self).trans beyond
        · exact List.mem_singleton.mp hc ▸ beyond
    · obtain hc | hc := List.mem_append.mp hc
      · exact beyond c hc
      · exact List.mem_singleton.mp hc ▸ Nat.not_le.mp start

theorem State.cutNotice_keepsLaws (s : State) (n x : Nat) : s.Keeps (s.cutNotice n x) := by
  unfold State.cutNotice
  split
  · exact .of_strands rfl
  · next i _ =>
    dsimp only
    split
    · exact .modStrand (.of_core rfl)
    · next hidle =>
      split
      · exact .modStrand (.of_core rfl)
      · next ahead =>
        split
        · refine .same (.modStrand (i := i) (.of_core ?_)) (State.raise_frame ..).2.2.2.2.2.2.2.1
          rfl
        · next room =>
          have accepted := Strand.acceptCut_keepsLaws hidle ahead (Nat.not_le.mp room)
          exact (State.Keeps.modStrand accepted).trans (State.closeCheck_keepsLaws _ i)

/-! ### Freed entries (R16) -/

theorem State.giveToAdvice_keepsLaws (s : State) (i : Fin 4) (a : Advice) : s.Keeps (s.giveToAdvice i a) := by
  have dropped : (s.strand i).Keeps { s.strand i with held := (s.strand i).held.drop 1 } := by
    refine .of_lists (marks := (s.strand i).marks) (closed := (s.strand i).closed) (held := (s.strand i).held.drop 1) rfl
      fun ⟨_, marks, _, closed, held⟩ => ⟨marks, closed, ?_⟩
    exact List.length_drop.trans_le ((Nat.sub_le _ _).trans held)
  unfold State.giveToAdvice
  refine .same (.modStrand (f := fun st => { st with held := st.held.drop 1 }) dropped) ?_
  simp

theorem State.giveToPiece_keepsLaws (s : State) (i : Fin 4) (p : Piece) : s.Keeps (s.giveToPiece i p) := by
  have dropped : (s.strand i).Keeps { s.strand i with closed := (s.strand i).closed.drop 1 } := by
    refine .of_lists (marks := (s.strand i).marks) (closed := (s.strand i).closed.drop 1) (held := (s.strand i).held) rfl
      fun ⟨_, marks, _, closed, held⟩ => ⟨marks, ?_, held⟩
    exact List.length_drop.trans_le ((Nat.sub_le _ _).trans closed)
  unfold State.giveToPiece
  refine .trans (.same (.modStrand (f := fun st => { st with closed := st.closed.drop 1 }) dropped) ?_)
    (State.closeCheck_keepsLaws _ i)
  simp

theorem State.arbitrate_keepsLaws (s : State) : s.Keeps s.arbitrate := by
  unfold State.arbitrate
  split
  · exact .of_strands (by simp [State.giveToReply])
  · split
    · exact s.giveToAdvice_keepsLaws ..
    · split
      · exact s.giveToPiece_keepsLaws ..
      · exact .refl s

theorem State.transmitted_keepsLaws (s : State) (port : Port) : s.Keeps (s.transmitted port) := by
  cases port with
  | head =>
    unfold State.transmitted
    dsimp only
    split <;> exact .of_strands rfl
  | line =>
    unfold State.transmitted
    dsimp only
    split
    · unfold State.lineSent
      dsimp only
      split
      · exact .of_strands rfl
      · unfold State.selectLine
        dsimp only
        split
        · refine .trans (.of_strands ?_) (State.arbitrate_keepsLaws _)
          rfl
        · exact .of_strands rfl
    · exact .refl s

end

end Sys2Proof.Machine
end

section
/-! Proofs: the end of a run keeps the laws of a strand (O7, R54, R55). -/

namespace Sys2Proof.Machine

/-! ### The held advice of a strand while its map changes -/

/-- What the laws read but for the runs and the held advice. -/
def Strand.beyondMap (st : Strand) : Strand := ({ st with runs := [], held := [] } : Strand).core

theorem besideMap_beyondMap : BesideMap Strand.beyondMap := ⟨fun _ _ _ _ => rfl, fun _ _ _ => rfl⟩

theorem Strand.core_of_beyondMap {a b : Strand} (h : b.beyondMap = a.beyondMap) :
    b.core = ({ a with runs := b.runs, held := b.held } : Strand).core := by
  have same := congrArg (fun st : Strand => ({ st with runs := b.runs, held := b.held } : Strand).core) h
  exact same

section
variable {s : State} {i : Fin 4}

theorem State.issueAdvice_held (kind : AdviceKind) (cls : ConditionClass) (start stop : Nat)
    (fits : (s.strand i).held.length ≤ 2) : ((s.issueAdvice i kind cls start stop).strand i).held.length ≤ 2 := by
  obtain room | full := Nat.lt_or_ge s.linePort.own.length 32
  · rw [State.issueAdvice_of_room _ _ _ _ room, State.strand_setStrand_same]
    exact fits
  · rw [State.issueAdvice_of_full _ _ _ _ full, State.strand_setStrand_same]
    exact Strand.holdAdvice_held _ fits

theorem State.adviseRun_held (r : Run) (fits : (s.strand i).held.length ≤ 2) :
    ((s.adviseRun i r).strand i).held.length ≤ 2 := by
  unfold State.adviseRun
  split
  · exact State.issueAdvice_held _ _ _ _ fits
  · exact fits

theorem State.closeOpenRun_held (stop : Nat) (fits : (s.strand i).held.length ≤ 2) :
    ((s.closeOpenRun i stop).strand i).held.length ≤ 2 := by
  unfold State.closeOpenRun
  split
  · exact fits
  · exact State.adviseRun_held _ (by rwa [State.strand_modStrand_same])

/-! ### The end of DRAINING -/

theorem State.closeAtEnd_held (fits : (s.strand i).held.length ≤ 2) : ((s.closeAtEnd i).strand i).held.length ≤ 2 := by
  unfold State.closeAtEnd
  split
  · exact fits
  · rw [State.strand_modStrand_same]
    exact State.closeOpenRun_held _ fits

/-- The map of a strand that leaves DRAINING: its open run, if there is one, ends at the front. -/
theorem State.closeAtEnd_cases (s : State) (i : Fin 4) :
    (s.strand i).openRun = none ∧ ((s.closeAtEnd i).strand i).runs = (s.strand i).runs ∨
      ∃ before r x, (s.strand i).runs = before ++ [r] ∧ ((s.closeAtEnd i).strand i).runs = before ++ [x] ∧
        x.start = r.start ∧ x.isOpen = false ∧ ∀ front, x.stopAt front = (s.strand i).front := by
  cases h : (s.strand i).openRun with
  | none => exact .inl ⟨rfl, by rw [State.closeAtEnd_of_none h]⟩
  | some r =>
    obtain ⟨before, hruns, hopen⟩ := Strand.openRun_eq_some h
    obtain ⟨acc, folds, hbody⟩ := Run.exists_running hopen
    have runs := State.closeOpenRun_runs hruns hbody (s.strand i).front
    have same : ((s.closeAtEnd i).strand i).runs = ((s.closeOpenRun i (s.strand i).front).strand i).runs := by
      rw [State.closeAtEnd_of_open h, State.strand_modStrand_same]
    exact .inr ⟨before, r, _, hruns, same.trans runs, rfl, rfl, fun _ => rfl⟩

/-- Every run of a strand that leaves DRAINING is closed, and they cover what they covered. -/
theorem State.closeAtEnd_cover (map : (s.strand i).runs = [] ∨ (s.strand i).openRun.isSome = true)
    (cover : Tiles (s.strand i).runs (s.strand i).retired (s.strand i).front) :
    Tiles ((s.closeAtEnd i).strand i).runs (s.strand i).retired (s.strand i).front ∧
      ∀ r ∈ ((s.closeAtEnd i).strand i).runs, r.isOpen = false := by
  obtain ⟨none, runs⟩ | ⟨before, r, x, hruns, runs, start, closed, stop⟩ := s.closeAtEnd_cases i
  · have empty := map.resolve_right (by rw [none]; nofun)
    rw [runs]
    exact ⟨cover, empty ▸ fun _ h => absurd h List.not_mem_nil⟩
  · rw [runs]
    rw [hruns] at cover
    have shut := cover.closed_before_last
    obtain ⟨mid, covered, first, lt, -⟩ := (tiles_append [r] _ _ shut).mp cover
    refine ⟨(tiles_append [x] _ _ shut).mpr ⟨mid, covered, start.trans first, ?_, stop _⟩, fun y hy => ?_⟩
    · rw [stop]
      exact cover.last_stop ▸ lt
    · obtain hy | hy := List.mem_append.mp hy
      · exact shut y hy
      · exact List.mem_singleton.mp hy ▸ closed

/-- What a strand that enters CLOSED holds, but for its runs and its held advice. -/
theorem State.closedStrand_core (s : State) (i : Fin 4) : ((s.closedStrand i).strand i).core =
    ({ s.strand i with
      state := .closed, runs := ((s.closeAtEnd i).strand i).runs,
      held := ((s.closeAtEnd i).strand i).held } : Strand).core := by
  have ended := Strand.core_of_beyondMap (besideMap_beyondMap.closeAtEnd s i)
  have closed : ((s.closedStrand i).strand i).core =
      ({ ((s.closeAtEnd i).strand i).core with state := .closed } : Strand).core := by
    rw [State.closedStrand, State.changeStrand_same, State.switchAtClose_strand]
    split <;> rfl
  rw [closed, ended]
  rfl

/-- A drained strand enters CLOSED. -/
theorem State.closedStrand_keepsLaws (drained : (s.strand i).drained = true) :
    (s.strand i).Keeps ((s.closedStrand i).strand i) := by
  obtain ⟨draining, sets, eval⟩ := Strand.drained_iff.mp drained
  have hstate : (s.strand i).state ≠ .closed := by rw [draining]; decide
  have length := s.closeAtEnd_runs i
  refine Strand.Keeps.core (s.closedStrand_core i)
    ⟨fun ⟨lists, _, fits, map⟩ => ⟨⟨?_, fun _ => ⟨sets, eval⟩, length.trans_le fits, fun h => absurd rfl h⟩,
      fun law => ⟨law, ?_⟩⟩, le_rfl⟩
  · obtain ⟨hsets, hmarks, hcuts, hclosed, hheld⟩ := lists
    exact ⟨hsets, hmarks, hcuts, hclosed, State.closeAtEnd_held hheld⟩
  · rintro ⟨order, tiles, pitch, -, -, -, cuts⟩
    obtain ⟨cover, closed⟩ := State.closeAtEnd_cover (map hstate) tiles
    exact ⟨order, cover, pitch, fun h => absurd rfl h, fun _ => closed, nofun, cuts⟩

theorem State.leaveDraining_keepsLaws (drained : (s.strand i).drained = true) : s.Keeps (s.leaveDraining i) := by
  have closed : s.Keeps (s.closedStrand i) := .of_strand (i := i) (fun j hj => by simp [State.closedStrand, hj])
    (State.closedStrand_keepsLaws drained)
  rw [State.leaveDraining_eq]
  exact (closed.trans (State.closeCheck_keepsLaws _ i)).trans (State.idleCheck_keepsLaws _ i)

theorem State.drainCheck_keepsLaws (s : State) (i : Fin 4) : s.Keeps (s.drainCheck i) := by
  unfold State.drainCheck
  split
  · next drained => exact State.leaveDraining_keepsLaws drained
  · exact .refl s

/-- A live strand changes to another state that is neither IDLE nor CLOSED. -/
theorem State.changeStrand_keepsLaws {x : StrandState} (live : (s.strand i).state ≠ .closed) (hidle : x ≠ .idle)
    (hclosed : x ≠ .closed) : s.Keeps (s.changeStrand i x) := by
  refine .of_strand (i := i) (fun j hj => by simp [hj]) (.of_state ?_ hidle hclosed live)
  rw [State.changeStrand_same]

theorem StrandState.ne_closed_of_live {x : StrandState} (live : x.live = true) : x ≠ .closed := by
  rintro rfl
  cases live

theorem State.endRun_keepsLaws (s : State) (i : Fin 4) : s.Keeps (s.endRun i) := by
  unfold State.endRun
  split
  · next live =>
      have moved := State.changeStrand_keepsLaws (x := .draining) (StrandState.ne_closed_of_live live) nofun nofun
      exact moved.trans (State.drainCheck_keepsLaws _ i)
  · exact .refl s

end

end Sys2Proof.Machine
end

section
/-! Proofs: the completion of an evaluation hands its slice to the map and keeps the laws of the strand (O7, R75, R101). -/

namespace Sys2Proof.Machine

section
variable {s : State} {i : Fin 4}

/-! ### The bounds of the map while slices enter -/

/-- A slice that enters leaves an open run last, within the bound (R119, R120). -/
theorem State.enterSlice_mapOpen (e : Entry) (h : MapOpen (s.strand i)) : MapOpen ((s.enterSlice i e).strand i) := by
  obtain ⟨fits, last⟩ := h
  have open_ {before : List Run} {x : Run} (runs : ((s.enterSlice i e).strand i).runs = before ++ [x])
      (hx : x.isOpen = true) (length : before.length + 1 ≤ 96) : MapOpen ((s.enterSlice i e).strand i) :=
    ⟨(congrArg List.length runs).trans_le (List.length_append.trans_le length),
      (Strand.mapOpen_iff _).mpr (.inr ⟨before, x, runs, hx⟩)⟩
  obtain ⟨none, runs⟩ | ⟨before, r, hruns, -, ⟨x, -, hopen, -, runs⟩ | ⟨area, saturated, room, runs⟩⟩ :=
    State.enterSlice_runs (s := s) (i := i) e
  · have empty := last.resolve_right (by rw [none]; nofun)
    exact open_ runs rfl (by rw [empty]; decide)
  · exact open_ runs hopen (by rwa [hruns, List.length_append] at fits)
  · rw [List.append_cons] at runs
    rw [hruns, List.length_append] at room
    exact open_ runs rfl (List.length_append ▸ room)

theorem State.enterSkipped_mapOpen (i : Fin 4) (n : Nat) : ∀ (s : State) (k : Nat), MapOpen (s.strand i) →
    MapOpen ((s.enterSkipped i k n).strand i) := by
  induction n with
  | zero => exact fun _ _ h => h
  | succ n ih => exact fun s k h => ih _ _ (State.enterSlice_mapOpen _ h)

theorem State.handOver_mapOpen (e : Entry) (h : MapOpen (s.strand i)) : MapOpen ((s.handOver i e).strand i) := by
  unfold State.handOver
  refine State.enterSlice_mapOpen e (State.enterSkipped_mapOpen i _ _ _ ?_)
  rw [State.strand_modStrand_same]
  exact h

/-! ### The held advice while slices enter -/

theorem State.turnOrMerge_held (r : Run) (e : Entry) (fits : (s.strand i).held.length ≤ 2) :
    ((s.turnOrMerge i r e).strand i).held.length ≤ 2 := by
  unfold State.turnOrMerge
  split
  · unfold State.mergeSlice
    dsimp only
    split
    · rw [State.strand_modStrand_same]
      exact fits
    · rw [State.raise_strand, State.strand_modStrand_same]
      exact fits
  · rw [State.turnRun, State.strand_modStrand_same]
    exact State.closeOpenRun_held _ fits

theorem State.enterSlice_held (e : Entry) (fits : (s.strand i).held.length ≤ 2) :
    ((s.enterSlice i e).strand i).held.length ≤ 2 := by
  unfold State.enterSlice
  dsimp only
  split
  · rw [State.strand_modStrand_same]
    exact fits
  · split
    · rw [State.strand_modStrand_same]
      exact fits
    · split
      · exact State.turnOrMerge_held _ e fits
      · split
        · rw [State.strand_modStrand_same]
          exact fits
        · exact State.turnOrMerge_held _ e fits

theorem State.enterSkipped_held (i : Fin 4) (n : Nat) : ∀ (s : State) (k : Nat), (s.strand i).held.length ≤ 2 →
    ((s.enterSkipped i k n).strand i).held.length ≤ 2 := by
  induction n with
  | zero => exact fun _ _ h => h
  | succ n ih => exact fun s k h => ih _ _ (State.enterSlice_held _ h)

theorem State.handOver_held (e : Entry) (fits : (s.strand i).held.length ≤ 2) :
    ((s.handOver i e).strand i).held.length ≤ 2 := by
  unfold State.handOver
  refine State.enterSlice_held e (State.enterSkipped_held i _ _ _ ?_)
  rw [State.strand_modStrand_same]
  exact fits

/-! ### The completion -/

variable {ev : Evaluation}

/-- A completed evaluation frees the engine. -/
theorem Strand.finishEvaluation_beyondMap (st : Strand) (ev : Evaluation) :
    (st.finishEvaluation ev).beyondMap = ({ st with eval := none } : Strand).beyondMap := by
  rw [Strand.finishEvaluation_eq]
  generalize st.filtersWritten ev = filters
  generalize st.countersAfter ev = counters
  rfl

/-- The strand once its slice is in the map and the front has moved. -/
theorem State.moved_core (s : State) (i : Fin 4) (ev : Evaluation) : ((s.moved i ev).strand i).core = ({ s.strand i with
    eval := none, runs := ((s.handed i ev).strand i).runs, held := ((s.handed i ev).strand i).held,
    lastReleased := some ev.set.slice, front := (ev.set.slice + 1) * (s.strand i).params.pitch,
    marks := (s.strand i).marks.filter fun m => (ev.set.slice + 1) * (s.strand i).params.pitch < m.stop } : Strand).core := by
  have handed := BesideSlice.handed s i ev ⟨besideMap_beyondMap, fun _ _ => rfl⟩
  rw [State.moved, State.strand_modStrand_same]
  generalize (s.handed i ev).strand i = st at handed
  have core := Strand.core_of_beyondMap (a := { s.strand i with eval := none })
    (handed.trans ((s.strand i).finishEvaluation_beyondMap ev))
  have moved := congrArg (fun st : Strand => (st.moveTo ev.set.slice).core) core
  exact moved

/-- The bounds and the cover of the map that the slice leaves (R120, R121). -/
theorem State.handed_map (ev : Evaluation) (map : MapOpen (s.strand i)) : MapOpen ((s.handed i ev).strand i) ∧
    (1 ≤ (s.strand i).params.pitch → (s.strand i).nextIndex ≤ ev.set.slice →
      Tiles (s.strand i).runs (s.strand i).retired ((s.strand i).nextIndex * (s.strand i).params.pitch) →
      Tiles ((s.handed i ev).strand i).runs (s.strand i).retired ((ev.set.slice + 1) * (s.strand i).params.pitch)) := by
  have cover := (s.written i ev).handOver_cover (i := i) ((s.strand i).entryOf ev)
  have bounds := State.handOver_mapOpen (s := s.written i ev) (i := i) ((s.strand i).entryOf ev)
  rw [State.written_strand, Strand.finishEvaluation_eq] at cover bounds
  exact ⟨bounds map, fun pitch next tiles => (cover map pitch next tiles).1⟩

theorem State.handed_held (ev : Evaluation) (fits : (s.strand i).held.length ≤ 2) :
    ((s.handed i ev).strand i).held.length ≤ 2 := by
  refine State.handOver_held _ ?_
  rw [State.written_strand, Strand.finishEvaluation_eq]
  exact fits

/-- A completed evaluation hands its slice over and frees its buffers. -/
theorem State.moved_keepsLaws (h : (s.strand i).eval = some ev) : (s.strand i).Keeps ((s.moved i ev).strand i) := by
  have core := s.moved_core i ev
  have map := State.handed_map (s := s) (i := i) ev
  have held := State.handed_held (s := s) (i := i) ev
  generalize (s.handed i ev).strand i = st at core map held
  refine Strand.Keeps.core core ⟨fun ⟨lists, quiet, fits, last⟩ => ?_, Nat.le_add_right _ _⟩
  have busy : ¬((s.strand i).state = .idle ∨ (s.strand i).state = .closed) := fun e =>
    absurd (h.symm.trans (quiet e).2) nofun
  obtain ⟨hidle, hclosed⟩ := not_or.mp busy
  obtain ⟨⟨fitsAfter, openAfter⟩, cover⟩ := map ⟨fits, last hclosed⟩
  refine ⟨⟨?_, fun e => absurd e busy, fitsAfter, fun _ => openAfter⟩, fun sets => ⟨sets, ?_⟩⟩
  · obtain ⟨hsets, hmarks, hcuts, hlength, hheld⟩ := lists
    exact ⟨hsets, (List.length_filter_le _ _).trans hmarks, hcuts, hlength, held hheld⟩
  · rintro ⟨⟨-, -, order⟩, tiles, pitch, front, -, -, cuts⟩
    obtain ⟨first, triggered, above⟩ := order ev h
    rw [front hclosed] at tiles
    exact ⟨⟨triggered, above, nofun⟩, cover pitch first tiles, pitch, fun _ => rfl, fun e => absurd e hclosed,
      fun e => absurd e hidle, cuts⟩

end

end Sys2Proof.Machine
end

section
/-! Proofs: the sets of a strand keep their order while they become READY and are released (O7, R63, R65, R74). -/

namespace Sys2Proof.Machine

/-! ### The slices that a strand holds -/

/-- The slice indices of the sets of a strand, in their order. -/
def Strand.slices (st : Strand) : List Nat := st.sets.map SliceSet.slice

/-- The slice under evaluation, if there is one, and then those of the sets. -/
def Strand.queue (st : Strand) : List Nat := (st.eval.map fun ev => ev.set.slice).toList ++ st.slices

theorem Strand.queue_eq_nil (st : Strand) : st.queue = [] ↔ st.sets = [] ∧ st.eval = none := by
  cases h : st.eval <;> simp [Strand.queue, Strand.slices, h]

theorem Strand.forall_slices {st : Strand} {P : Nat → Prop} : (∀ k ∈ st.slices, P k) ↔ ∀ x ∈ st.sets, P x.slice :=
  List.forall_mem_map

theorem Strand.setLaw_iff (st : Strand) :
    SetLaw st ↔ st.slices.Pairwise (· < ·) ∧ ∀ k ∈ st.slices, k < st.nextTrigger :=
  and_congr List.pairwise_map.symm (Strand.forall_slices (P := fun k => k < st.nextTrigger)).symm

/-- The order of the sets and of the slices says that the slices rise, between the next index and the next trigger. -/
theorem Strand.orderLaw_iff (st : Strand) : SetLaw st ∧ OrderLaw st ↔
    st.nextIndex ≤ st.nextTrigger ∧ st.queue.Pairwise (· < ·) ∧ ∀ k ∈ st.queue, st.nextIndex ≤ k ∧ k < st.nextTrigger := by
  rw [Strand.setLaw_iff]
  cases h : st.eval with
  | none =>
    have queue : st.queue = st.slices := by rw [Strand.queue, h, Option.map_none, Option.toList_none, List.nil_append]
    rw [queue]
    constructor
    · rintro ⟨⟨rising, below⟩, next, above, -⟩
      exact ⟨next, rising, fun k hk => ⟨Strand.forall_slices.mpr above k hk, below k hk⟩⟩
    · rintro ⟨next, rising, bounds⟩
      refine ⟨⟨rising, fun k hk => (bounds k hk).2⟩, next, Strand.forall_slices.mp fun k hk => (bounds k hk).1, ?_⟩
      exact fun ev hev => absurd (h.symm.trans hev) nofun
  | some ev =>
    have queue : st.queue = ev.set.slice :: st.slices := by rw [Strand.queue, h, Option.map_some, Option.toList_some]; rfl
    rw [queue, List.pairwise_cons, List.forall_mem_cons]
    constructor
    · rintro ⟨⟨rising, below⟩, next, above, order⟩
      obtain ⟨first, triggered, last⟩ := order ev h
      exact ⟨next, ⟨Strand.forall_slices.mpr last, rising⟩, ⟨first, triggered⟩,
        fun k hk => ⟨Strand.forall_slices.mpr above k hk, below k hk⟩⟩
    · rintro ⟨next, ⟨last, rising⟩, ⟨first, triggered⟩, bounds⟩
      refine ⟨⟨rising, fun k hk => (bounds k hk).2⟩, next, Strand.forall_slices.mp fun k hk => (bounds k hk).1, ?_⟩
      intro e he
      obtain rfl : ev = e := Option.some.inj (h.symm.trans he)
      exact ⟨first, triggered, Strand.forall_slices.mp last⟩

/-! ### Sets that become READY or are released -/

/-- What the laws read but for the sets and the evaluation. -/
def Strand.beyondSets (st : Strand) : Strand := ({ st with sets := [], eval := none } : Strand).core

theorem besideSets_beyondSets : BesideSets Strand.beyondSets := ⟨fun _ _ _ => rfl, fun _ _ => rfl, fun _ => rfl⟩

theorem Strand.core_of_beyondSets {a b : Strand} (h : b.beyondSets = a.beyondSets) :
    b.core = ({ a with sets := b.sets, eval := b.eval } : Strand).core := by
  have same := congrArg (fun st : Strand => ({ st with sets := b.sets, eval := b.eval } : Strand).core) h
  exact same

/-- The second strand holds the slices of the first: sets have become READY, or the oldest one was released. -/
structure Strand.Releases (a b : Strand) : Prop where
  beyond : b.beyondSets = a.beyondSets
  queue : b.queue = a.queue
  slices : b.slices <:+ a.slices

section
variable {a b c : Strand}

theorem Strand.Releases.refl (a : Strand) : a.Releases a := ⟨rfl, rfl, List.suffix_rfl⟩

theorem Strand.Releases.trans (h : a.Releases b) (k : b.Releases c) : a.Releases c :=
  ⟨k.beyond.trans h.beyond, k.queue.trans h.queue, k.slices.trans h.slices⟩

/-- What reads neither the sets nor the evaluation is the same. -/
theorem Strand.Releases.same {α : Type} (h : a.Releases b) {proj : Strand → α}
    (beside : ∀ st : Strand, proj st.beyondSets = proj st) : proj b = proj a :=
  (beside b).symm.trans ((congrArg proj h.beyond).trans (beside a))

theorem Strand.Releases.trigger (h : a.Releases b) : b.nextTrigger = a.nextTrigger := h.same fun _ => rfl

theorem Strand.Releases.length (h : a.Releases b) : b.sets.length ≤ a.sets.length := by
  have length := h.slices.length_le
  rwa [Strand.slices, Strand.slices, List.length_map, List.length_map] at length

theorem Strand.Releases.setLaw (h : a.Releases b) (law : SetLaw a) : SetLaw b := by
  rw [Strand.setLaw_iff] at law ⊢
  rw [h.trigger]
  exact ⟨law.1.sublist h.slices.sublist, fun k hk => law.2 k (h.slices.subset hk)⟩

/-- The laws carry over from the first strand to the second. -/
theorem Strand.Releases.follows (h : a.Releases b) : a.Follows b := by
  have index : b.nextIndex = a.nextIndex := h.same fun _ => rfl
  have state : b.state = a.state := h.same fun _ => rfl
  have map : MapLaw b = MapLaw a := h.same fun _ => rfl
  have cover : CoverLaw b = CoverLaw a := h.same fun _ => rfl
  have marks : b.marks = a.marks := h.same fun _ => rfl
  have cuts : b.cuts = a.cuts := h.same fun _ => rfl
  have closed : b.closed = a.closed := h.same fun _ => rfl
  have held : b.held = a.held := h.same fun _ => rfl
  rintro ⟨⟨hsets, hlists⟩, quiet, hmap⟩
  refine ⟨⟨⟨h.length.trans hsets, ?_⟩, fun still => ?_, map ▸ hmap⟩, fun sets => ⟨h.setLaw sets, fun ⟨order, tiles⟩ => ?_⟩⟩
  · rwa [marks, cuts, closed, held]
  · rw [← Strand.queue_eq_nil, h.queue, Strand.queue_eq_nil]
    exact quiet (state ▸ still)
  · have placed := (Strand.orderLaw_iff a).mp ⟨sets, order⟩
    rw [← h.trigger, ← index, ← h.queue, ← Strand.orderLaw_iff] at placed
    exact ⟨placed.2, cover ▸ tiles⟩

end

/-! ### The operations that do so -/

section
variable {s : State} {i : Fin 4}

/-- A change of the sets that leaves their slices. -/
theorem Strand.modSet_slices (st : Strand) (k : Nat) {f : SliceSet → SliceSet} (same : ∀ x, (f x).slice = x.slice) :
    (st.modSet k f).slices = st.slices := by
  rw [Strand.slices, Strand.modSet, List.map_map, Strand.slices]
  refine List.map_congr_left fun x _ => ?_
  rw [Function.comp_apply]
  split
  · exact same x
  · rfl

theorem Strand.modSet_releases (st : Strand) (k : Nat) {f : SliceSet → SliceSet} (same : ∀ x, (f x).slice = x.slice) :
    st.Releases (st.modSet k f) := by
  have slices := st.modSet_slices k same
  refine ⟨rfl, ?_, slices ▸ List.suffix_rfl⟩
  rw [Strand.queue, slices]
  rfl

theorem Strand.makeReady_buffers (st : Strand) (k : Nat) : (st.modSet k SliceSet.makeReady).buffers = st.buffers := by
  have same : (st.modSet k SliceSet.makeReady).sets.map SliceSet.buffers = st.sets.map SliceSet.buffers := by
    rw [Strand.modSet, List.map_map]
    refine List.map_congr_left fun x _ => ?_
    rw [Function.comp_apply]
    split <;> rfl
  rw [Strand.buffers, same]
  rfl

/-- The release rule moves the oldest set to the engine, or does nothing (R74). -/
theorem State.releaseRule_releases (s : State) (i : Fin 4) : (s.strand i).Releases ((s.releaseRule i).strand i) ∧
    ((s.releaseRule i).strand i).buffers = (s.strand i).buffers := by
  obtain same | ⟨x, rest, hs, hr, he, -⟩ := s.releaseRule_cases i
  · rw [same]
    exact ⟨.refl _, rfl⟩
  · obtain ⟨sets, ev, eval, rfl⟩ := State.releaseRule_of_ready_same hs hr he
    have beyond := besideSets_beyondSets.releaseRule s i
    generalize (s.releaseRule i).strand i = b at *
    generalize s.strand i = a at *
    refine ⟨⟨beyond, ?_, ?_⟩, ?_⟩
    · simp [Strand.queue, Strand.slices, sets, eval, hs, he]
    · simp [Strand.slices, sets, hs]
    · simp [Strand.buffers, sets, eval, hs, he, Nat.add_comm]

theorem State.releaseRule_keepsLaws (s : State) (i : Fin 4) : s.Keeps (s.releaseRule i) := by
  obtain ⟨releases, buffers⟩ := s.releaseRule_releases i
  exact .of_strand (i := i) (fun j hj => by simp [hj]) ⟨releases.follows, buffers.le⟩

/-- A set that becomes READY, whatever is counted. -/
theorem Strand.makeReady_keepsLaws {st t : Strand} {k : Nat} (core : t.core = (st.modSet k SliceSet.makeReady).core) :
    st.Keeps t :=
  .core core ⟨(st.modSet_releases k (f := SliceSet.makeReady) fun _ => rfl).follows, (st.makeReady_buffers k).le⟩

theorem State.reportMisses_keepsLaws (s : State) (i : Fin 4) (x : SliceSet) : s.Keeps (s.reportMisses i x) :=
  .of_strands (by simp)

theorem State.timeOutSet_keepsLaws (s : State) (i : Fin 4) (x : SliceSet) : s.Keeps (s.timeOutSet i x) := by
  unfold State.timeOutSet
  refine .trans (.trans (.modStrand (Strand.makeReady_keepsLaws (k := x.slice) ?_)) (State.reportMisses_keepsLaws _ i x))
    (State.releaseRule_keepsLaws _ i)
  rfl

theorem State.completeSet_keepsLaws (s : State) (i : Fin 4) (k : Nat) : s.Keeps (s.completeSet i k) := by
  unfold State.completeSet
  split
  · exact .refl s
  · split
    · refine .trans (.modStrand (Strand.makeReady_keepsLaws (k := k) ?_)) (State.releaseRule_keepsLaws _ i)
      rfl
    · exact .refl s

/-- An evaluation completes, and the next begins (R75, R101). -/
theorem State.completeEvaluation_keepsLaws {ev : Evaluation} (h : (s.strand i).eval = some ev) :
    s.Keeps (s.completeEvaluation i ev) := by
  have moved : s.Keeps (s.moved i ev) := .of_strand (i := i)
    (fun j hj => by simp [State.moved, State.handed, State.written, hj]) (State.moved_keepsLaws h)
  rw [State.completeEvaluation_eq]
  exact ((moved.trans (State.closeCheck_keepsLaws _ i)).trans (State.releaseRule_keepsLaws _ i)).trans
    (State.drainCheck_keepsLaws _ i)

end

end Sys2Proof.Machine
end

section
/-! Proofs: crossings, press notices and the stall keep the laws of a strand (O7). -/

namespace Sys2Proof.Machine

/-! ### Crossings (R58, R65, R66) -/

section
variable {a b c : Strand} {k : Nat}

/-- What reads only the core is the same for equal cores. -/
theorem Strand.same_of_core {α : Type} (h : b.core = a.core) {proj : Strand → α}
    (reads : ∀ st : Strand, proj st.core = proj st) : proj b = proj a := (reads b).symm.trans ((congrArg proj h).trans (reads a))

theorem Strand.Releases.of_core (h : b.core = a.core) : a.Releases b ∧ b.buffers = a.buffers := by
  have slices : b.slices = a.slices := Strand.same_of_core h fun _ => rfl
  exact ⟨⟨Strand.same_of_core h fun _ => rfl, Strand.same_of_core h fun _ => rfl, slices ▸ List.suffix_rfl⟩,
    Strand.same_of_core h fun _ => rfl⟩

/-- A crossing moves the last triggered index on. -/
theorem Strand.Keeps.of_triggered (new : a.nextTrigger ≤ k)
    (core : b.core = ({ a with lastTriggered := some k } : Strand).core) : a.Keeps b := by
  have later {n : Nat} (h : n < a.nextTrigger) : n < k + 1 := Nat.lt_succ_of_le (h.le.trans new)
  refine Strand.Keeps.core core ⟨fun bounded => ⟨bounded, fun ⟨rising, below⟩ => ⟨⟨rising, fun x hx => later (below x hx)⟩,
    fun ⟨⟨next, above, order⟩, cover⟩ => ⟨⟨Nat.le_succ_of_le (next.trans new), above, fun ev hev => ?_⟩, cover⟩⟩⟩, le_rfl⟩
  obtain ⟨first, triggered, last⟩ := order ev hev
  exact ⟨first, later triggered, last⟩

/-- A set for a new crossing joins the slices that the strand held before it. -/
theorem Strand.Keeps.of_added (new : a.nextTrigger ≤ k) (busy : ¬(a.state = .idle ∨ a.state = .closed))
    (h : ({ a with lastTriggered := some k } : Strand).Releases b) (buffers : b.buffers ≤ a.buffers) {x : SliceSet}
    (hx : x.slice = k) (empty : x.buffers = 0) (room : b.sets.length < 8)
    (core : c.core = ({ b with sets := b.sets ++ [x] } : Strand).core) : a.Keeps c := by
  have kept := (Strand.Keeps.of_triggered new rfl).laws.trans h.follows
  have state : b.state = a.state := h.same fun _ => rfl
  have index : b.nextIndex = a.nextIndex := h.same fun _ => rfl
  have trigger : b.nextTrigger = k + 1 := h.trigger
  have total : ({ b with sets := b.sets ++ [x] } : Strand).buffers = b.buffers := by
    simp only [Strand.buffers, List.map_append, List.map_singleton, List.sum_append, List.sum_singleton, empty, Nat.add_zero]
  refine Strand.Keeps.core core ⟨fun bounded => ?_, total.trans_le buffers⟩
  obtain ⟨⟨⟨_, lists⟩, _, map⟩, laws⟩ := kept bounded
  refine ⟨⟨⟨List.length_append.trans_le room, lists⟩, fun still => absurd (state ▸ still) busy, map⟩, fun sets => ?_⟩
  obtain ⟨⟨rising, below⟩, placed⟩ := laws sets
  have earlier : ∀ y ∈ b.sets, y.slice < k := Strand.forall_slices.mp fun n hn =>
    ((Strand.setLaw_iff a).mp sets).2 n (h.slices.subset hn) |>.trans_le new
  refine ⟨⟨?_, ?_⟩, fun before => ?_⟩
  · refine List.pairwise_append.mpr ⟨rising, List.pairwise_singleton _ _, fun y hy z hz => ?_⟩
    rw [List.mem_singleton.mp hz, hx]
    exact earlier y hy
  · intro y hy
    obtain hy | hy := List.mem_append.mp hy
    · exact below y hy
    · rw [List.mem_singleton.mp hy, hx]
      exact trigger ▸ Nat.lt_succ_self k
  · obtain ⟨start, -, bounds⟩ := (Strand.orderLaw_iff a).mp ⟨sets, before.1⟩
    obtain ⟨⟨next, above, order⟩, cover⟩ := placed before
    refine ⟨⟨next, fun y hy => ?_, fun ev hev => ?_⟩, cover⟩
    · obtain hy | hy := List.mem_append.mp hy
      · exact above y hy
      · rw [List.mem_singleton.mp hy, hx]
        exact index ▸ start.trans new
    · obtain ⟨first, triggered, last⟩ := order ev hev
      have held : ev.set.slice ∈ b.queue := by
        rw [Strand.queue, show b.eval = some ev from hev]
        exact List.mem_cons_self
      refine ⟨first, triggered, fun y hy => ?_⟩
      obtain hy | hy := List.mem_append.mp hy
      · exact last y hy
      · rw [List.mem_singleton.mp hy, hx]
        exact (bounds _ (h.queue ▸ held)).2.trans_le new

end

/-- Forcing the oldest set READY and releasing it (R66). -/
theorem State.forceOldest_releases (s : State) (i : Fin 4) : (s.strand i).Releases ((s.forceOldest i).strand i) ∧
    ((s.forceOldest i).strand i).buffers = (s.strand i).buffers := by
  unfold State.forceOldest
  split
  · next x rest _ =>
    split
    · exact ⟨.refl _, rfl⟩
    · rw [State.reportMisses_strand, State.strand_modStrand_same]
      have ready := (s.strand i).modSet_releases x.slice (f := SliceSet.makeReady) fun _ => rfl
      exact ⟨⟨ready.beyond, ready.queue, ready.slices⟩, (s.strand i).makeReady_buffers x.slice⟩
  · exact ⟨.refl _, rfl⟩

/-- The set of a new crossing is opened, or refused at a full list (R65, R66). -/
theorem Strand.Keeps.openSet {a : Strand} {s : State} {i : Fin 4} {k : Nat} (new : a.nextTrigger ≤ k)
    (busy : ¬(a.state = .idle ∨ a.state = .closed)) (expected : BitVec 6)
    (h : (s.strand i).core = ({ a with lastTriggered := some k } : Strand).core) :
    a.Keeps ((s.openSet i k expected).strand i) := by
  have added {u : State} (released : ({ a with lastTriggered := some k } : Strand).Releases (u.strand i))
      (buffers : (u.strand i).buffers ≤ a.buffers) (room : (u.strand i).sets.length < 8) :
      a.Keeps ((u.modStrand i fun st => st.addSet k u.now expected).strand i) := by
    rw [State.strand_modStrand_same]
    let opened : SliceSet :=
      { slice := k, openTime := u.now, deadline := u.now + (u.strand i).params.scanWait, expected := expected }
    refine .of_added new busy released buffers (x := opened) rfl ?_ room ?_
    · rfl
    · rfl
  obtain ⟨triggered, same⟩ := Strand.Releases.of_core h
  by_cases room : (s.strand i).sets.length < setCapacity
  · rw [State.openSet_of_room room]
    exact added triggered same.le room
  · obtain ⟨forced, forcedBuffers⟩ := s.forceOldest_releases i
    obtain ⟨released, releasedBuffers⟩ := (s.forceOldest i).releaseRule_releases i
    have all := (triggered.trans forced).trans released
    have buffers := (releasedBuffers.trans (forcedBuffers.trans same)).le
    rw [State.openSet_of_full room]
    dsimp only
    split
    · next space => exact added all buffers space
    · rw [State.strand_modStrand_same]
      exact .core (b := (((s.forceOldest i).releaseRule i).strand i)) rfl
        ⟨(Strand.Keeps.of_triggered new rfl).laws.trans all.follows, buffers⟩

section
variable {s : State} {i : Fin 4}

theorem Strand.nextTrigger_of_none {st : Strand} (h : st.lastTriggered = none) : st.nextTrigger = 0 := by
  simp only [Strand.nextTrigger, h]

theorem Strand.nextTrigger_of_some {st : Strand} {l : Nat} (h : st.lastTriggered = some l) : st.nextTrigger = l + 1 := by
  simp only [Strand.nextTrigger, h]

theorem Strand.nextTrigger_le_of_new {st : Strand} {k : Nat} (new : st.isNewCrossing k = true) : st.nextTrigger ≤ k := by
  cases h : st.lastTriggered with
  | none =>
    rw [Strand.nextTrigger_of_none h]
    exact Nat.zero_le k
  | some l =>
    rw [Strand.nextTrigger_of_some h]
    simp only [Strand.isNewCrossing, h, decide_eq_true_eq] at new
    exact new

theorem State.issueTrigger_keepsLaws {k : Nat} (new : (s.strand i).nextTrigger ≤ k)
    (busy : ¬((s.strand i).state = .idle ∨ (s.strand i).state = .closed)) : s.Keeps (s.issueTrigger i k) := by
  refine .of_strand (i := i) (fun j hj => by simp [State.issueTrigger, hj]) (Strand.Keeps.openSet new busy _ ?_)
  rw [State.enqueueTrigger_strand, State.strand_modStrand_same]
  rfl

/-- The crossing rule of a strand that runs (R58). -/
theorem State.crossing_keepsLaws (busy : ¬((s.strand i).state = .idle ∨ (s.strand i).state = .closed)) :
    s.Keeps (s.crossing i) := by
  have indexed : s.Keeps (s.modStrand i fun st => { st with sliceIndex := s.ell i / (s.strand i).params.pitch }) :=
    .modStrand (.of_core rfl)
  unfold State.crossing
  dsimp only
  split
  · next new =>
    have new := Strand.nextTrigger_le_of_new new
    split
    · refine indexed.trans (State.issueTrigger_keepsLaws ?_ ?_)
      · rw [State.strand_modStrand_same]
        exact new
      · rw [State.strand_modStrand_same]
        exact busy
    · refine indexed.trans (.modStrand (.of_triggered (k := s.ell i / (s.strand i).params.pitch) ?_ ?_))
      · rw [State.strand_modStrand_same]
        exact new
      · rfl
  · exact indexed

theorem State.informStrand_keepsLaws (s : State) (i : Fin 4) : s.Keeps (s.informStrand i) := by
  have run (h : (s.strand i).state ≠ .closed) : s.Keeps ((s.changeStrand i .running).crossing i) := by
    have moved := State.changeStrand_keepsLaws (x := .running) h nofun nofun
    refine moved.trans (State.crossing_keepsLaws ?_)
    rw [State.changeStrand_same]
    simp
  unfold State.informStrand
  split
  · next h => exact run (by rw [h]; nofun)
  · next h => exact run (by rw [h]; nofun)
  · next h => exact State.crossing_keepsLaws (by simp [h])
  all_goals exact .refl s

/-! ### The Travel Unit (R42 to R48) -/

/-- What leaves the strands as they are may come first. -/
theorem State.Keeps.after {s t u : State} (k : t.Keeps u) (h : t.strands = s.strands) : s.Keeps u :=
  (State.Keeps.of_strands h).trans k

theorem State.limitReached_keepsLaws (s : State) : s.Keeps s.limitReached := by
  unfold State.limitReached
  split
  · have ended := State.Keeps.foldl State.endRun_keepsLaws allStrands
      (State.raise { s with travel.limitReached := true } (.lengthLimit s.travel.length))
    exact ended.after (State.raise_frame ..).2.2.2.2.2.2.2.1
  · exact .refl s

theorem State.increase_keepsLaws (s : State) : s.Keeps s.increase := by
  have informed := State.Keeps.foldl State.informStrand_keepsLaws allStrands
    { s with travel := { s.travel with moving := true, lastAdvance := some s.now } }
  exact (informed.trans (State.limitReached_keepsLaws _)).after rfl

theorem State.travelRecord_keepsLaws (s : State) (p : Puller) (c : Word32) : s.Keeps (s.travelRecord p c) := by
  have advanced (u : State) (d : Nat) : u.Keeps (u.advance d) := by
    unfold State.advance
    dsimp only
    split
    · exact (State.increase_keepsLaws _).after rfl
    · exact .of_strands rfl
  have judged (u : State) (d : Int) : u.Keeps (u.judgeDelta p c d) := by
    unfold State.judgeDelta
    split
    · exact .of_strands (by simp)
    · split
      · exact .of_strands rfl
      · split
        · exact advanced u _
        · exact .refl u
  unfold State.travelRecord
  dsimp only
  split
  · exact .of_strands rfl
  · split
    · exact (judged _ _).after rfl
    · exact .of_strands rfl

/-- The stall changes RUNNING to STALLED (R53). -/
theorem State.stallExpires_keepsLaws (s : State) : s.Keeps s.stallExpires := by
  have stalled (u : State) (i : Fin 4) : u.Keeps (u.stallStrand i) := by
    unfold State.stallStrand
    split
    · next h => exact State.changeStrand_keepsLaws (by rw [h]; nofun) nofun nofun
    · exact .refl u
  unfold State.stallExpires
  split
  · exact (State.Keeps.foldl stalled allStrands _).after rfl
  · exact .refl s

/-! ### Press notices (R60, R61) -/

/-- A mark that is given once its notice is counted. -/
theorem State.marked_keepsLaws (open_ : (s.strand i).state ≠ .closed) {f : Strand → Strand}
    (core : ∀ st, (f st).core = st.core) (m : Mark) : s.Keeps ((s.modStrand i f).giveMark i m) := by
  refine .trans (.modStrand (f := f) (.of_core (core _))) (State.giveMark_keepsLaws m ?_)
  rw [State.strand_modStrand_same, Strand.same_of_core (core (s.strand i)) (proj := Strand.state) fun _ => rfl]
  exact open_

theorem State.takePress_keepsLaws (k : PressKind) (s : State) (i : Fin 4) : s.Keeps (State.takePress k s i) := by
  by_cases live : (s.strand i).state.live = true
  · have open_ := StrandState.ne_closed_of_live live
    obtain ⟨stop, billet, run, ends⟩ := State.takePress_of_live live
    cases k with
    | pressStop =>
      rw [stop]
      refine State.marked_keepsLaws open_ ?_ _
      exact fun _ => rfl
    | billetChange =>
      have marked : s.Keeps (s.billetMarked i) := by
        unfold State.billetMarked
        dsimp only
        split
        · exact .modStrand (.of_core rfl)
        · refine State.marked_keepsLaws open_ ?_ _
          exact fun _ => rfl
      rw [billet, State.billetChange_eq]
      exact marked.trans (.modStrand (.of_core rfl))
    | pressRun =>
      rw [run]
      exact .modStrand (.of_core rfl)
    | runEnd =>
      rw [ends]
      refine .trans (.modStrand (.of_core ?_)) (State.endRun_keepsLaws _ i)
      rfl
  · have same : State.takePress k s i = s := if_neg live
    rw [same]
    exact .refl s

end

end Sys2Proof.Machine
end

section
/-! Proofs: a strand that starts, is reset or is configured meets its laws (O7, R51, R52, R56, R162). -/

namespace Sys2Proof.Machine

section
variable {a b : Strand}

/-- An IDLE strand that starts has empty lists and everything at 0 (R52). -/
theorem Strand.Keeps.of_started {length : Nat} (idle : a.state = .idle)
    (core : b.core = ({ a.started length with state := .armed } : Strand).core) : a.Keeps b := by
  refine Strand.Keeps.core core ⟨fun ⟨⟨_, _, _, hclosed, hheld⟩, quiet, _⟩ => ?_, Nat.add_le_add_right (Nat.zero_le _) _⟩
  have free : a.eval = none := (quiet (.inl idle)).2
  refine ⟨⟨⟨Nat.zero_le _, Nat.zero_le _, Nat.zero_le _, hclosed, hheld⟩, nofun, Nat.zero_le _, fun _ => .inl rfl⟩,
    fun _ => ⟨⟨.nil, nofun⟩, fun ⟨_, _, pitch, _⟩ => ⟨⟨le_rfl, nofun, ?_⟩, rfl, pitch, ?_, nofun, nofun, .nil, nofun⟩⟩⟩
  · exact fun ev hev => absurd (free.symm.trans hev) nofun
  · exact fun _ => (Nat.zero_mul _).symm

/-- A strand that is reset holds nothing (R56, R162). -/
theorem Strand.Keeps.of_discarded (core : b.core = ({ a.discard with state := .idle } : Strand).core) : a.Keeps b := by
  refine Strand.Keeps.core core ⟨fun _ => ?_, Nat.zero_le _⟩
  refine ⟨⟨⟨Nat.zero_le _, Nat.zero_le _, Nat.zero_le _, Nat.zero_le _, Nat.zero_le _⟩, fun _ => ⟨rfl, rfl⟩, Nat.zero_le _,
    fun _ => .inl rfl⟩, fun _ => ⟨⟨.nil, nofun⟩, fun ⟨_, _, pitch, _⟩ => ⟨⟨le_rfl, nofun, nofun⟩, rfl, pitch, ?_, nofun, ?_,
      .nil, nofun⟩⟩⟩
  · exact fun _ => (Nat.zero_mul _).symm
  · exact fun _ => ⟨rfl, rfl, rfl, rfl⟩

/-- The front of an IDLE strand is 0, whatever its pitch is (R51). -/
theorem Strand.Keeps.of_configured {params : StrandParams} (idle : a.state = .idle) (pitch : 1 ≤ params.pitch)
    (core : b.core = ({ a with params := params } : Strand).core) : a.Keeps b := by
  refine Strand.Keeps.core core ⟨fun bounded => ⟨bounded, fun sets => ⟨sets, ?_⟩⟩, le_rfl⟩
  rintro ⟨order, tiles, -, -, closed, still, cuts⟩
  refine ⟨order, tiles, pitch, fun _ => ?_, closed, still, cuts⟩
  obtain ⟨front, -, released, -⟩ := still idle
  have first : a.nextIndex = 0 := by rw [Strand.nextIndex, released]
  exact front.trans (first ▸ (Nat.zero_mul _).symm : (0 : Nat) = a.nextIndex * params.pitch)

end

section
variable {s : State} {i : Fin 4}

theorem State.startStrand_keepsLaws (idle : (s.strand i).state = .idle) : s.Keeps (s.startStrand i) := by
  refine .of_strand (i := i) (fun j hj => by simp [State.startStrand, hj]) (.of_started (length := s.travel.length) idle ?_)
  rw [State.startStrand, State.changeStrand_same, State.refreshHeads_strand, State.strand_modStrand_same]

theorem State.resetStrand_keepsLaws (s : State) (i : Fin 4) : s.Keeps (s.resetStrand i) := by
  refine .of_strand (i := i) (fun j hj => s.resetStrand_other hj) (.of_discarded ?_)
  rw [State.resetStrand, State.changeStrand_same, State.strand_modStrand_same]

theorem State.configure_keepsLaws (idle : (s.strand i).state = .idle) (slots : Vector (Option (Fin 16)) 6)
    (p : StrandParams) : s.Keeps (s.configure i slots (clampParams p)) := by
  refine .of_strand (i := i) (fun j hj => by rw [s.configure_strand, State.strand_modStrand_other _ _ hj])
    (.of_configured (params := clampParams p) idle ?_ ?_)
  · exact le_trans (by decide) (Nat.le_max_left 1000 _)
  · rw [s.configure_strand, State.strand_modStrand_same]
    rfl

theorem State.restarted_keepsLaws (s : State) : s.Keeps s.restarted := by
  refine ⟨fun i => .of_discarded ?_⟩
  have strand : s.restarted.strand i = (s.strand i).restarted := by
    rw [State.restarted_eq]
    simp
  rw [strand]
  rfl

theorem State.clearCounters_keepsLaws (s : State) : s.Keeps s.clearCounters := by
  refine ⟨fun i => .of_core ?_⟩
  rw [s.clearCounters_strand]
  rfl

/-! ### Heads and switches -/

theorem State.announce_keepsLaws (s : State) (h : Fin 16) (p : List Byte) : s.Keeps (s.announce h p) := by
  have unseeded (u : State) : u.Keeps (u.unseedHead h) := by
    unfold State.unseedHead
    split
    · refine .modStrand (.of_core ?_)
      split <;> rfl
    · exact .refl u
  unfold State.announce
  split
  · exact .of_strands rfl
  · split
    · unfold State.validAnnounce
      dsimp only
      split
      · exact (unseeded _).after (by simp)
      · exact .of_strands (by simp)
    · exact .of_strands (by simp)

theorem State.acceptSwitch_keepsLaws (s : State) (i : Fin 4) : s.Keeps (s.acceptSwitch i) := by
  unfold State.acceptSwitch
  split
  case h_1 | h_2 => exact .modStrand (.of_core rfl)
  all_goals
    refine .same (.modStrand (i := i) (f := Strand.exchangeBanks) (.of_core ?_)) ?_
    · rfl
    · simp [State.switchBanks]

/-- A bank write changes no more than the banks. -/
theorem Strand.writeBank_core (st : Strand) (id : BankId) (f : Bank → Bank) : (st.writeBank id f).core = st.core := by
  cases id <;> rfl

end

end Sys2Proof.Machine
end

section
/-! Proofs: the laws of the strands and the pool of buffers are kept by every step (O7). -/

namespace Sys2Proof.Machine

/-! ### The pool of buffers (R64) -/

theorem State.buffersInUse_eq (s : State) : s.buffersInUse = (allStrands.map fun i => (s.strand i).buffers).sum := by
  have strands : s.strands.toList = allStrands.map s.strand := by
    refine List.ext_getElem (by simp [allStrands]) fun n hn hm => ?_
    have hn : n < 4 := by simpa using hn
    interval_cases n <;> rfl
  rw [State.buffersInUse, strands, List.map_map]
  rfl

theorem State.buffersInUse_mono {s t : State} (h : ∀ i, (t.strand i).buffers ≤ (s.strand i).buffers) :
    t.buffersInUse ≤ s.buffersInUse := by
  rw [State.buffersInUse_eq, State.buffersInUse_eq]
  exact List.sum_le_sum fun i _ => h i

/-- The laws of the strands of the first state, and its bound of the pool, carry over to the second. -/
def State.Carries (s t : State) : Prop :=
  (∀ i, (s.strand i).Bounded) → (∀ i, (t.strand i).Bounded) ∧
    ((∀ i, SetLaw (s.strand i)) → (∀ i, SetLaw (t.strand i)) ∧ (s.buffersInUse ≤ 64 → t.buffersInUse ≤ 64) ∧
      ((∀ i, (s.strand i).Placed) → ∀ i, (t.strand i).Placed))

section
variable {s t u : State}

theorem State.Carries.trans (h : s.Carries t) (k : t.Carries u) : s.Carries u := by
  intro bounded
  obtain ⟨bounded, laws⟩ := h bounded
  obtain ⟨boundedAfter, lawsAfter⟩ := k bounded
  refine ⟨boundedAfter, fun sets => ?_⟩
  obtain ⟨sets, pool, placed⟩ := laws sets
  obtain ⟨setsAfter, poolAfter, placedAfter⟩ := lawsAfter sets
  exact ⟨setsAfter, fun h => poolAfter (pool h), fun h => placedAfter (placed h)⟩

/-- Laws that carry over strand by strand. -/
theorem State.Carries.of_follows (h : ∀ i, (s.strand i).Follows (t.strand i))
    (pool : (∀ i, SetLaw (s.strand i)) → s.buffersInUse ≤ 64 → t.buffersInUse ≤ 64) : s.Carries t := by
  intro bounded
  refine ⟨fun i => (h i (bounded i)).1, fun sets => ⟨fun i => ((h i (bounded i)).2 (sets i)).1, pool sets, fun placed i => ?_⟩⟩
  exact ((h i (bounded i)).2 (sets i)).2 (placed i)

theorem State.Keeps.carries (h : s.Keeps t) : s.Carries t :=
  .of_follows (fun i => (h.strand i).laws) fun _ pool => (State.buffersInUse_mono fun i => (h.strand i).buffers).trans pool

end

/-! ### An accepted scan (R64, R69) -/

section
variable {s : State} {i : Fin 4}

/-- Changing the set of one slice of a list in order adds to its buffers what it adds to that set's. -/
theorem sum_buffers_le {f : SliceSet → SliceSet} (grows : ∀ x, (f x).buffers ≤ x.buffers + 1) (k : Nat) :
    ∀ {sets : List SliceSet}, sets.Pairwise (fun x y => x.slice < y.slice) →
      ((sets.map fun x => if x.slice = k then f x else x).map SliceSet.buffers).sum ≤ (sets.map SliceSet.buffers).sum + 1
  | [], _ => Nat.zero_le _
  | x :: sets, rising => by
    obtain ⟨above, rising⟩ := List.pairwise_cons.mp rising
    rw [List.map_cons, List.map_cons, List.map_cons, List.sum_cons, List.sum_cons]
    by_cases hx : x.slice = k
    · have rest : (sets.map fun y => if y.slice = k then f y else y) = sets :=
        (List.map_congr_left fun y hy => if_neg (hx ▸ (above y hy).ne')).trans (List.map_id _)
      rw [rest, if_pos hx, Nat.add_right_comm]
      exact Nat.add_le_add_right (grows x) _
    · rw [if_neg hx, Nat.add_assoc]
      exact Nat.add_le_add_left (sum_buffers_le grows k rising) _

/-- A scan fills at most one buffer of a set. -/
theorem SliceSet.fill_buffers (x : SliceSet) (t : Fin 6) (b : Option Buffer) :
    ({ x with scans := x.scans.set t b } : SliceSet).buffers ≤ x.buffers + 1 := by
  rw [SliceSet.buffers, SliceSet.buffers, Vector.toList_set, List.countP_set (by simp)]
  refine Nat.add_le_add (Nat.sub_le _ _) ?_
  split
  · exact le_rfl
  · exact Nat.zero_le 1

theorem Strand.fill_buffers {st : Strand} (sets : SetLaw st) (k : Nat) (t : Fin 6) (b : Option Buffer) :
    (st.modSet k fun x => { x with scans := x.scans.set t b }).buffers ≤ st.buffers + 1 := by
  have total := sum_buffers_le (fun x => x.fill_buffers t b) k sets.1
  exact (Nat.add_le_add_right total _).trans_eq (Nat.add_right_comm ..)

/-- A strand that takes a buffer more. -/
theorem State.buffersInUse_le {s t : State} {i : Fin 4}
    (h : ∀ j, (t.strand j).buffers ≤ (s.strand j).buffers + if j = i then 1 else 0) : t.buffersInUse ≤ s.buffersInUse + 1 := by
  have one : ∀ i : Fin 4, (allStrands.map fun j => if j = i then 1 else 0).sum = 1 := by decide
  rw [State.buffersInUse_eq, State.buffersInUse_eq, ← one i, ← List.sum_map_add]
  exact List.sum_le_sum fun j _ => h j

/-- A scan is accepted only where a buffer is free (R69). -/
theorem State.buffersFree_of_accepted {h : Fin 16} {p : List Byte} {t : Fin 6} (accepted : s.judgeScan h p = .accepted i t) :
    s.buffersInUse < 64 := by
  have judged {j : Fin 4} {k : Fin 6} {n : Nat} (found : s.judgeForSet j k n = .accepted i t) : s.buffersFree ≠ 0 := by
    unfold State.judgeForSet at found
    split at found
    · cases found
    · split at found
      · cases found
      · split at found
        · cases found
        · next free => exact free
  refine Nat.lt_of_sub_ne_zero (n := 64) ?_
  unfold State.judgeScan at accepted
  dsimp only at accepted
  split at accepted
  · cases accepted
  · split at accepted
    · split at accepted
      · exact judged accepted
      · cases accepted
    · cases accepted

theorem State.scan_carries (s : State) (h : Fin 16) (p : List Byte) : s.Carries (s.scan h p) := by
  have discarded (c : ScanCounters) : s.Carries (s.discardScan h c) := (State.Keeps.of_strands (by simp)).carries
  unfold State.scan
  split
  case h_6 i t accepted =>
    unfold State.acceptScan
    dsimp only
    let filled : Strand → Strand :=
      fun st => st.modSet (scanSlice p) fun x => { x with scans := x.scans.set t (s.fillBuffer h t p) }
    have slices (st : Strand) := st.modSet_releases (scanSlice p)
      (f := fun x => { x with scans := x.scans.set t (s.fillBuffer h t p) }) fun _ => rfl
    have fill : s.Carries (s.modStrand i filled) := by
      refine .of_follows (fun j => ?_) fun sets _ => ?_
      · rw [State.strand_modStrand]
        split
        · next hj => exact hj ▸ (slices _).follows
        · exact (Strand.Keeps.refl _).laws
      · refine (State.buffersInUse_le (i := i) fun j => ?_).trans (State.buffersFree_of_accepted accepted)
        rw [State.strand_modStrand]
        split
        · next hj => exact hj ▸ Strand.fill_buffers (sets _) _ t _
        · exact le_rfl
    have completed := State.completeSet_keepsLaws ((s.modStrand i filled).reportAccepted h) i (scanSlice p)
    exact fill.trans (completed.after (by simp)).carries
  all_goals exact discarded _

end

/-! ### The events and the requests -/

theorem State.takeRequest_strands (s : State) (f : Frame) : (s.takeRequest f).strands = s.strands := by
  unfold State.takeRequest
  split
  · rfl
  · dsimp only
    split
    · simp
    · rfl

theorem State.releaseExpires_strands (s : State) (h : Fin 16) : (s.releaseExpires h).strands = s.strands := by
  unfold State.releaseExpires
  split
  · simp
  · rfl

theorem State.announceExpires_strands (s : State) (h : Fin 16) : (s.announceExpires h).strands = s.strands := by
  unfold State.announceExpires
  split
  · simp
  · rfl

theorem State.requestRelease_strands (s : State) (h : Fin 16) : (s.requestRelease h).1.strands = s.strands := by
  unfold State.requestRelease
  split
  case h_6 | h_7 => rfl
  all_goals simp

theorem State.pressNotice_keepsLaws (s : State) (code : Nat) : s.Keeps (s.pressNotice code) := by
  unfold State.pressNotice
  split
  · exact .foldl (State.takePress_keepsLaws _) allStrands s
  · exact .of_strands rfl

theorem State.scanWaitExpires_keepsLaws (s : State) (i : Fin 4) : s.Keeps (s.scanWaitExpires i) := by
  unfold State.scanWaitExpires
  split
  · exact (State.timeOutSet_keepsLaws _ i _).after rfl
  · exact .refl s

theorem State.evaluationCompletes_keepsLaws (s : State) (i : Fin 4) : s.Keeps (s.evaluationCompletes i) := by
  unfold State.evaluationCompletes
  split
  · next h => exact State.completeEvaluation_keepsLaws h
  · exact .refl s

theorem carries_events (s : State) : EventsKeep s.Carries where
  setParser t port p h := h.trans (State.Keeps.of_strands (by simp)).carries
  modCounters t port f h := h.trans (State.Keeps.of_strands (by simp)).carries
  headPortRequest t n h := h.trans (State.Keeps.of_strands rfl).carries
  offerForward t port f h := h.trans (State.Keeps.of_strands (by simp)).carries
  takeRequest t f h := h.trans (State.Keeps.of_strands (t.takeRequest_strands f)).carries
  reportCheckError t k h := h.trans (State.Keeps.of_strands (by simp)).carries
  scan t k p h := h.trans (t.scan_carries k p)
  announce t k p h := h.trans (t.announce_keepsLaws k p).carries
  travelRecord t p c h := h.trans (t.travelRecord_keepsLaws p c).carries
  pressNotice t n h := h.trans (t.pressNotice_keepsLaws n).carries
  handover t n h := h.trans (State.Keeps.of_strands (by simp)).carries
  cutNotice t n x h := h.trans (t.cutNotice_keepsLaws n x).carries
  transmitted t port h := h.trans (t.transmitted_keepsLaws port).carries
  releaseExpires t k h := h.trans (State.Keeps.of_strands (t.releaseExpires_strands k)).carries
  announceExpires t k h := h.trans (State.Keeps.of_strands (t.announceExpires_strands k)).carries
  stallExpires t h := h.trans t.stallExpires_keepsLaws.carries
  scanWaitExpires t i h := h.trans (t.scanWaitExpires_keepsLaws i).carries
  evaluationCompletes t i h := h.trans (t.evaluationCompletes_keepsLaws i).carries
  restarted t _ h := h.trans t.restarted_keepsLaws.carries

theorem carries_requests (s : State) : RequestsKeep s.Carries where
  op t c u h hs := by
    refine hs.trans (State.Keeps.carries ?_)
    cases h with
    | nothing => exact .refl t
    | hold _ h => exact .of_strands (by simp)
    | release _ h => exact .of_strands (t.requestRelease_strands h)
    | start _ i idle => exact State.startStrand_keepsLaws idle
    | stop _ i => exact t.endRun_keepsLaws i
    | reset _ i => exact t.resetStrand_keepsLaws i
    | clear => exact t.clearCounters_keepsLaws
    | restart idle => exact .of_strands rfl
    | switch _ _ i => exact t.acceptSwitch_keepsLaws i
    | config _ _ p i slots idle => exact State.configure_keepsLaws idle slots p
    | travel => exact .of_strands rfl
    | calibrate _ _ _ _ h => exact .of_strands rfl
    | route => exact .of_strands rfl
    | target n => exact .of_strands rfl
    | refuseWrite | cancel => exact .modStrand (.of_core rfl)
    | geometry | tolerance | header | copy => exact .modStrand (.of_core (Strand.writeBank_core ..))
  countRequest t st h := h.trans (State.Keeps.of_strands (by simp)).carries
  offerReply t r h := h.trans (State.Keeps.of_strands (by simp)).carries

/-- Settles O7: every operation of a step carries the laws over, and a power-on reset meets them all. -/
theorem strandLawsKept : Obligations.StrandLawsKept := by
  intro s t laws stepped
  have powerOn (straps : Fin 8) : s.Carries (State.powerOn straps) := by
    obtain ⟨-, -, -, -, -, pool, strands⟩ := lawsHoldAtReset straps
    refine fun _ => ⟨fun i => ?_, fun _ => ⟨fun i => ?_, fun _ => pool, fun _ i => ?_⟩⟩
    all_goals obtain ⟨lists, quiet, map, sets, order, cover, -⟩ := strands i
    · exact ⟨lists, quiet, map⟩
    · exact sets
    · exact ⟨order, cover⟩
  have carried : s.Carries t := step_keeps (P := s.Carries) (fun hr hp h he => (carries_events s).exec hr hp h he)
    (carries_requests s) (fun u rest h => h.trans (State.Keeps.of_strands rfl).carries)
    (fun u h => h.trans (State.Keeps.of_strands rfl).carries) powerOn stepped (State.Keeps.refl s).carries
  exact carried laws

end Sys2Proof.Machine
end
